-- ==== Sys2Proof/Word.lean ====
section
/-!
DEFINITION. The byte of the host link and of the unit bus, and the unit of time.
Time is counted in ticks of 1/9600 s, one bit time of the unit bus (R167), so that 25 ms, 40 ms, 100 ms, 1 s and the
response limits of R170 are whole numbers of ticks (DESIGN CHOICE, unsafe:
notes/assumptions/1.md).
-/
namespace Sys2Proof

/-- A byte of a host link frame (Table 10-1) or of a unit bus frame (Table 9-2). -/
abbrev Byte := BitVec 8

/-- A time in ticks of 1/9600 s (R167). -/
abbrev Ticks := Nat

/-- An ADC code, 12 bits (R21). -/
abbrev Code := BitVec 12

end Sys2Proof
end

