-- ==== Sys2Proof/Config.lean ====
section
/-!
DEFINITION. What an implementation of the part fixes and the spec leaves open.
-/
namespace Sys2Proof

/-- The silicon revision number, "a constant fixed in the part that no request or reset changes" (R200).
The spec gives no value: it is a constant without a body, so nothing can be proved of its value
(safe: notes/assumptions/11.md). -/
opaque Config.siliconRevision : Byte

end Sys2Proof
end

