-- ==== Sys2Proof/Syntax.lean ====
section
/-!
DEFINITION. The commands: one constructor of Instr for each row of spec/opcode_table.json, with the row's operands,
and the names they range over (00_scope.md Tables 0-1 and 0-2, Table 2-1).
-/
namespace Sys2Proof

/-- The four zones (Table 0-2), numbered 1 to 4 in this order. -/
inductive Zone where
  | fresh | freeze | flex | ice
  deriving DecidableEq, Repr

/-- The four door switches (Table 0-1). -/
inductive Door where
  | freshL | freshR | flex | freeze
  deriving DecidableEq, Repr

/-- The three fans (Table 0-1). -/
inductive Fan where
  | freezer | fresh | condenser
  deriving DecidableEq, Repr

/-- The two evaporator fans, which have a pre-chill record (R92(f)). -/
inductive EvapFan where
  | freezer | fresh
  deriving DecidableEq, Repr

/-- The seven sensing channels (Table 2-1): 1 to 4 the zone air, 5 FR coil, 6 FZ coil, 7 ambient. -/
inductive Channel where
  | air (z : Zone)
  | frCoil | fzCoil | ambient
  deriving DecidableEq, Repr

/-- A character on the host link's receive line: its 8 data bits and whether its stop bit was high; a low stop bit is a
character error (R186). -/
structure RxChar where
  byte : Byte
  stopHigh : Bool
  deriving DecidableEq, Repr

/-- The commands of spec/opcode_table.json, in the table's order. A host link request carries the payload bytes of its
frame (Tables 12-1 to 12-6); its TYPE is Table 10-5's. -/
inductive Instr where
  /-- HARD_RESET: power-on or the RESET line (R197). -/
  | hardReset
  /-- STRAP_READ_COMPLETE: the four strap codes (R2, R197). -/
  | strapReadComplete (c1 c2 c3 c4 : Code)
  /-- HOST_FRAME_RECEIVED: the characters of a frame, or the rest of one, as they stood on the line (R185). -/
  | hostFrameReceived (chars : List RxChar)
  /-- GAP_TIMEOUT: four character times without a further character (R186). -/
  | gapTimeout
  /-- UNKNOWN_REQUEST: the taking of a request whose TYPE names none (R188). -/
  | unknownRequest (type : Byte) (payload : List Byte)
  | identify (payload : List Byte)
  | restart (payload : List Byte)
  | zoneSet (payload : List Byte)
  | zoneTiming (payload : List Byte)
  | zoneEnable (payload : List Byte)
  | flexMode (payload : List Byte)
  | zoneRead (payload : List Byte)
  | doorSet (payload : List Byte)
  | compSet (payload : List Byte)
  | compRead (payload : List Byte)
  | clearLockout (payload : List Byte)
  | arbSet (payload : List Byte)
  | force (payload : List Byte)
  | arbRead (payload : List Byte)
  | readmit (payload : List Byte)
  | defrostSet (payload : List Byte)
  | defrostStart (payload : List Byte)
  | defrostAbort (payload : List Byte)
  | defrostRead (payload : List Byte)
  | eventMask (payload : List Byte)
  | eventRead (payload : List Byte)
  | unitRead (payload : List Byte)
  | serviceEnter (payload : List Byte)
  | serviceOutput (payload : List Byte)
  | serviceExit (payload : List Byte)
  /-- REPLY_END: the last byte of a reply has gone (R187). -/
  | replyEnd
  /-- NOTICE_START: a pending NOTICE is considered (R193). -/
  | noticeStart
  /-- NOTICE_END: the last byte of NOTICE has gone (R193). -/
  | noticeEnd
  | sensingSweepStart
  /-- SENSOR_READING_ARRIVAL: a conversion of a channel completes with a code (R21, R22). -/
  | sensorReadingArrival (ch : Channel) (code : Code)
  | blindPhaseExpiry (z : Zone)
  | warmTimerExpiry (z : Zone)
  | minDwellMet
  | maxDwellExpiry
  | isolationHoldExpiry (z : Zone)
  | forcedRecordExpiry
  | parkTimerExpiry
  | valveMoveEnd
  | homingDriveEnd
  | routeTimeout
  | preChillTimeout (f : EvapFan)
  | tachPulse (f : Fan)
  | fanStall (f : Fan)
  | fanRestEnd (f : Fan)
  | speedPeriodExpiry
  | minOffElapsed
  | minOnMet
  | runWatchExpiry
  | faultHoldExpiry
  | faultEntryAgeOut
  | postRunExpiry
  | minuteEvaluation
  | maxHeatExpiry
  | timeBlindExpiry
  | dripEnd
  | fanReleaseTimeout
  /-- DOOR_OPENING: the door's input is at the open level (R158). -/
  | doorOpening (d : Door)
  /-- DOOR_CLOSING: the door's input is at the closed level (R158). -/
  | doorClosing (d : Door)
  /-- DOOR_FIRST_READING: the input of an UNREAD door is at a level, open or closed (R158). -/
  | doorFirstReading (d : Door) (isOpen : Bool)
  | ajarDelayReached (z : Zone)
  | slotBoundary
  | setExchangeSuccess
  /-- STATUS_EXCHANGE_SUCCESS: the levels on the unit bus line in the slot's bit times up to now (R167, R170, R171). -/
  | statusExchangeSuccess (heard : List Bool)
  /-- EXCHANGE_FAILURE: the levels on the unit bus line in the slot's bit times up to now (R167, R173). -/
  | exchangeFailure (heard : List Bool)
  /-- RESPONSE_LIMIT_EXPIRY: the levels on the unit bus line in the slot's bit times up to now (R167, R170, R173). -/
  | responseLimitExpiry (heard : List Bool)
  /-- FAULT_CHECK_EXPIRY: the levels on the unit bus line in the last 10 bit times (R179). -/
  | faultCheckExpiry (line : List Bool)
  | serviceTimerExpiry
  /-- HOST_CHARACTER_RECEIVED: one character on the receive line (R184 to R186). -/
  | hostCharacterReceived (c : RxChar)
  deriving DecidableEq, Repr

end Sys2Proof
end

