-- ==== Sys2Proof/Machine/State.lean ====
section
/-!
DEFINITION. The state of the part, block by block (00_scope.md Table 0-3), as plain data; the reasons a step can stop;
and the state right after a hard reset (R197, with the reset tables of each chapter).
-/
namespace Sys2Proof.Machine

/-- One value for each zone (Table 0-2). -/
structure PerZone (α : Type) where
  fresh : α
  freeze : α
  flex : α
  ice : α
  deriving DecidableEq, Repr

/-- One value for each door (Table 8-1). -/
structure PerDoor (α : Type) where
  freshL : α
  freshR : α
  flex : α
  freeze : α
  deriving DecidableEq, Repr

/-- One value for each fan (R92(g)). -/
structure PerFan (α : Type) where
  freezer : α
  fresh : α
  condenser : α
  deriving DecidableEq, Repr

/-- One value for each unit of the unit bus (Table 9-3). -/
structure PerUnit (α : Type) where
  inverter : α
  damper : α
  ice : α
  deriving DecidableEq, Repr

/-- The units of the unit bus, addresses 1 to 3 (Table 9-3). -/
inductive BusUnit where
  | inverter | damper | ice
  deriving DecidableEq, Repr

/-- Service modes (Table 1-7). -/
inductive ServiceMode where
  | off | isolated | held | noRoute | blind | normal
  deriving DecidableEq, Repr

/-- Statuses of a reply (Table 10-4). -/
inductive Status where
  | ok | clamped | unknown | badLength | badValue | notNow | notPresent
  deriving DecidableEq, Repr

/-! ## Mode control and the strap (R196, R2 to R4) -/

/-- Operating state (Table 0-4). -/
inductive OpState where
  | init | run | service
  deriving DecidableEq, Repr

/-- The reset that began the present INIT (R196). -/
inductive StartCause where
  | hardReset | restart
  deriving DecidableEq, Repr

/-- The state of mode control (R196). -/
structure ModeControl where
  opState : OpState
  startCause : StartCause
  /-- time left of the service timer (R196, R203) -/
  serviceTimer : Option Ticks
  deriving DecidableEq, Repr

/-- Variant class (Table 1-3). -/
inductive Variant where
  | a | b | c | d
  deriving DecidableEq, Repr

/-- Strap classification and strap result (Table 1-2, R3). -/
inductive StrapResult where
  | a | b | c | d | isOpen | error
  deriving DecidableEq, Repr

/-- The variant strap reader (R2, R3). -/
structure Strap where
  /-- the time of the strap read that a hard reset starts, none once it has completed (R2, R197) -/
  reading : Option Ticks
  variant : Variant
  result : StrapResult
  fault : Bool
  deriving DecidableEq, Repr

/-! ## Settings: what requests write and RESTART keeps (Table 11-2) -/

/-- Settings of a zone record (Table 1-1). -/
structure ZoneSettings where
  enabled : Bool
  setpoint : Int
  hu : Nat
  hd : Nat
  fs : Nat
  deriving DecidableEq, Repr

/-- FLEX modes (Table 1-6). -/
inductive FlexMode where
  | fresh | chill | soft | freeze
  deriving DecidableEq, Repr

/-- The ring a zone belongs to (R60). -/
inductive Level where
  | l1 | group
  deriving DecidableEq, Repr

/-- Speed cap in rpm and dwell times in minutes (R86). -/
structure ZoneTiming where
  speedCap : Nat
  minDwell : Nat
  maxDwell : Nat
  deriving DecidableEq, Repr

/-- Park mode (R81, R87). -/
inductive ParkMode where
  | close | hold
  deriving DecidableEq, Repr

/-- Arbitration parameters (R87): max wait in min, park delay in s, progress threshold in 0.1 degree C, isolation hold in
min. -/
structure ArbParams where
  maxWait : Nat
  parkDelay : Nat
  parkMode : ParkMode
  progress : Nat
  isolationHold : Nat
  deriving DecidableEq, Repr

/-- Compressor parameters (R133): rpm, rpm, rpm, s, s. -/
structure CompParams where
  nMin : Nat
  nMax : Nat
  ramp : Nat
  minOn : Nat
  minOff : Nat
  deriving DecidableEq, Repr

/-- Defrost parameters other than Th (R153): min, credit, 0.1 degree C, min, min. -/
structure DefrostParams where
  eMax : Nat
  w : Nat
  termTemp : Int
  maxHeat : Nat
  drip : Nat
  deriving DecidableEq, Repr

/-- Door parameters (R164): s, and the recovery boost B. -/
structure DoorParams where
  ajarDelay : Nat
  boost : Nat
  deriving DecidableEq, Repr

/-- All the settings (Table 11-2, column "Kept"). -/
structure Settings where
  zone : PerZone ZoneSettings
  flexMode : FlexMode
  level : PerZone Level
  timing : PerZone ZoneTiming
  arb : ArbParams
  comp : CompParams
  defrost : DefrostParams
  door : DoorParams
  deriving DecidableEq, Repr

/-! ## Sensing block (R20) -/

/-- Channel states (Table 2-2). -/
inductive ChanState where
  | starting | valid | fault | recovering
  deriving DecidableEq, Repr

/-- The state of one channel (R20). -/
structure ChannelRec where
  state : ChanState
  window : List Int
  invalid : Nat
  run : List Int
  /-- F, present while VALID -/
  filtered : Option Int
  deriving DecidableEq, Repr

/-- The seven channels, and the sweep (R21): the channel converted next, and the time since the sweep began. -/
structure Sensing where
  air : PerZone ChannelRec
  frCoil : ChannelRec
  fzCoil : ChannelRec
  ambient : ChannelRec
  next : Option Channel
  sweepTimer : Option Ticks
  deriving DecidableEq, Repr

/-! ## Door monitor (R157) -/

/-- Door states (R157(a)). -/
inductive DoorState where
  | unread | closed | isOpen
  deriving DecidableEq, Repr

/-- One door (R157(a)): state; debounce record, that is the input level last sampled (open being true) and the time it has
been stable, 0 to 100 ms; open time. -/
structure DoorRec where
  state : DoorState
  sample : Bool
  stable : Ticks
  openFor : Ticks
  deriving DecidableEq, Repr

/-- The door marks of one zone (R157(b)). -/
structure ZoneDoor where
  isOpen : Bool
  openFor : Ticks
  ajar : Bool
  recovery : Bool
  deriving DecidableEq, Repr

/-- The door monitor. `input` is the level on each door input pin, open being true: the pins are the sender's, and no reset
moves them. -/
structure Doors where
  sampling : Bool
  input : PerDoor Bool
  door : PerDoor DoorRec
  zone : PerZone ZoneDoor
  deriving DecidableEq, Repr

/-! ## Zone table (Table 1-1, less the settings) -/

/-- Demand state (R40); also the phase of the blind timer (R47). -/
inductive Demand where
  | satisfied | calling
  deriving DecidableEq, Repr

/-- The blind timer: phase and time left (R46, R47). -/
structure Blind where
  phase : Demand
  left : Ticks
  deriving DecidableEq, Repr

/-- The part of a zone record that a reset clears (Table 1-8). -/
structure ZoneRec where
  demand : Demand
  /-- D, 0..100 (R41) -/
  level : Nat
  blind : Option Blind
  /-- running mark of the warm timer (R52) -/
  warmRunning : Bool
  /-- time gathered by the warm timer (R53) -/
  warmFor : Ticks
  /-- WARM -/
  warm : Bool
  noProgress : Nat
  /-- time left of the isolation hold (R85) -/
  isolation : Option Ticks
  holdDefrost : Bool
  holdHarvest : Bool
  deriving DecidableEq, Repr

/-! ## Cooling arbiter (Table 4-1) -/

/-- Why a zone was granted (Table 4-3). -/
inductive GrantReason where
  | rotation | forced | aged | recovery | regrant
  deriving DecidableEq, Repr

/-- Phase of the grant (Table 4-3). -/
inductive GrantPhase where
  | routing | cooling
  deriving DecidableEq, Repr

/-- Why a grant ended (Table 4-4). -/
inductive EndReason where
  | satisfied | maxDwell | preempted | ineligible | routeFault | compUnavailable | service
  deriving DecidableEq, Repr

/-- The grant record (Table 4-3). -/
structure Grant where
  zone : Zone
  reason : GrantReason
  phase : GrantPhase
  coolingFor : Ticks
  minLeft : Ticks
  maxLeft : Ticks
  startTemp : Option Int
  door : Bool
  continuation : Bool
  deriving DecidableEq, Repr

/-- The most recent grant end (R79(b)). -/
structure LastEnd where
  zone : Zone
  reason : EndReason
  deriving DecidableEq, Repr

/-- An entry of the waiting list (R56, R58). -/
structure Waiting where
  zone : Zone
  waited : Ticks
  deriving DecidableEq, Repr

/-- An entry of the first-level ring, and the value of P1 (R60, R61). -/
inductive Turn where
  | zone (z : Zone)
  | group
  deriving DecidableEq, Repr

/-- The forced-priority record (R66). -/
structure Forced where
  zone : Zone
  left : Ticks
  deriving DecidableEq, Repr

/-- Idle sub-states (Table 4-5). -/
inductive IdleState where
  | inactive | runout | parkDelay | parked | rehome
  deriving DecidableEq, Repr

/-- The cooling arbiter (Table 4-1). -/
structure Arbiter where
  grant : Option Grant
  lastEnd : Option LastEnd
  waiting : List Waiting
  p1 : Option Turn
  p2 : Option Zone
  forced : Option Forced
  claim : Bool
  idle : Option IdleState
  parkTimer : Option Ticks
  /-- the park mode in use since the last entry to PARK_DELAY (R81) -/
  parkMode : ParkMode
  /-- the last route, which RUNOUT keeps (R80, R94); none where no route had been applied (R82) -/
  lastRoute : Option Zone
  deriving DecidableEq, Repr

/-! ## Route controller (R92) -/

/-- Named positions of the valve (Table 5-3). -/
inductive ValvePos where
  | closed | fr | fz
  deriving DecidableEq, Repr

/-- A move under way: its own target and the time into the step in flight (R95). -/
structure Move where
  target : ValvePos
  step : Ticks
  deriving DecidableEq, Repr

/-- Homing activity (R92(c)). -/
inductive Homing where
  | none | homing | rehome
  deriving DecidableEq, Repr

/-- A rehome asked of the route controller, with the final position it is to take: CLOSED, or the position held
(R99). -/
inductive RehomeAsk where
  | none | toClosed | toHeld
  deriving DecidableEq, Repr

/-- The valve record (R92(b), (c)). -/
structure Valve where
  homed : Bool
  counter : Nat
  target : Option ValvePos
  move : Option Move
  rest : Option ValvePos
  outletMoves : Nat
  homing : Homing
  /-- time into the 184-step drive (R98) -/
  drive : Option Ticks
  /-- a rehome asked whose drive has not begun, because a move under way completes first (R99) -/
  rehomeAsk : RehomeAsk
  rehomeFinal : ValvePos
  deriving DecidableEq, Repr

/-- The damper record (R92(d)). -/
structure Dampers where
  flex : Nat
  ice : Nat
  prevFlex : Nat
  prevIce : Nat
  confirmed : Bool
  /-- a DAMPER_SET carrying the present targets has succeeded (R101) -/
  setMark : Bool
  deriving DecidableEq, Repr

/-- The route application (R92(e)). -/
structure RouteApp where
  zone : Zone
  timer : Ticks
  inPlace : Bool
  changedFlex : Bool
  changedIce : Bool
  deriving DecidableEq, Repr

/-- The pre-chill record of an evaporator fan (R92(f)). -/
inductive PreChill where
  | absent
  | running (elapsed : Ticks)
  | ended
  deriving DecidableEq, Repr

/-- One fan (R92(g)). -/
structure FanRec where
  commanded : Nat
  output : Nat
  watch : Ticks
  stalled : Bool
  /-- time into the 50 s rest, while the fan rests (R111) -/
  rest : Option Ticks
  deriving DecidableEq, Repr

/-- The route controller (R92). -/
structure Route where
  valve : Valve
  dampers : Dampers
  app : Option RouteApp
  preFreezer : PreChill
  preFresh : PreChill
  fans : PerFan FanRec
  deriving DecidableEq, Repr

/-! ## Compressor controller (R115) -/

/-- Compressor states (Table 6-1). -/
inductive CompState where
  | stopped | running | faultHold | lockout | invLost
  deriving DecidableEq, Repr

/-- Source of a fault (R129). -/
inductive FaultSource where
  | inverter | start
  deriving DecidableEq, Repr

/-- An entry of the compressor's fault list (R129). -/
structure FaultEntry where
  age : Ticks
  source : FaultSource
  code : Byte
  deriving DecidableEq, Repr

/-- The inverter's own state (Table 12-8). -/
inductive InvState where
  | stopped | starting | running | fault
  deriving DecidableEq, Repr

/-- The data of an INV_STATUS as applied (Table 12-8). -/
structure InvStatus where
  state : InvState
  code : Byte
  speedLow : Byte
  speedHigh : Byte
  heatsink : Byte
  deriving DecidableEq, Repr

/-- The compressor controller (R115). -/
structure Compressor where
  state : CompState
  /-- P -/
  command : Nat
  /-- N -/
  target : Option Nat
  runFor : Ticks
  stopFor : Ticks
  speedTimer : Option Ticks
  runWatch : Option Ticks
  hold : Option Ticks
  faults : List FaultEntry
  lastInv : Option InvStatus
  lossMark : Bool
  serviceSpeed : Nat
  fanLevel : Nat
  postRun : Option Ticks
  deriving DecidableEq, Repr

/-! ## Defrost controller (R137) -/

/-- Defrost phases (Table 7-1). -/
inductive DefrostPhase where
  | idle | pending | heat | drip | recover
  deriving DecidableEq, Repr

/-- Cause of a defrost (R139). -/
inductive DefrostCause where
  | credit | elapsed | host
  deriving DecidableEq, Repr

/-- Termination of a defrost (R143, R144, R150, R151). -/
inductive Termination where
  | temp | time | timeBlind | abort
  deriving DecidableEq, Repr

/-- The minute period (R137(e), R138). `unbroken` says that in the second under way the compressor has been commanded on
with the valve at the FZ outlet throughout. -/
structure Minute where
  elapsed : Ticks
  fzRun : Nat
  unbroken : Bool
  door : Bool
  deriving DecidableEq, Repr

/-- The context of a defrost in progress (R139). -/
structure DefrostContext where
  cause : DefrostCause
  creditAtStart : Nat
  termTemp : Int
  maxHeat : Nat
  drip : Nat
  heatFor : Ticks
  dripFor : Ticks
  termination : Option Termination
  blind : Bool
  peak : Option Int
  deriving DecidableEq, Repr

/-- The defrost report (R152). -/
structure DefrostReport where
  cause : DefrostCause
  termination : Termination
  heatFor : Ticks
  dripFor : Ticks
  peak : Option Int
  creditAtStart : Nat
  thAfter : Nat
  deriving DecidableEq, Repr

/-- The defrost controller (R137). -/
structure Defrost where
  phase : DefrostPhase
  /-- C -/
  credit : Nat
  /-- E -/
  elapsed : Nat
  /-- Th -/
  th : Nat
  minute : Option Minute
  phaseFor : Ticks
  context : Option DefrostContext
  fanBlock : Bool
  heater : Bool
  report : Option DefrostReport
  deriving DecidableEq, Repr

/-! ## Unit bus controller (R166) -/

/-- Bus modes (Table 9-7). -/
inductive BusMode where
  | stopped | active | fault
  deriving DecidableEq, Repr

/-- The slots of the schedule (Table 9-3). -/
inductive Slot where
  | s1 | s2 | s3 | s4 | s5 | s6
  deriving DecidableEq, Repr

/-- The exchange in flight: its slot; in a SET slot, the data bytes of its frame (R168); and the levels read on the line in
the bit times of the slot so far, high being true, of which the bytes sent and received so far are views (R166(c), R167). -/
structure Exchange where
  slot : Slot
  data : List Byte
  heard : List Bool
  deriving DecidableEq, Repr

/-- The deferred mode change: none, a stop at the end of the slot in flight, or that stop with an opening to follow it
(R166(e), R180). -/
inductive Deferred where
  | none | stop | stopThenOpen
  deriving DecidableEq, Repr

/-- Unit states (R175). -/
inductive UnitState where
  | absent | unknown | online | suspect | lost
  deriving DecidableEq, Repr

/-- Last error kind of a unit (R166(f)). -/
inductive ErrorKind where
  | none | echo | line | noResponse | timeout | framing | check
  deriving DecidableEq, Repr

/-- An entry of the unit table (R166(f)). -/
structure UnitRec where
  state : UnitState
  failures : Nat
  lastError : ErrorKind
  payload : Option (List Byte)
  deriving DecidableEq, Repr

/-- The unit bus controller (R166). `line` is the levels read on the line in the last bit times of FAULT, newest last, high
being true, at most 10 of them (R179). -/
structure Bus where
  mode : BusMode
  position : Option Slot
  slotFor : Ticks
  exchange : Option Exchange
  checkTimer : Option Ticks
  line : List Bool
  deferred : Deferred
  unit : PerUnit UnitRec
  deriving DecidableEq, Repr

/-! ## Host link and event unit (R183, R190) -/

/-- Receiver states (Table 10-2). -/
inductive Receiver where
  | hunt | length | body | check
  deriving DecidableEq, Repr

/-- Transmitter states (R183(f)). -/
inductive Transmitter where
  | idle | sendingNotice | sendingReply
  deriving DecidableEq, Repr

/-- The host link (R183). `sending` is the frame on the wire and `sendLeft` the half ticks it still takes; `reply` is the
reply built at the taking of a request, kept until its last byte has gone; `restartDue` says that reply is RESTART's. -/
structure Link where
  isOpen : Bool
  receiver : Receiver
  len : Nat
  buffer : List Byte
  gap : Ticks
  handling : Bool
  noticePending : Bool
  transmitter : Transmitter
  sending : List Byte
  sendLeft : Nat
  reply : Option (List Byte)
  restartDue : Bool
  deriving DecidableEq, Repr

/-- A set of the event unit, bit b being condition b of Tables 10-6 and 10-7. -/
structure EventSet where
  live : Byte
  rise : Byte
  fall : Byte
  latched : Byte
  deriving DecidableEq, Repr

/-- The five sets of the event unit. -/
structure Events where
  device : EventSet
  zone : PerZone EventSet
  deriving DecidableEq, Repr

/-- The values of SERVICE_OUTPUT as stored, less the service speed (R202). -/
structure Service where
  valve : ValvePos
  damperFlex : Nat
  damperIce : Nat
  fanFreezer : Nat
  fanFresh : Nat
  fanCondenser : Nat
  heater : Bool
  deriving DecidableEq, Repr

/-- The state of the part, and the queue of the commands that are waiting, first in first out. -/
structure State where
  mode : ModeControl
  strap : Strap
  settings : Settings
  sensing : Sensing
  doors : Doors
  zones : PerZone ZoneRec
  arb : Arbiter
  route : Route
  comp : Compressor
  defrost : Defrost
  bus : Bus
  link : Link
  events : Events
  service : Service
  pending : List Instr
  deriving DecidableEq, Repr

/-- Faults: none. The spec stops the part nowhere: the compressor's faults (R128), a channel's FAULT (R30) and the bus's
FAULT mode (R179) are states of the part. -/
inductive Fault where
  deriving DecidableEq, Repr

/-- Refusals. -/
inductive Refusal where
  /-- Raised by a dispatch arm of a command that has no meaning yet; no arm raises it. Safe: the machine stops. -/
  | notModelled (mnemonic : String)
  deriving DecidableEq, Repr

/-! ## Reset values -/

/-- A channel after either reset (Table 2-6). -/
def ChannelRec.reset : ChannelRec :=
  ⟨.starting, [], 0, [], none⟩

/-- A zone record's part that either reset clears (Table 1-8). -/
def ZoneRec.reset : ZoneRec :=
  ⟨.satisfied, 0, none, false, 0, false, 0, none, false, false⟩

/-- A door after either reset (Table 8-3). The debounce record is restarted: the time stable is 0, and the level, which is
sampled anew before it counts, stands at closed until then (DESIGN CHOICE, unsafe: notes/assumptions/12.md). -/
def DoorRec.reset : DoorRec := ⟨.unread, false, 0, 0⟩

/-- The door marks of a zone after either reset (Table 8-3). -/
def ZoneDoor.reset : ZoneDoor := ⟨false, 0, false, false⟩

/-- The same value for every zone. -/
def PerZone.all {α : Type} (a : α) : PerZone α := ⟨a, a, a, a⟩

/-- The default settings (Tables 1-4, 1-5, 1-6 and 4-6, R87, R133, R153, R164). The enables are those of variant A until
the strap read completes (R8; DESIGN CHOICE, unsafe: notes/assumptions/9.md). -/
def Settings.reset : Settings where
  zone :=
    { fresh := ⟨true, 30, 10, 10, 40⟩
      freeze := ⟨true, -180, 15, 15, 60⟩
      flex := ⟨false, 30, 10, 10, 40⟩
      ice := ⟨false, -150, 20, 20, 60⟩ }
  flexMode := .fresh
  level := ⟨.l1, .l1, .group, .group⟩
  timing :=
    { fresh := ⟨3600, 3, 20⟩
      freeze := ⟨4500, 4, 30⟩
      flex := ⟨4000, 3, 15⟩
      ice := ⟨4000, 2, 10⟩ }
  arb := ⟨45, 120, .close, 5, 60⟩
  comp := ⟨1600, 4500, 200, 120, 300⟩
  defrost := ⟨4320, 8, 80, 40, 5⟩
  door := ⟨120, 20⟩

/-- The sensing block after a hard reset (Table 2-6): no sweep until the strap read completes. -/
def Sensing.reset : Sensing :=
  ⟨.all .reset, .reset, .reset, .reset, none, none⟩

/-- The door monitor after a hard reset (Table 8-3): not sampling until the strap read completes. The pins stand at the
closed level (DESIGN CHOICE, unsafe: notes/assumptions/12.md). -/
def Doors.reset : Doors :=
  ⟨false, ⟨false, false, false, false⟩, ⟨.reset, .reset, .reset, .reset⟩, .all .reset⟩

/-- The door monitor after a reset that finds the pins as they are. -/
def Doors.resetKeeping (d : Doors) : Doors := { Doors.reset with input := d.input }

/-- The arbiter after either reset (Table 4-7). The park mode in use is CLOSE until an entry to PARK_DELAY
(DESIGN CHOICE, safe: notes/assumptions/31.md). -/
def Arbiter.reset : Arbiter :=
  ⟨none, none, [], none, none, none, false, some .inactive, none, .close, none⟩

/-- The valve record after a hard reset (Table 5-5). The counter "has no meaning" until homed
(DESIGN CHOICE, unsafe: notes/assumptions/10.md), and the final position of a rehome is replaced before it is read
(notes/assumptions/14.md). -/
def Valve.reset : Valve :=
  ⟨false, 0, none, none, none, 0, .none, none, .none, .closed⟩

/-- A fan after either reset (Table 5-5). -/
def FanRec.reset : FanRec := ⟨0, 0, 0, false, none⟩

/-- The route controller after a hard reset (Table 5-5). -/
def Route.reset : Route :=
  ⟨.reset, ⟨0, 0, 0, 0, false, false⟩, none, .absent, .absent, ⟨.reset, .reset, .reset⟩⟩

/-- The compressor controller after a hard reset (Table 6-5); the fan level is 0 (DESIGN CHOICE, unsafe:
notes/assumptions/25.md). -/
def Compressor.reset : Compressor :=
  ⟨.stopped, 0, none, 0, 0, none, none, none, [], none, false, 0, 0, none⟩

/-- The defrost controller after a hard reset (Table 7-3). -/
def Defrost.reset : Defrost :=
  ⟨.idle, 0, 0, 1440, none, 0, none, false, false, none⟩

/-- A unit's entry after either reset, from whether the variant expects the unit (Table 9-8, R4). -/
def UnitRec.reset (expected : Bool) : UnitRec :=
  ⟨if expected then .unknown else .absent, 0, .none, none⟩

/-- The unit bus controller after a hard reset (Table 9-8); the unit table is variant A's until the strap read completes
(DESIGN CHOICE, unsafe: notes/assumptions/9.md). The slot timer, for which Table 9-8 gives no value, is held at 0 without a
slot (DESIGN CHOICE, safe: notes/assumptions/34.md). -/
def Bus.reset : Bus :=
  ⟨.stopped, none, 0, none, none, [], .none, ⟨.reset true, .reset false, .reset false⟩⟩

/-- The host link after a hard reset (Table 10-8): closed. -/
def Link.reset : Link :=
  ⟨false, .hunt, 0, [], 0, false, false, .idle, [], 0, none, false⟩

/-- The event unit after a hard reset (Table 10-8): rise enables of zone sets DOOR_AJAR (bit 3), SENSOR_FAULT (4),
ISOLATED (5) and WARM (7); of the device set all eight. -/
def Events.reset : Events :=
  ⟨⟨0x00, 0xFF, 0x00, 0x00⟩, .all ⟨0x00, 0xB8, 0x00, 0x00⟩⟩

/-- The stored service settings after a hard reset and after a RESTART (R202). -/
def Service.reset : Service := ⟨.closed, 0, 0, 0, 0, 0, false⟩

/-- The part right after a hard reset, the strap read under way (R197). Variant class, strap result and flag are
those of class A until the read completes (DESIGN CHOICE, unsafe: notes/assumptions/9.md). -/
def State.reset : State where
  mode := ⟨.init, .hardReset, none⟩
  strap := ⟨some 0, .a, .a, false⟩
  settings := .reset
  sensing := .reset
  doors := .reset
  zones := .all .reset
  arb := .reset
  route := .reset
  comp := .reset
  defrost := .reset
  bus := .reset
  link := .reset
  events := .reset
  service := .reset
  pending := []

end Sys2Proof.Machine
end

