-- ==== Sys2Proof/Machine/Ops.lean ====
section
/-!
DEFINITION. The named operations over the state: times, reading and writing by zone, door, fan, unit and channel, the
fixed tables of the zones (Tables 0-2, 1-3, 5-1, 5-3), and the conditions several blocks read.
-/
namespace Sys2Proof

/-- Zone numbers (Table 0-2). -/
def Zone.number : Zone → Nat
  | .fresh => 1
  | .freeze => 2
  | .flex => 3
  | .ice => 4

/-- The zone a zone number names; none outside 1..4. -/
def Zone.ofNumber : Nat → Option Zone
  | 1 => some .fresh
  | 2 => some .freeze
  | 3 => some .flex
  | 4 => some .ice
  | _ => none

/-- The zones in zone-number order. -/
def Zone.all : List Zone := [.fresh, .freeze, .flex, .ice]

/-- A zone cooled by the freezer evaporator: FREEZE, FLEX or ICE (Table 0-5). -/
def Zone.fzOutlet : Zone → Bool
  | .fresh => false
  | _ => true

/-- The evaporator fan of the zone's route (Table 5-1). -/
def Zone.fan : Zone → EvapFan
  | .fresh => .fresh
  | _ => .freezer

/-- The drive of the route's evaporator fan in percent (Table 5-1). -/
def Zone.fanDrive : Zone → Nat
  | .fresh => 80
  | .freeze => 100
  | .flex => 70
  | .ice => 60

/-- The FLEX and ICE damper targets of the route (Table 5-1). -/
def Zone.dampers : Zone → Nat × Nat
  | .fresh => (0, 0)
  | .freeze => (0, 0)
  | .flex => (100, 0)
  | .ice => (0, 100)

/-- The doors counted as the zone's doors (Table 0-2). -/
def Zone.doors : Zone → List Door
  | .fresh => [.freshL, .freshR]
  | .freeze => [.freeze]
  | .flex => [.flex]
  | .ice => [.freshL]

/-- The zones a door opens, before presence is asked (Table 8-1). -/
def Door.zones : Door → List Zone
  | .freshL => [.fresh, .ice]
  | .freshR => [.fresh]
  | .flex => [.flex]
  | .freeze => [.freeze]

namespace Machine

/-- The outlet of the zone's route (Table 5-1). -/
def outletOf : Zone → ValvePos
  | .fresh => .fr
  | _ => .fz

/-- Position counter of a named valve position (Table 5-3). -/
def ValvePos.counter : ValvePos → Nat
  | .closed => 16
  | .fr => 64
  | .fz => 112

/-! ## Times -/

/-- Seconds as ticks. -/
def sec (n : Nat) : Ticks := n * 9600

/-- Minutes as ticks. -/
def mins (n : Nat) : Ticks := n * 576000

/-- The largest count of seconds a saturating counter holds, 65535, as ticks. -/
def satTicks : Ticks := 65535 * 9600

/-- Whole seconds of a time that counts up. -/
def elapsedSecs (t : Ticks) : Nat := t / 9600

/-- Seconds shown of a time that counts down: those not yet complete count whole. -/
def leftSecs (t : Ticks) : Nat := (t + 9599) / 9600

/-- Remaining minutes rounded up (R18, R88, R90). -/
def leftMins (t : Ticks) : Nat := (t + 575999) / 576000

/-- A time that counts up stands one tick before its limit or past that point: its event falls due with the next tick
(DESIGN CHOICE, safe: notes/assumptions/3.md). -/
def dueUp (limit t : Ticks) : Bool := limit ≤ t + 1

/-- A time that counts down has its last tick left, or none. -/
def dueDown (t : Ticks) : Bool := t ≤ 1

/-! ## Reading and writing one zone, door, fan or unit -/

def PerZone.get {α : Type} (p : PerZone α) : Zone → α
  | .fresh => p.fresh
  | .freeze => p.freeze
  | .flex => p.flex
  | .ice => p.ice

def PerZone.set {α : Type} (p : PerZone α) (z : Zone) (a : α) : PerZone α :=
  match z with
  | .fresh => { p with fresh := a }
  | .freeze => { p with freeze := a }
  | .flex => { p with flex := a }
  | .ice => { p with ice := a }

/-- Every zone's value through a function of the zone. -/
def PerZone.map {α β : Type} (f : Zone → α → β) (p : PerZone α) : PerZone β :=
  ⟨f .fresh p.fresh, f .freeze p.freeze, f .flex p.flex, f .ice p.ice⟩

def PerDoor.get {α : Type} (p : PerDoor α) : Door → α
  | .freshL => p.freshL
  | .freshR => p.freshR
  | .flex => p.flex
  | .freeze => p.freeze

def PerDoor.set {α : Type} (p : PerDoor α) (d : Door) (a : α) : PerDoor α :=
  match d with
  | .freshL => { p with freshL := a }
  | .freshR => { p with freshR := a }
  | .flex => { p with flex := a }
  | .freeze => { p with freeze := a }

def PerFan.get {α : Type} (p : PerFan α) : Fan → α
  | .freezer => p.freezer
  | .fresh => p.fresh
  | .condenser => p.condenser

def PerFan.set {α : Type} (p : PerFan α) (f : Fan) (a : α) : PerFan α :=
  match f with
  | .freezer => { p with freezer := a }
  | .fresh => { p with fresh := a }
  | .condenser => { p with condenser := a }

def PerUnit.get {α : Type} (p : PerUnit α) : BusUnit → α
  | .inverter => p.inverter
  | .damper => p.damper
  | .ice => p.ice

def PerUnit.set {α : Type} (p : PerUnit α) (u : BusUnit) (a : α) : PerUnit α :=
  match u with
  | .inverter => { p with inverter := a }
  | .damper => { p with damper := a }
  | .ice => { p with ice := a }

def Sensing.get (n : Sensing) : Channel → ChannelRec
  | .air z => n.air.get z
  | .frCoil => n.frCoil
  | .fzCoil => n.fzCoil
  | .ambient => n.ambient

def Sensing.set (n : Sensing) (ch : Channel) (r : ChannelRec) : Sensing :=
  match ch with
  | .air z => { n with air := n.air.set z r }
  | .frCoil => { n with frCoil := r }
  | .fzCoil => { n with fzCoil := r }
  | .ambient => { n with ambient := r }

/-- Change one zone record. -/
def State.mapZone (s : State) (z : Zone) (f : ZoneRec → ZoneRec) : State :=
  { s with zones := s.zones.set z (f (s.zones.get z)) }

/-- Change the record of the grant, where one exists. -/
def State.mapGrant (s : State) (f : Grant → Grant) : State :=
  { s with arb := { s.arb with grant := s.arb.grant.map f } }

/-- Change one fan. -/
def State.mapFan (s : State) (f : Fan) (g : FanRec → FanRec) : State :=
  { s with route := { s.route with fans := s.route.fans.set f (g (s.route.fans.get f)) } }

/-- Replace the compressor controller's record. -/
def State.setComp (s : State) (c : Compressor) : State := { s with comp := c }

/-! ## Presence and channel conditions -/

/-- Zones present by variant (Table 1-3). -/
def Variant.has : Variant → Zone → Bool
  | _, .fresh => true
  | _, .freeze => true
  | .b, .flex => true
  | .d, .flex => true
  | _, .flex => false
  | .c, .ice => true
  | .d, .ice => true
  | _, .ice => false

/-- Units expected by variant (Table 1-3, R4). -/
def Variant.expects (v : Variant) : BusUnit → Bool
  | .inverter => true
  | .damper => v.has .flex || v.has .ice
  | .ice => v.has .ice

/-- The present field of a zone's record (R1, R4). -/
def State.present (s : State) (z : Zone) : Bool := s.strap.variant.has z

/-- A channel is in FAULT in its consumers' sense: in state FAULT or RECOVERING (R33). -/
def ChannelRec.inFault (r : ChannelRec) : Bool := r.state = .fault || r.state = .recovering

/-- The zone is BLIND: present, with its air channel in FAULT (R11, R33). -/
def State.blind (s : State) (z : Zone) : Bool := s.present z && (s.sensing.air.get z).inFault

/-- Any of the zone's doors of Table 0-2 is OPEN. -/
def State.zoneDoorOpen (s : State) (z : Zone) : Bool :=
  z.doors.any fun d => (s.doors.door.get d).state = .isOpen

/-! ## Conditions of the zone table (R9 to R12) -/

/-- ISOLATED: the isolation hold is present (R11). -/
def State.isolated (s : State) (z : Zone) : Bool := (s.zones.get z).isolation.isSome

/-- HELD: the hold-cause set is not empty (R9). -/
def State.held (s : State) (z : Zone) : Bool := (s.zones.get z).holdDefrost || (s.zones.get z).holdHarvest

/-- Route availability (R10). -/
def State.routeAvailable (s : State) (z : Zone) : Bool :=
  match z with
  | .flex => s.bus.unit.damper.state ≠ .lost
  | .ice => s.bus.unit.damper.state ≠ .lost
  | _ => true

/-- The membership condition (R11(a)). -/
def State.member (s : State) (z : Zone) : Bool :=
  (s.zones.get z).demand = .calling && s.present z && (s.settings.zone.get z).enabled && !s.isolated z

/-- The zone-side selectability condition (R11(b)). -/
def State.zoneSelectable (s : State) (z : Zone) : Bool :=
  s.member z && !s.held z && s.routeAvailable z

/-- The service mode: the first of Table 1-7 that applies (R12). -/
def State.serviceMode (s : State) (z : Zone) : ServiceMode :=
  if !s.present z || !(s.settings.zone.get z).enabled then .off
  else if s.isolated z then .isolated
  else if s.held z then .held
  else if !s.routeAvailable z then .noRoute
  else if s.blind z then .blind
  else .normal

/-! ## Conditions of the arbiter, the route controller and the compressor controller -/

/-- The zone stands on the waiting list. -/
def State.onList (s : State) (z : Zone) : Bool := s.arb.waiting.any fun w => w.zone = z

/-- The zone holds the grant. -/
def State.holds (s : State) (z : Zone) : Bool :=
  match s.arb.grant with
  | some g => g.zone = z
  | none => false

/-- The compressor is available to the arbiter (R116). -/
def State.compAvailable (s : State) : Bool := s.comp.state = .stopped || s.comp.state = .running

/-- The compressor is commanded on (R125(b)). -/
def State.commandedOn (s : State) : Bool := s.comp.command ≠ 0

/-- The terms of R59 for a zone, its place on the list apart. -/
def State.selectable (s : State) (z : Zone) : Bool :=
  s.zoneSelectable z && !(z.fzOutlet && s.defrost.phase = .pending) && s.compAvailable

/-- A waiting zone is selectable (R59). -/
def State.waitingSelectable (s : State) (z : Zone) : Bool := s.onList z && s.selectable z

/-- Min-on has been met (R120). -/
def State.minOnMet (s : State) : Bool := sec s.settings.comp.minOn ≤ s.comp.runFor

/-- Min-off has elapsed (R119). -/
def State.minOffElapsed (s : State) : Bool := sec s.settings.comp.minOff ≤ s.comp.stopFor

/-- The run request (R117). -/
def State.runRequest (s : State) : Bool :=
  match s.mode.opState with
  | .init => false
  | .run => s.arb.grant.isSome || s.arb.idle = some .runout
  | .service => s.comp.serviceSpeed ≠ 0

/-- The valve is at a named position: the counter equals it, the valve is homed, and nothing is under way (R95). -/
def Valve.isAt (v : Valve) (p : ValvePos) : Bool :=
  v.homed && v.move.isNone && v.drive.isNone && v.counter = p.counter

/-- A rehome is asked or its drive is under way, so a route application waits (R103, R70). -/
def Valve.rehoming (v : Valve) : Bool := v.homing = .rehome || v.rehomeAsk ≠ .none

/-- The stepper phase outputs are energized (R95, R98). -/
def State.phasesEnergized (s : State) : Bool := s.route.valve.move.isSome || s.route.valve.drive.isSome

/-- The two reports of R138(a): commanded on, with the valve at the FZ outlet. -/
def State.fzRunning (s : State) : Bool := s.commandedOn && s.route.valve.isAt .fz

/-- A grant of an FZ-outlet zone exists (R55(c)). -/
def State.fzGrant (s : State) : Bool :=
  match s.arb.grant with
  | some g => g.zone.fzOutlet
  | none => false

/-- The idle sub-state is RUNOUT with the last route's outlet at FZ (R55(c)). -/
def State.fzRunout (s : State) : Bool :=
  s.arb.idle = some .runout &&
    match s.arb.lastRoute with
    | some z => z.fzOutlet
    | none => false

/-- Whether a zone's dampers count as confirmed (R102). -/
def State.dampersConfirmed (s : State) (z : Zone) : Bool :=
  match z with
  | .flex => s.route.dampers.confirmed
  | .ice => s.route.dampers.confirmed
  | _ => s.route.dampers.confirmed || s.bus.unit.damper.state = .absent || s.bus.unit.damper.state = .lost

/-- D_eff of the granted zone, in the order of R50; none without a grant. -/
def State.dEff (s : State) : Option Nat :=
  s.arb.grant.map fun g =>
    let d := (s.zones.get g.zone).level
    let boosted := if (s.doors.zone.get g.zone).recovery then min 100 (d + s.settings.door.boost) else d
    let forced :=
      match s.arb.forced with
      | some f => if f.zone = g.zone then max 80 boosted else boosted
      | none => boosted
    if g.continuation then 0 else forced

end Machine
end Sys2Proof
end

