-- ==== Sys2Proof/Machine/CompOps.lean ====
section
/-!
DEFINITION. The shared operations of the compressor controller (Chapter 6): target and commanded speed, start, stop,
faults, loss of the inverter, and the level of the condenser fan.
-/
namespace Sys2Proof.Machine

/-- Rounded down to a multiple of 50 (R122, R133). -/
def down50 (n : Nat) : Nat := n - n % 50

/-- Ta (R36, R123): F of a VALID ambient channel held to at most 500, and 320 otherwise. -/
def State.ambient (s : State) : Int :=
  if s.sensing.ambient.state = .valid then
    match s.sensing.ambient.filtered with
    | some f => min f 500
    | none => 320
  else 320

/-- The ambient offset A (R123). -/
def ambientOffset (ta : Int) : Nat := if 250 < ta then ((ta - 250) * 4).toNat else 0

/-- The target speed in COOLING, step by step (R122). -/
def coolingTarget (c : CompParams) (cap dEff a : Nat) : Nat :=
  let raw := c.nMin + (c.nMax - c.nMin) * dEff / 100 + (if 0 < dEff then a else 0)
  let limited := min raw (min cap c.nMax)
  max c.nMin (down50 limited)

/-- The condenser fan level of Table 6-4 (R132); 100 % while the ambient channel is not VALID. -/
def State.condenserLevel (s : State) : Nat :=
  if s.sensing.ambient.state = .valid then
    let ta := s.ambient
    if ta ≤ 250 then 40
    else if 400 ≤ ta then 100
    else 40 + ((ta - 250) * 60 / 150).toNat
  else 100

/-- The target speed by situation (Table 6-2), for a running compressor. -/
def State.targetSpeed (s : State) : Nat :=
  let c := s.settings.comp
  match s.mode.opState with
  | .service => if s.comp.serviceSpeed = 0 then c.nMin else max c.nMin (min s.comp.serviceSpeed c.nMax)
  | _ =>
    match s.arb.grant with
    | some g =>
      match g.phase with
      | .routing => c.nMin
      | .cooling =>
        coolingTarget c (s.settings.timing.get g.zone).speedCap (s.dEff.getD 0) (ambientOffset s.ambient)
    | none => c.nMin

/-- The commanded speed after a recomputation: increases are limited by the ramp (R124). -/
def rampTo (p n ramp : Nat) : Nat := if p < n then min n (p + ramp) else n

/-- A recomputation, made only while RUNNING (R121): target, command, condenser fan level, and a new speed period. -/
def recompute (s : State) : State :=
  if s.comp.state = .running then
    let n := s.targetSpeed
    s.setComp
      { s.comp with
        target := some n
        command := rampTo s.comp.command n s.settings.comp.ramp
        speedTimer := some 0
        fanLevel := s.condenserLevel }
  else s

/-- The commanded speed goes to 0 (R119, R120, R128, R131, R132): a change from non-zero restarts the stop seconds and
begins the condenser fan's post-run; the run watch and the speed period are discarded. The target stands as last computed
(R115(c)), until the event's outputs show it none where no run is requested (State.shownTarget). -/
def dropCommand (s : State) : State :=
  s.setComp
    { s.comp with
      command := 0
      stopFor := if s.comp.command = 0 then s.comp.stopFor else 0
      postRun := if s.comp.command = 0 then s.comp.postRun else some (sec 60)
      runWatch := none
      speedTimer := none }

/-- A start (R118): Nmin whatever the target, a run watch, a speed period, and the condenser fan's level (DEDUCED, unsafe:
notes/assumptions/15.md). -/
def startComp (s : State) : State :=
  s.setComp
    { s.comp with
      state := .running
      command := s.settings.comp.nMin
      target := some s.settings.comp.nMin
      runFor := 0
      runWatch := some 0
      speedTimer := some 0
      fanLevel := s.condenserLevel
      postRun := none }

/-- A stop (R120): the target becomes none. -/
def stopComp (s : State) : State :=
  let t := dropCommand s
  t.setComp { t.comp with state := .stopped, stopFor := 0, target := none }

/-- The start and the stop that the run request and the protections allow (R118, R120). -/
def compReact (s : State) : State :=
  if s.comp.state = .stopped && s.runRequest && s.minOffElapsed then startComp s
  else if s.comp.state = .running && !s.runRequest && s.minOnMet then stopComp s
  else s

/-- A fault is taken, in STOPPED or RUNNING (R128). -/
def takeFault (source : FaultSource) (code : Byte) (s : State) : State :=
  if s.compAvailable then
    let t := dropCommand s
    let faults := t.comp.faults ++ [⟨0, source, code⟩]
    let locked := decide (3 ≤ faults.length)
    t.setComp
      { t.comp with
        state := if locked then .lockout else .faultHold
        hold := if locked then none else some (sec 300)
        faults := faults
        stopFor := 0
        serviceSpeed := if s.mode.opState = .service then 0 else t.comp.serviceSpeed }
  else s

/-- The inverter unit becomes LOST (R131). -/
def inverterLost (s : State) : State :=
  if s.compAvailable then
    let t := dropCommand s
    t.setComp { t.comp with state := .invLost, stopFor := 0, lastInv := none }
  else if s.comp.state = .invLost then
    s.setComp { s.comp with stopFor := 0, lastInv := none }
  else
    s.setComp { s.comp with stopFor := 0, lastInv := none, lossMark := true }

/-- The state a FAULT_HOLD or LOCKOUT is left for (R130, R135). -/
def Compressor.afterHold (c : Compressor) : CompState := if c.lossMark then .invLost else .stopped

/-- The interpretation of an applied status (R126), after it has become the last inverter status. -/
def interpretStatus (before : Option InvStatus) (st : InvStatus) (s : State) : State :=
  match st.state with
  | .fault =>
    match before with
    | some b => if b.state = .fault then s else takeFault .inverter st.code s
    | none => takeFault .inverter st.code s
  | .running => s.setComp { s.comp with runWatch := none }
  | _ =>
    if s.comp.state = .running && s.comp.runWatch.isNone then s.setComp { s.comp with runWatch := some 0 } else s

/-- An INV_STATUS whose data is applied (R126, R131): INV_LOST becomes STOPPED, the loss mark is cleared, the status is
recorded and interpreted. -/
def applyInvStatus (st : InvStatus) (s : State) : State :=
  let before := s.comp.lastInv
  interpretStatus before st
    (s.setComp
      { s.comp with
        state := if s.comp.state = .invLost then .stopped else s.comp.state
        lossMark := false
        lastInv := some st })

end Sys2Proof.Machine
end

