-- ==== Sys2Proof/Machine/RouteOps.lean ====
section
/-!
DEFINITION. The shared operations of the route controller (Chapter 5): valve targets, moves and rehomes, damper targets,
applying a route, pre-chill, and the commanded and output drives of the three fans.
-/
namespace Sys2Proof.Machine

/-- Change the valve record. -/
def State.mapValve (s : State) (f : Valve → Valve) : State :=
  { s with route := { s.route with valve := f s.route.valve } }

/-- Set the valve target (R95): a move under way still runs to its own target. -/
def setValveTarget (p : ValvePos) (s : State) : State := s.mapValve fun v => { v with target := some p }

/-- The valve is held where it is, or where a move under way ends (R106): the target becomes that position. A rehome keeps
its own target. -/
def holdValve (s : State) : State :=
  s.mapValve fun v =>
    if v.rehoming then v
    else
      match v.move, v.rest with
      | some m, _ => { v with target := some m.target }
      | none, some r => { v with target := some r }
      | none, none => v

/-- The 184-step drive toward the stop begins (R98, R99). The counter of the unhomed valve has no meaning and is held as
0 (DESIGN CHOICE, unsafe: notes/assumptions/10.md; the details of a rehome: 14.md). -/
def Valve.beginDrive (v : Valve) (activity : Homing) (final : ValvePos) : Valve :=
  { v with
    homed := false
    counter := 0
    move := none
    homing := activity
    drive := some 0
    rehomeAsk := .none
    rehomeFinal := final }

/-- The final position of a rehome whose drive begins now (R99): with HOLD the position at which the valve is held, or
CLOSED where it is at none. -/
def Valve.finalOf (v : Valve) : ValvePos :=
  match v.rehomeAsk with
  | .toHeld => v.rest.getD .closed
  | _ => .closed

/-- With no move and no drive under way, a rehome that was asked begins its drive (R99); otherwise a homed valve begins a
move toward a target that differs from its counter (R95). -/
def Valve.kick (v : Valve) : Valve :=
  if v.move.isSome || v.drive.isSome then v
  else if v.rehomeAsk ≠ .none then
    let final := v.finalOf
    { v.beginDrive .rehome final with target := some final }
  else if v.homed then
    match v.target with
    | some p => if v.counter = p.counter then v else { v with move := some ⟨p, 0⟩ }
    | none => v
  else v

def kickValve (s : State) : State := s.mapValve Valve.kick

/-- The damper targets change (R101). Targets equal to those in force are no change. -/
def Dampers.change (d : Dampers) (flex ice : Nat) : Dampers :=
  if d.flex = flex && d.ice = ice then d
  else ⟨flex, ice, d.flex, d.ice, false, false⟩

def changeDampers (flex ice : Nat) (s : State) : State :=
  { s with route := { s.route with dampers := s.route.dampers.change flex ice } }

/-- The pre-chill record of an evaporator fan. -/
def Route.preChill (r : Route) : EvapFan → PreChill
  | .freezer => r.preFreezer
  | .fresh => r.preFresh

def Route.setPreChill (r : Route) (f : EvapFan) (p : PreChill) : Route :=
  match f with
  | .freezer => { r with preFreezer := p }
  | .fresh => { r with preFresh := p }

/-- Both pre-chill records become absent (R103(d), R108). -/
def clearPreChill (s : State) : State :=
  { s with route := { s.route with preFreezer := .absent, preFresh := .absent } }

/-- A route is applied for the granted zone (R103), unless a rehome has still to end. -/
def applyRoute (z : Zone) (s : State) : State :=
  if s.route.valve.rehoming then s
  else
    let t := setValveTarget (outletOf z) s
    let app : RouteApp :=
      { zone := z, timer := 0, inPlace := false
        changedFlex := s.route.dampers.flex ≠ z.dampers.1
        changedIce := s.route.dampers.ice ≠ z.dampers.2 }
    let t := changeDampers z.dampers.1 z.dampers.2 t
    clearPreChill { t with route := { t.route with app := some app } }

/-- The route is in place when the valve is at its outlet and its dampers count as confirmed, both together (R103). -/
def inPlaceTest (s : State) : State :=
  match s.route.app with
  | some a =>
    if !a.inPlace && s.route.valve.isAt (outletOf a.zone) && s.dampersConfirmed a.zone then
      { s with route := { s.route with app := some { a with inPlace := true } } }
    else s
  | none => s

/-- The coil channel of an evaporator fan (R108). -/
def coilOf : EvapFan → Channel
  | .freezer => .fzCoil
  | .fresh => .frCoil

/-- The pre-chill comparison of the grant in COOLING whose route uses the fan (R108): with both channels VALID and the
coil at least 3.0 degrees below the zone's air, the RUNNING record becomes ENDED. -/
def preChillCompare (f : EvapFan) (s : State) : State :=
  match s.arb.grant with
  | some g =>
    if g.phase = .cooling && g.zone.fan = f then
      match s.route.preChill f, (s.sensing.get (coilOf f)).filtered, (s.sensing.air.get g.zone).filtered with
      | .running _, some coil, some air =>
        if coil ≤ air - 30 then { s with route := s.route.setPreChill f .ended } else s
      | _, _, _ => s
    else s
  | none => s

/-- A pre-chill record is created RUNNING at the start of COOLING, and compared at once (R108). -/
def startPreChill (z : Zone) (s : State) : State :=
  preChillCompare z.fan { s with route := s.route.setPreChill z.fan (.running 0) }

/-! ## Fan drives (R107, R109, R132, R110 to R112) -/

/-- Any of these doors is OPEN. -/
def State.anyOpen (s : State) (ds : List Door) : Bool :=
  ds.any fun d => (s.doors.door.get d).state = .isOpen

/-- The zone of the route in force: the granted zone, or in RUNOUT the last route's zone (R107). -/
def State.routeZone (s : State) : Option Zone :=
  match s.arb.grant with
  | some g => some g.zone
  | none => if s.arb.idle = some .runout then s.arb.lastRoute else none

/-- The drive that a grant in COOLING, or RUNOUT, gives the fan of its route: the route's drive once the pre-chill record
is ENDED, 0 while it is not; none where no such grant or RUNOUT uses the fan (R107, R109). -/
def State.coolingDrive (s : State) (f : EvapFan) : Option Nat :=
  match s.arb.grant with
  | some g =>
    if g.phase = .cooling && g.zone.fan = f then
      some (if s.route.preChill f = .ended then g.zone.fanDrive else 0)
    else none
  | none =>
    match s.routeZone with
    | some z => if z.fan = f && s.route.preChill f = .ended then some z.fanDrive else none
    | none => none

/-- The freezer fan's commanded drive (R107). -/
def State.freezerDrive (s : State) : Nat :=
  match s.mode.opState with
  | .init => 0
  | .service => s.service.fanFreezer
  | .run =>
    if s.defrost.fanBlock then 0
    else if s.anyOpen [.freeze] then 0
    else if s.anyOpen (match s.routeZone with | some z => z.doors | none => []) then 0
    else (s.coolingDrive .freezer).getD 0

/-- The fresh fan's commanded drive, air defrost included (R109). -/
def State.freshDrive (s : State) : Nat :=
  match s.mode.opState with
  | .init => 0
  | .service => s.service.fanFresh
  | .run =>
    if s.anyOpen [.freshL, .freshR] then 0
    else
      match s.coolingDrive .fresh with
      | some d => d
      | none =>
        match s.sensing.frCoil.filtered with
        | some f => if s.sensing.frCoil.state = .valid && f < 0 then 40 else 0
        | none => 0

/-- The condenser fan's commanded drive (R132). -/
def State.condenserDrive (s : State) : Nat :=
  match s.mode.opState with
  | .init => 0
  | .service =>
    if s.commandedOn || s.comp.postRun.isSome then max s.comp.fanLevel s.service.fanCondenser
    else s.service.fanCondenser
  | .run => if s.commandedOn || s.comp.postRun.isSome then s.comp.fanLevel else 0

/-- A fan takes its commanded drive: the output is 0 while it rests, and the watch is 0 whenever the output is below
20 % (R110, R111). -/
def FanRec.drive (f : FanRec) (commanded : Nat) : FanRec :=
  let output := if f.rest.isSome then 0 else commanded
  { f with commanded := commanded, output := output, watch := if output < 20 then 0 else f.watch }

/-- The three fans follow the state (R107, R109, R132). -/
def State.drivenFans (s : State) : PerFan FanRec :=
  { freezer := s.route.fans.freezer.drive s.freezerDrive
    fresh := s.route.fans.fresh.drive s.freshDrive
    condenser := s.route.fans.condenser.drive s.condenserDrive }

end Sys2Proof.Machine
end

