-- ==== Sys2Proof/Machine/ArbOps.lean ====
section
/-!
DEFINITION. The shared operations of the cooling arbiter (Chapter 4): the waiting list, the rings and the selection, the
grant's creation and end, the idle sub-states, and the arbitration that follows every event.
-/
namespace Sys2Proof.Machine

/-! ## The waiting list (R56, R57) -/

/-- The list follows the membership conditions: entries that are no longer members, or hold the grant, leave; members
that neither stand on it nor hold the grant join at the newest end with a waited time of 0, those of one event by zone number
(DESIGN CHOICE, unsafe: notes/assumptions/19.md). -/
def State.relisted (s : State) : List Waiting :=
  let stays := s.arb.waiting.filter fun w => s.member w.zone && !s.holds w.zone
  stays ++ (Zone.all.filter fun z => s.member z && !s.holds z && !s.onList z).map fun z => ⟨z, 0⟩

def relist (s : State) : State := { s with arb := { s.arb with waiting := s.relisted } }

/-- An entry is aged when its waited seconds are at least the max wait in force times 60 (R58). -/
def State.aged (s : State) (w : Waiting) : Bool := s.settings.arb.maxWait * 60 ≤ elapsedSecs w.waited

/-! ## Rings and selection (R60 to R64) -/

/-- The second-level ring (R60(b)). -/
def State.ring2 (s : State) : List Zone := Zone.all.filter fun z => s.settings.level.get z = .group

/-- The first-level ring (R60(a)). -/
def State.ring1 (s : State) : List Turn :=
  ((Zone.all.filter fun z => s.settings.level.get z = .l1).map Turn.zone) ++
    (if s.ring2.isEmpty then [] else [.group])

/-- The walking order of a ring: from the entry after the one served last, that entry last; from the first entry when
none is served (R64 step 4). -/
def walkFrom {α : Type} [DecidableEq α] (ring : List α) (last : Option α) : List α :=
  match last with
  | none => ring
  | some p =>
    let before := ring.takeWhile fun t => t ≠ p
    let after := (ring.dropWhile fun t => t ≠ p).drop 1
    after ++ before ++ (if ring.contains p then [p] else [])

/-- The pointer moves of R62 (b): P2 names a zone that is now L1. -/
def normaliseP2 (s : State) : State :=
  match s.arb.p2 with
  | some z =>
    if s.settings.level.get z = .l1 then
      { s with arb := { s.arb with p1 := if s.arb.p1 = some .group then some (.zone z) else s.arb.p1, p2 := none } }
    else s
  | none => s

/-- The pointer moves of R62 (a): P1 names a zone that is now GROUP. -/
def normaliseP1 (s : State) : State :=
  match s.arb.p1 with
  | some (.zone z) =>
    if s.settings.level.get z = .group then { s with arb := { s.arb with p1 := some .group, p2 := some z } } else s
  | _ => s

/-- Both moves, (b) first (R62; when they are made: DEDUCED, unsafe, notes/assumptions/21.md). -/
def normalise (s : State) : State := normaliseP1 (normaliseP2 s)

/-- The rotation's winner: the first-level walk, the GROUP entry giving way to the second-level walk (R64 step 4). -/
def State.rotation (s : State) : Option Zone :=
  (walkFrom s.ring1 s.arb.p1).findSome? fun t =>
    match t with
    | .zone z => if s.waitingSelectable z then some z else none
    | .group => (walkFrom s.ring2 s.arb.p2).find? fun z => s.waitingSelectable z

/-- A candidate of steps 1 to 3: a selectable waiting zone, or the holder at a MAX_DWELL end if it would be selectable
(R64, R76). -/
def State.candidate (s : State) (holder : Option Zone) (z : Zone) : Bool :=
  s.waitingSelectable z || (holder = some z && s.selectable z)

/-- The selection of R64; `holder` is the holder at a MAX_DWELL end (R76). -/
def State.selection (s : State) (holder : Option Zone) : Option (Zone × GrantReason) :=
  if s.arb.claim && s.candidate holder .freeze then some (.freeze, .recovery)
  else
    match s.arb.forced.bind (fun f => if s.candidate holder f.zone then some f.zone else none) with
    | some z => some (z, .forced)
    | none =>
      match s.arb.waiting.find? (fun w => s.aged w && s.selectable w.zone) with
      | some w => some (w.zone, .aged)
      | none => s.rotation.map fun z => (z, .rotation)

/-! ## Creating and ending a grant (R61, R69, R76, R79) -/

/-- P1 and P2 move to the granted zone (R61). -/
def movePointers (z : Zone) (s : State) : State :=
  match s.settings.level.get z with
  | .l1 => { s with arb := { s.arb with p1 := some (.zone z) } }
  | .group => { s with arb := { s.arb with p1 := some .group, p2 := some z } }

/-- A new grant record in ROUTING (R69). -/
def State.newGrant (s : State) (z : Zone) (r : GrantReason) : Grant where
  zone := z
  reason := r
  phase := .routing
  coolingFor := 0
  minLeft := mins (s.settings.timing.get z).minDwell
  maxLeft := mins (s.settings.timing.get z).maxDwell
  startTemp := none
  door := s.zoneDoorOpen z
  continuation := false

/-- A grant is created (R69): the pointers move, the winner leaves the list, a claim it serves is cleared, the idle
sub-state and the park timer go, the route is applied (R103), and a running compressor's target is recomputed (R121). -/
def createGrant (z : Zone) (r : GrantReason) (s : State) : State :=
  let t := movePointers z s
  let t : State :=
    { t with
      arb :=
        { t.arb with
          grant := some (s.newGrant z r)
          waiting := t.arb.waiting.filter fun w => w.zone ≠ z
          claim := if r = .recovery then false else t.arb.claim
          idle := none
          parkTimer := none
          lastRoute := none } }
  recompute (applyRoute z (clearPreChill t))

/-- A REGRANT (R76): the record is replaced, ROUTING is skipped, route and pre-chill go on, and the target is
recomputed. -/
def regrant (z : Zone) (s : State) : State :=
  let t := movePointers z s
  let g : Grant :=
    { s.newGrant z .regrant with
      phase := .cooling
      minLeft := 0
      startTemp := (s.sensing.air.get z).filtered }
  recompute { t with arb := { t.arb with grant := some g, lastEnd := some ⟨z, .maxDwell⟩ } }

/-- What every grant end does before any selection (R79): the record goes, the end is recorded, the route application goes
with the grant (R103) and its route is kept as the last route (DEDUCED, unsafe: notes/assumptions/17.md), and a holder that is
still a member joins the list. -/
def endGrant (r : EndReason) (s : State) : State :=
  match s.arb.grant with
  | some g =>
    relist
      { s with
        arb :=
          { s.arb with
            grant := none
            lastEnd := some ⟨g.zone, r⟩
            lastRoute := s.route.app.map RouteApp.zone }
        route := { s.route with app := none } }
  | none => s

/-! ## Idle sub-states (R80 to R83) -/

/-- The rehome test of R82: PARKED with at least 100 outlet moves, unless a rehome is under way. Its final position is by the
park mode in use (DEDUCED, unsafe: notes/assumptions/31.md). -/
def rehomeTest (s : State) : State :=
  if s.arb.idle = some .parked && 100 ≤ s.route.valve.outletMoves && !s.route.valve.rehoming then
    kickValve
      { s with
        arb := { s.arb with idle := some .rehome }
        route :=
          { s.route with
            valve :=
              { s.route.valve with
                rehomeAsk := if s.arb.parkMode = .close then .toClosed else .toHeld } } }
  else s

/-- Entry to PARKED (R81): with the park mode in use CLOSE the valve is asked to CLOSED; then the test of R82. While a rehome
is under way nothing is asked, and the valve goes to that rehome's final position by R82 and R99, be it a held outlet
(DESIGN CHOICE, unsafe: notes/assumptions/31.md). -/
def enterParked (s : State) : State :=
  let t : State := { s with arb := { s.arb with idle := some .parked, parkTimer := none } }
  rehomeTest
    (if s.arb.parkMode = .close && !s.route.valve.rehoming then kickValve (setValveTarget .closed t) else t)

/-- Entry to PARK_DELAY (R81, R106): the valve is held, the damper targets become 0 and 0, the pre-chill records go, and the
park timer and the park mode are taken from the settings; with a park delay of 0 PARKED follows at once. -/
def enterParkDelay (s : State) : State :=
  let t := clearPreChill (changeDampers 0 0 (holdValve s))
  let t : State :=
    { t with
      arb :=
        { t.arb with
          idle := some .parkDelay
          parkTimer := some (sec s.settings.arb.parkDelay)
          parkMode := s.settings.arb.parkMode
          lastRoute := none } }
  if s.settings.arb.parkDelay = 0 then enterParked t else t

/-- A grant end in RUN that leaves no grant (R80): RUNOUT while a commanded compressor's min-on has not elapsed, else
PARK_DELAY. Either way the grant end recomputes the target of a running compressor, and with it the level of the condenser
fan that a stop keeps in the post-run (R121, R132). -/
def enterIdle (s : State) : State :=
  recompute
    (if s.commandedOn && !s.minOnMet then { s with arb := { s.arb with idle := some .runout } } else enterParkDelay s)

/-- The end of RUNOUT at min-on or at the loss of the compressor (R80(a), (b)). -/
def runoutEnd (s : State) : State :=
  if s.arb.idle = some .runout && (!s.commandedOn || s.minOnMet || !s.compAvailable) then enterParkDelay s else s

/-! ## Arbitration (R63, R68, R72 to R74, R76) -/

/-- The selection that follows a grant end in RUN (R79), pointers moved first (R62). -/
def afterEnd (s : State) : State :=
  let t := normalise s
  match t.selection none with
  | some (z, r) => createGrant z r t
  | none => enterIdle t

/-- The reason, if any, for which the grant ends at this event (R72 to R74). -/
def State.endCause (s : State) (g : Grant) : Option EndReason :=
  if !s.compAvailable then some .compUnavailable
  else if !(s.settings.zone.get g.zone).enabled || s.held g.zone || !s.routeAvailable g.zone then some .ineligible
  else if (s.zones.get g.zone).demand = .satisfied && (g.phase = .routing || g.minLeft = 0) then some .satisfied
  else none

/-- The continuation to min dwell: yes while the holder is SATISFIED in COOLING before min dwell (R72(c), R73). -/
def markContinuation (s : State) : State :=
  s.mapGrant fun g =>
    { g with continuation := g.phase = .cooling && (s.zones.get g.zone).demand = .satisfied }

/-- The preempting candidate, (a) before (b) (R68). -/
def State.preemptor (s : State) (g : Grant) : Option (Zone × GrantReason) :=
  if s.arb.claim && s.waitingSelectable .freeze && g.zone ≠ .freeze then some (.freeze, .recovery)
  else
    match s.arb.forced with
    | some f =>
      if s.waitingSelectable f.zone && f.zone ≠ g.zone && g.reason ≠ .recovery then some (f.zone, .forced) else none
    | none => none

/-- The grant is preemptable in ROUTING, and in COOLING once min dwell is met (R68). -/
def Grant.preemptable (g : Grant) : Bool := g.phase = .routing || g.minLeft = 0

/-- What an event brings a grant that exists: an end, the continuation, or a preemption. -/
def heldGrant (g : Grant) (s : State) : State :=
  match s.endCause g with
  | some r => afterEnd (endGrant r s)
  | none =>
    let t := markContinuation s
    match t.preemptor g with
    | some (z, r) => if g.preemptable then createGrant z r (normalise (endGrant .preempted t)) else t
    | none => t

/-- What an event brings while no grant exists in RUN: a selection where a waiting zone is selectable, else the idle
sub-state's own moves. -/
def noGrant (s : State) : State :=
  let t := normalise s
  match t.selection none with
  | some (z, r) => createGrant z r t
  | none => rehomeTest (runoutEnd s)

/-- The arbitration that follows an event (R56, R63). The list is kept in every operating state; decisions are made in RUN
only. -/
def arbitrate (s : State) : State :=
  let t := relist s
  match t.mode.opState with
  | .run =>
    match t.arb.grant with
    | some g => heldGrant g t
    | none => noGrant t
  | _ => t

/-- The no-progress check at a MAX_DWELL end (R84). -/
def noProgressCheck (g : Grant) (s : State) : State :=
  match g.startTemp, (s.sensing.air.get g.zone).filtered with
  | some start, some stop =>
    if g.door || g.reason = .recovery then s
    else
      s.mapZone g.zone fun r =>
        if start - stop < (s.settings.arb.progress : Int) then
          if 3 ≤ r.noProgress + 1 then
            { r with noProgress := 0, isolation := some (mins s.settings.arb.isolationHold) }
          else { r with noProgress := r.noProgress + 1 }
        else { r with noProgress := 0 }
  | _, _ => s

/-- The end with MAX_DWELL (R76): the check, the selection with the holder as a candidate, and the REGRANT or the new
grant. -/
def maxDwellEnd (g : Grant) (s : State) : State :=
  let t := normalise (noProgressCheck g s)
  match t.selection (some g.zone) with
  | some (z, r) => if z = g.zone then regrant z t else createGrant z r (endGrant .maxDwell t)
  | none => if t.selectable g.zone then regrant g.zone t else enterIdle (endGrant .maxDwell t)

/-- The start of COOLING (R70, R71): with the route in place and the compressor commanded on. -/
def coolingStart (s : State) : State :=
  match s.arb.grant, s.route.app with
  | some g, some a =>
    if g.phase = .routing && a.inPlace && s.commandedOn then
      let g' : Grant :=
        { g with
          phase := .cooling
          minLeft := mins (s.settings.timing.get g.zone).minDwell
          maxLeft := mins (s.settings.timing.get g.zone).maxDwell
          startTemp := (s.sensing.air.get g.zone).filtered }
      startPreChill g.zone (recompute { s with arb := { s.arb with grant := some g' } })
    else s
  | _, _ => s

end Sys2Proof.Machine
end

