-- ==== Sys2Proof/Machine/DefrostOps.lean ====
section
/-!
DEFINITION. The shared operations of the defrost controller (Chapter 7): start, the wait for the FZ outlet, HEAT, DRIP,
RECOVER, completion and adaptation, and the ending at once.
-/
namespace Sys2Proof.Machine

/-- Change the defrost controller's record. -/
def State.mapDefrost (s : State) (f : Defrost → Defrost) : State := { s with defrost := f s.defrost }

/-- Change the current context, where one is present. -/
def State.mapContext (s : State) (f : DefrostContext → DefrostContext) : State :=
  s.mapDefrost fun d => { d with context := d.context.map f }

/-- A drawer whose opening counts stands open: FREEZE, or FLEX where FLEX is present (R138(b)). -/
def State.drawerOpen (s : State) : Bool :=
  s.anyOpen [.freeze] || (s.present .flex && s.anyOpen [.flex])

/-- A new minute: seconds and FZ run seconds 0, the door mark set at once if a drawer is open (R138). -/
def State.newMinute (s : State) : Minute := ⟨0, 0, s.fzRunning, s.drawerOpen⟩

/-- The hold cause DEFROST is added to each present FZ-outlet zone, or removed from the FZ-outlet zones (R9(a), R141,
R147). -/
def holdDefrost (on : Bool) (s : State) : State :=
  { s with
    zones := s.zones.map fun z r =>
      if z.fzOutlet then { r with holdDefrost := on && s.present z } else r }

/-- A defrost is started (R139), its context copied from the parameters in force. -/
def startDefrost (cause : DefrostCause) (s : State) : State :=
  let p := s.settings.defrost
  s.mapDefrost fun d =>
    { d with
      phase := .pending
      phaseFor := 0
      minute := none
      context := some ⟨cause, d.credit, p.termTemp, p.maxHeat, p.drip, 0, 0, none, false, none⟩ }

/-- The report of a context (R152). -/
def DefrostContext.report (c : DefrostContext) (t : Termination) (th : Nat) : DefrostReport :=
  ⟨c.cause, t, c.heatFor, c.dripFor, c.peak, c.creditAtStart, th⟩

/-- The defrost ends (R148, R150(a), R151): the block and the heater are off, the claim is withdrawn, the report is
written with Th as given, C and E are 0, the phase is IDLE and a new minute begins. -/
def endDefrost (t : Termination) (th : Nat) (s : State) : State :=
  { s with
    arb := { s.arb with claim := false }
    defrost :=
      { s.defrost with
        phase := .idle
        credit := 0
        elapsed := 0
        th := th
        minute := some s.newMinute
        phaseFor := 0
        context := none
        fanBlock := false
        report := (s.defrost.context.map fun c => c.report t th).or s.defrost.report } }

/-- Th after a completion (R149), from the termination and the heat seconds. -/
def adaptTh (th : Nat) (t : Termination) (heatSecs : Nat) : Nat :=
  match t with
  | .time => max 240 (th / 2)
  | .temp => if heatSecs < 720 then min 5760 (th + th / 4) else th
  | _ => th

/-- The completion at fan release (R148). -/
def completeDefrost (s : State) : State :=
  match s.defrost.context with
  | some c =>
    let t := c.termination.getD .abort
    endDefrost t (adaptTh s.defrost.th t (elapsedSecs c.heatFor)) s
  | none => s

/-- The FZ coil's F, while its channel is VALID (R35). -/
def State.fzCoil (s : State) : Option Int :=
  if s.sensing.fzCoil.state = .valid then s.sensing.fzCoil.filtered else none

/-- The fan release test on a value of the FZ coil (R147(a)). -/
def fanReleaseTest (s : State) : State :=
  match s.fzCoil with
  | some f => if s.defrost.phase = .recover && f ≤ -100 then completeDefrost s else s
  | none => s

/-- The entry to RECOVER (R147): the holds go, the claim is placed if FREEZE is enabled, and fan release is tested. A release
in that test completes the defrost and withdraws the claim (R148) before the arbitration that the holds' removal makes, which
then finds no claim (DESIGN CHOICE, unsafe: notes/assumptions/33.md). -/
def enterRecover (s : State) : State :=
  let t := holdDefrost false (s.mapDefrost fun d => { d with phase := .recover, phaseFor := 0 })
  let t : State := if t.settings.zone.freeze.enabled then { t with arb := { t.arb with claim := true } } else t
  fanReleaseTest t

/-- The end of HEAT (R143, R144, R150(b)) and the entry to DRIP (R146), which a drip time of 0 ends at once. -/
def endHeat (t : Termination) (s : State) : State :=
  let u := (s.mapContext fun c => { c with termination := some t }).mapDefrost fun d =>
    { d with phase := .drip, phaseFor := 0 }
  match s.defrost.context with
  | some c => if c.drip = 0 then enterRecover u else u
  | none => u

/-- The limit of a blind HEAT: the lower of 1200 s and max heat (R144). -/
def DefrostContext.blindLimit (c : DefrostContext) : Ticks := sec (min 1200 (c.maxHeat * 60))

/-- The entry to HEAT (R141): holds, fan block, blind mark or peak, and the TEMP end of a coil already warm. -/
def enterHeat (s : State) : State :=
  let t := (holdDefrost true s).mapDefrost fun d =>
    { d with
      phase := .heat
      phaseFor := 0
      fanBlock := true
      context := d.context.map fun c => { c with blind := s.fzCoil.isNone, peak := s.fzCoil } }
  match s.fzCoil, s.defrost.context with
  | some f, some c => if c.termTemp ≤ f then endHeat .temp t else t
  | _, _ => t

/-- The test of R140, on the arbiter's state after the event. -/
def pendingTest (s : State) : State :=
  if s.defrost.phase = .pending && !s.fzGrant && !s.fzRunout then enterHeat s else s

/-- The ending at once by SERVICE or RESTART (R151): the holds go, and an ABORT report is written with Th as it
stands. -/
def endDefrostAtOnce (s : State) : State :=
  if s.defrost.phase = .idle then s else endDefrost .abort s.defrost.th (holdDefrost false s)

/-- The higher of a peak and a new value (R145). -/
def raisePeak (p : Option Int) (f : Int) : Option Int :=
  match p with
  | some q => some (max q f)
  | none => some f

/-- A value delivery on the FZ coil (R143(a), R145, R147(a)). -/
def defrostCoilValue (f : Int) (s : State) : State :=
  match s.defrost.phase with
  | .heat =>
    let t := s.mapContext fun c => { c with peak := raisePeak c.peak f }
    match s.defrost.context with
    | some c => if !c.blind && c.termTemp ≤ f then endHeat .temp t else t
    | none => t
  | .drip => s.mapContext fun c => { c with peak := raisePeak c.peak f }
  | .recover => fanReleaseTest (s.mapContext fun c => { c with peak := raisePeak c.peak f })
  | _ => s

/-- The fault declaration of the FZ coil (R144): the blind mark, and the end at once of a HEAT past its limit. -/
def defrostCoilFault (s : State) : State :=
  match s.defrost.phase, s.defrost.context with
  | .heat, some c =>
    let t := s.mapContext fun c => { c with blind := true }
    if c.blindLimit ≤ c.heatFor then endHeat .timeBlind t else t
  | _, _ => s

/-- The heater output by its rule (R142). -/
def State.heaterRule (s : State) : Bool :=
  (s.defrost.phase = .heat || (s.mode.opState = .service && s.service.heater)) &&
    !(s.commandedOn && s.route.valve.target = some .fz)

end Sys2Proof.Machine
end

