-- ==== Sys2Proof/Machine/Flags.lean ====
section
/-!
DEFINITION. The live conditions of the event unit (Tables 10-6 and 10-7), their edges and the latch (R190, R193).
-/
namespace Sys2Proof.Machine

/-- A byte from its bits, bit 0 first. -/
def bits (b0 b1 b2 b3 b4 b5 b6 b7 : Bool) : Byte :=
  BitVec.ofNat 8
    (b0.toNat + 2 * b1.toNat + 4 * b2.toNat + 8 * b3.toNat + 16 * b4.toNat + 32 * b5.toNat + 64 * b6.toNat +
      128 * b7.toNat)

/-- SENSOR_FAULT of a zone (R37): its air channel, and for FRESH the FR coil and for FREEZE the FZ coil, in FAULT. -/
def State.sensorFault (s : State) (z : Zone) : Bool :=
  (s.sensing.air.get z).inFault ||
    match z with
    | .fresh => s.sensing.frCoil.inFault
    | .freeze => s.sensing.fzCoil.inFault
    | _ => false

/-- The live conditions of a zone set (Table 10-6); all false for an absent zone (R1). -/
def State.zoneConditions (s : State) (z : Zone) : Byte :=
  if s.present z then
    bits ((s.zones.get z).demand = .calling) (s.holds z) (s.doors.zone.get z).isOpen (s.doors.zone.get z).ajar
      (s.sensorFault z) (s.isolated z) (s.held z) (s.zones.get z).warm
  else 0

/-- At least one unit is LOST (R177). -/
def State.unitLost (s : State) : Bool :=
  s.bus.unit.inverter.state = .lost || s.bus.unit.damper.state = .lost || s.bus.unit.ice.state = .lost

/-- At least one fan's stalled flag is set (R112). -/
def State.fanFault (s : State) : Bool :=
  s.route.fans.freezer.stalled || s.route.fans.fresh.stalled || s.route.fans.condenser.stalled

/-- The live conditions of the device set (Table 10-7). -/
def State.deviceConditions (s : State) : Byte :=
  bits (s.defrost.phase ≠ .idle) (s.comp.state = .faultHold) (s.comp.state = .lockout) s.unitLost s.fanFault
    s.strap.fault (s.mode.opState = .service) s.arb.forced.isSome

/-- A presentation to one set (R190): enabled edges are latched, and the live part takes the new values. -/
def EventSet.present (e : EventSet) (now : Byte) : EventSet :=
  { e with
    live := now
    latched := e.latched ||| ((now &&& ~~~e.live) &&& e.rise) ||| ((e.live &&& ~~~now) &&& e.fall) }

/-- The event unit after a presentation of every condition. -/
def State.presented (s : State) : Events where
  device := s.events.device.present s.deviceConditions
  zone := s.events.zone.map fun z e => e.present (s.zoneConditions z)

/-- The number of sets that hold at least one latched bit (R193). -/
def Events.latchedSets (e : Events) : Nat :=
  (decide (e.device.latched ≠ 0)).toNat + (decide (e.zone.fresh.latched ≠ 0)).toNat + (decide (e.zone.freeze.latched ≠ 0)).toNat +
    (decide (e.zone.flex.latched ≠ 0)).toNat + (decide (e.zone.ice.latched ≠ 0)).toNat

/-- The latch as a whole is empty (R190). -/
def Events.latchEmpty (e : Events) : Bool := e.latchedSets = 0

/-- Every owner presents its conditions as they stand after the event (R190); a latch that goes from empty to non-empty
sets the notice-pending flag (R193). -/
def presentConditions (s : State) : State :=
  let e := s.presented
  { s with
    events := e
    link := { s.link with noticePending := s.link.noticePending || (s.events.latchEmpty && !e.latchEmpty) } }

end Sys2Proof.Machine
end

