-- ==== Sys2Proof/Machine/React.lean ====
section
/-!
DEFINITION. What follows the direct effect of every event, at that event: mode control's end of INIT, the arbitration, the
compressor's start or stop, the route in place, the start of COOLING, the defrost controller's test of the FZ outlet; then
the outputs and the live conditions (R11, R63, R140, R190; DEDUCED and DESIGN CHOICE, unsafe:
notes/assumptions/18.md).
-/
namespace Sys2Proof.Machine

/-- Every air channel of a present zone has left STARTING (R198(b)). -/
def State.airSettled (s : State) : Bool :=
  Zone.all.all fun z => !s.present z || (s.sensing.air.get z).state ≠ .starting

/-- The valve is homed and at CLOSED, its homing done (R97(c), R198(a)). -/
def State.homedClosed (s : State) : Bool := s.route.valve.isAt .closed && s.route.valve.homing = .none

/-- INIT ends when both conditions of R198 hold: the arbiter leaves INACTIVE for PARKED (R83). -/
def initEnd (s : State) : State :=
  if s.mode.opState = .init && s.homedClosed && s.airSettled then
    normalise
      { s with
        mode := { s.mode with opState := .run }
        arb := { s.arb with idle := some .parked } }
  else s

/-- One pass of the arbiter, the compressor controller and the route controller. -/
def settle (s : State) : State := coolingStart (inPlaceTest (compReact (kickValve (arbitrate s))))

/-- The whole reaction: a second pass follows the defrost controller's test, which may begin HEAT (R140). -/
def reaction (s : State) : State := settle (pendingTest (settle (initEnd s)))

/-- The reaction changes nothing outside mode control, the zone table, the arbiter, the route controller, the compressor
controller and the defrost controller. -/
def react (s : State) : State :=
  let t := reaction s
  { s with mode := t.mode, zones := t.zones, arb := t.arb, route := t.route, comp := t.comp, defrost := t.defrost }

/-- The target speed N as it stands after an event (R115(c), R120, R121): none while no run is requested of a compressor that
is not RUNNING; Nmin while a STOPPED one waits for min-off; while RUNNING, as last computed. In SERVICE a service speed may
request a run in FAULT_HOLD, LOCKOUT and INV_LOST, where R121 computes nothing: N is then the one last computed where the loss
of the inverter left it, and Nmin, as while STOPPED, where there is none (DESIGN CHOICE, unsafe: notes/assumptions/25.md). -/
def State.shownTarget (s : State) : Option Nat :=
  match s.comp.state with
  | .running => s.comp.target
  | .stopped => if s.runRequest then some s.settings.comp.nMin else none
  | _ => if s.runRequest then some (s.comp.target.getD s.settings.comp.nMin) else none

/-- The outputs follow the state: fan drives (R107, R109, R132), heater (R142), and whether the second under way of the
minute period is still unbroken (R138(a)). -/
def drive (s : State) : State :=
  { s with
    comp := { s.comp with target := s.shownTarget }
    route := { s.route with fans := s.drivenFans }
    defrost :=
      { s.defrost with
        heater := s.heaterRule
        minute := s.defrost.minute.map fun m => { m with unbroken := m.unbroken && s.fzRunning } } }

/-- Outputs and live conditions after the event. -/
def publish (s : State) : State := presentConditions (drive s)

/-- What follows the direct effect of every event. -/
def finish (s : State) : State := publish (react s)

end Sys2Proof.Machine
end

