-- ==== Sys2Proof/Machine/Operands.lean ====
section
/-!
DEFINITION. Operands: the fields of request payloads (R204), clamping (R189), frames and their CHECK (Table 10-1), the
statuses (Table 10-4), the taking of a request and its reply (R187, R188, R194).
-/
namespace Sys2Proof.Machine

/-! ## Fields of a payload (R204): little-endian -/

/-- The byte at an offset, as a number. -/
def u8At (p : List Byte) (i : Nat) : Nat := (p.getD i 0).toNat

/-- The u16 at an offset, least significant byte first. -/
def u16At (p : List Byte) (i : Nat) : Nat := u8At p i + 256 * u8At p (i + 1)

/-- The s16 at an offset, two's complement. -/
def s16At (p : List Byte) (i : Nat) : Int :=
  if u16At p i < 32768 then (u16At p i : Int) else (u16At p i : Int) - 65536

/-- A quantity brought into its range (R189). -/
def clamp (lo hi n : Nat) : Nat := max lo (min hi n)

/-- A signed quantity brought into its range (R5, R153). -/
def clampInt (lo hi n : Int) : Int := max lo (min hi n)

/-! ## Statuses and replies -/

/-- Statuses (Table 10-4). -/
def Status.code : Status → Byte
  | .ok => 0
  | .clamped => 1
  | .unknown => 2
  | .badLength => 3
  | .badValue => 4
  | .notNow => 5
  | .notPresent => 6

/-- Statuses whose reply carries the owner's fields; the others carry the status alone (R188, R204). -/
def Status.carriesFields : Status → Bool
  | .ok => true
  | .clamped => true
  | .notNow => true
  | _ => false

/-- CLAMPED where a value was changed, else OK (R188). -/
def Status.ofClamp (changed : Bool) : Status := if changed then .clamped else .ok

/-- The levels of a character: a start bit low, 8 data bits least significant first, a stop bit high (R167, R183). -/
def charBits (b : Byte) : List Bool :=
  [false, b.getLsbD 0, b.getLsbD 1, b.getLsbD 2, b.getLsbD 3, b.getLsbD 4, b.getLsbD 5, b.getLsbD 6, b.getLsbD 7, true]

/-- The sum of bytes modulo 256. -/
def byteSum (bs : List Byte) : Byte := bs.foldl (fun a b => a + b) 0

/-- A host link frame (Table 10-1, R183): SOF, LEN, TYPE, payload and the CHECK that makes the sum from LEN on 0. -/
def hostFrame (type : Byte) (payload : List Byte) : List Byte :=
  let body := BitVec.ofNat 8 (payload.length + 1) :: type :: payload
  0xC3 :: (body ++ [-(byteSum body)])

/-- The reply's TYPE (R188). -/
def replyType (type : Byte) : Byte := if type.toNat < 128 then type + 0x80 else type

/-- The reply frame of a request (R188). -/
def replyFrame (type : Byte) (st : Status) (fields : List Byte) : List Byte :=
  hostFrame (replyType type) (st.code :: (if st.carriesFields then fields else []))

/-- The levels of the transmit line in the bit times of the frame being sent: each byte a 10-bit character, the characters
back to back (R183); four of them to a tick. -/
def Link.txBits (l : Link) : List Bool := l.sending.flatMap charBits

/-- The four levels of the transmit line in the tick that comes next, high where nothing is sent (R183). -/
def Link.txLevels (l : Link) : List Bool :=
  ((l.txBits.drop (l.txBits.length - 2 * l.sendLeft)).take 4 ++ List.replicate 4 true).take 4

/-- Half ticks a frame of this many characters takes: 10 bits at 38400 bit/s are 2.5 ticks (section 10.1). -/
def sendTime (frame : List Byte) : Nat := 5 * frame.length

/-- The reply is ready: it is sent at once with the transmitter IDLE, and after the NOTICE being sent otherwise (R194). -/
def Link.ready (l : Link) (frame : List Byte) : Link :=
  let l : Link := { l with reply := some frame }
  match l.transmitter with
  | .idle => { l with transmitter := .sendingReply, sending := frame, sendLeft := sendTime frame }
  | _ => l

/-- The request being handled is of this TYPE with this payload, and has not been taken yet (R187; DESIGN CHOICE, unsafe for
timing: notes/assumptions/5.md). -/
def State.taking (s : State) (type : Byte) (payload : List Byte) : Bool :=
  s.link.handling && s.link.reply.isNone && s.link.buffer = type :: payload

/-- The taking of a request (R187, R188): its length is checked, its owner acts and gives the status, and the reply is
built from the state after the request. Where no such request is being handled, nothing is taken. -/
def takeRequest (type : Byte) (payload : List Byte) (length : Nat) (owner : State → Status × State)
    (fields : State → List Byte) (s : State) : State :=
  if s.taking type payload then
    if payload.length = length then
      let r := owner s
      { r.2 with link := r.2.link.ready (replyFrame type r.1 (fields r.2)) }
    else { s with link := s.link.ready (replyFrame type .badLength []) }
  else s

/-- An owner that accepts, with the effect of the request and all that follows it. -/
def accept (st : Status) (effect : State) : Status × State := (st, finish effect)

/-- An owner that refuses: nothing changes (R189). -/
def refuse (st : Status) (s : State) : Status × State := (st, s)

end Sys2Proof.Machine
end

