-- ==== Sys2Proof/Machine/Layout.lean ====
section
/-!
DEFINITION. The fields of the replies (Chapter 12), after the status byte, and the codes of Table 12-7.
-/
namespace Sys2Proof.Machine

/-! ## Field encodings (R204) -/

def putU8 (n : Nat) : List Byte := [BitVec.ofNat 8 n]

def putU16 (n : Nat) : List Byte := [BitVec.ofNat 8 n, BitVec.ofNat 8 (n / 256)]

/-- An s16 in two's complement. -/
def putS16 (i : Int) : List Byte := putU16 (i % 65536).toNat

/-- A temperature field, 0x8000 where there is no value (3.2(b), R204). -/
def putTemp : Option Int → List Byte
  | some t => putS16 t
  | none => [0x00, 0x80]

/-! ## Codes (Table 12-7, Table 1-6, R87) -/

def OpState.byteCode : OpState → Nat
  | .init => 0 | .run => 1 | .service => 2

def StartCause.byteCode : StartCause → Nat
  | .hardReset => 0 | .restart => 1

def Variant.byteCode : Variant → Nat
  | .a => 0 | .b => 1 | .c => 2 | .d => 3

def StrapResult.byteCode : StrapResult → Nat
  | .a => 0 | .b => 1 | .c => 2 | .d => 3 | .isOpen => 4 | .error => 5

def FlexMode.byteCode : FlexMode → Nat
  | .fresh => 0 | .chill => 1 | .soft => 2 | .freeze => 3

def Level.byteCode : Level → Nat
  | .l1 => 0 | .group => 1

def ParkMode.byteCode : ParkMode → Nat
  | .close => 0 | .hold => 1

def ServiceMode.byteCode : ServiceMode → Nat
  | .off => 0 | .isolated => 1 | .held => 2 | .noRoute => 3 | .blind => 4 | .normal => 5

def GrantReason.byteCode : GrantReason → Nat
  | .rotation => 0 | .forced => 1 | .aged => 2 | .recovery => 3 | .regrant => 4

def GrantPhase.byteCode : GrantPhase → Nat
  | .routing => 0 | .cooling => 1

def EndReason.byteCode : EndReason → Nat
  | .satisfied => 0 | .maxDwell => 1 | .preempted => 2 | .ineligible => 3 | .routeFault => 4 | .compUnavailable => 5
  | .service => 6

def idleCode : Option IdleState → Nat
  | some .inactive => 0 | some .runout => 1 | some .parkDelay => 2 | some .parked => 3 | some .rehome => 4
  | none => 0xFF

def CompState.byteCode : CompState → Nat
  | .stopped => 0 | .running => 1 | .faultHold => 2 | .lockout => 3 | .invLost => 4

def FaultSource.byteCode : FaultSource → Nat
  | .inverter => 0 | .start => 1

def InvState.byteCode : InvState → Nat
  | .stopped => 0 | .starting => 1 | .running => 2 | .fault => 3

def ChanState.byteCode : ChanState → Nat
  | .starting => 0 | .valid => 1 | .fault => 2 | .recovering => 3

def valvePosCode : Option ValvePos → Nat
  | some .closed => 0 | some .fr => 1 | some .fz => 2 | none => 3

def Homing.byteCode : Homing → Nat
  | .none => 0 | .homing => 1 | .rehome => 2

def PreChill.byteCode : PreChill → Nat
  | .absent => 0 | .running _ => 1 | .ended => 2

def DefrostPhase.byteCode : DefrostPhase → Nat
  | .idle => 0 | .pending => 1 | .heat => 2 | .drip => 3 | .recover => 4

def DefrostCause.byteCode : DefrostCause → Nat
  | .credit => 0 | .elapsed => 1 | .host => 2

def terminationCode : Option Termination → Nat
  | some .temp => 0 | some .time => 1 | some .timeBlind => 2 | some .abort => 3 | none => 0xFF

def DoorState.byteCode : DoorState → Nat
  | .unread => 0 | .closed => 1 | .isOpen => 2

def BusMode.byteCode : BusMode → Nat
  | .stopped => 0 | .active => 1 | .fault => 2

def UnitState.byteCode : UnitState → Nat
  | .absent => 0 | .unknown => 1 | .online => 2 | .suspect => 3 | .lost => 4

def ErrorKind.byteCode : ErrorKind → Nat
  | .none => 0 | .echo => 1 | .line => 2 | .noResponse => 3 | .timeout => 4 | .framing => 5 | .check => 6

/-- Slot numbers (Table 9-3). -/
def Slot.number : Slot → Nat
  | .s1 => 1 | .s2 => 2 | .s3 => 3 | .s4 => 4 | .s5 => 5 | .s6 => 6

/-- A zone field, 0 for none (R204). -/
def zoneCode : Option Zone → Nat
  | some z => z.number
  | none => 0

/-- P1: 0 none, 1..4 zone, 5 GROUP (Table 12-6). -/
def turnCode : Option Turn → Nat
  | none => 0
  | some (.zone z) => z.number
  | some .group => 5

/-! ## Short replies (Table 12-1) -/

def identifyFields (s : State) : List Byte :=
  putU16 340 ++ [Config.siliconRevision] ++ putU8 s.mode.opState.byteCode ++ putU8 s.mode.startCause.byteCode ++
    putU8 s.strap.variant.byteCode ++ putU8 s.strap.result.byteCode ++ putU8 s.strap.fault.toNat ++
    [bits (s.present .fresh) (s.present .freeze) (s.present .flex) (s.present .ice) false false false false] ++
    putU16 (leftSecs (s.mode.serviceTimer.getD 0))

def opStateFields (s : State) : List Byte := putU8 s.mode.opState.byteCode

def zoneSetFields (z : Zone) (s : State) : List Byte :=
  let r := s.settings.zone.get z
  putS16 r.setpoint ++ putU8 r.hu ++ putU8 r.hd ++ putU8 r.fs

def zoneTimingFields (z : Zone) (s : State) : List Byte :=
  let r := s.settings.timing.get z
  putU16 r.speedCap ++ putU8 r.minDwell ++ putU8 r.maxDwell

def zoneEnableFields (z : Zone) (s : State) : List Byte :=
  putU8 (s.settings.zone.get z).enabled.toNat ++ putU8 (s.serviceMode z).byteCode

def flexModeFields (s : State) : List Byte :=
  putU8 s.settings.flexMode.byteCode ++ putS16 s.settings.zone.flex.setpoint

def doorFields (d : DoorRec) : List Byte := putU8 d.state.byteCode ++ putU16 (elapsedSecs d.openFor)

def zoneDoorFields (z : ZoneDoor) : List Byte :=
  [bits z.isOpen z.ajar z.recovery false false false false false] ++ putU16 (elapsedSecs z.openFor)

def doorSetFields (s : State) : List Byte :=
  putU16 s.settings.door.ajarDelay ++ putU8 s.settings.door.boost ++ doorFields s.doors.door.freshL ++
    doorFields s.doors.door.freshR ++ doorFields s.doors.door.flex ++ doorFields s.doors.door.freeze ++
    zoneDoorFields s.doors.zone.fresh ++ zoneDoorFields s.doors.zone.freeze ++ zoneDoorFields s.doors.zone.flex ++
    zoneDoorFields s.doors.zone.ice

def compSetFields (s : State) : List Byte :=
  let c := s.settings.comp
  putU16 c.nMin ++ putU16 c.nMax ++ putU16 c.ramp ++ putU16 c.minOn ++ putU16 c.minOff ++ putU16 s.comp.command

def compStateFields (s : State) : List Byte := putU8 s.comp.state.byteCode

def arbSetFields (s : State) : List Byte :=
  let a := s.settings.arb
  putU8 s.settings.level.fresh.byteCode ++ putU8 s.settings.level.freeze.byteCode ++
    putU8 s.settings.level.flex.byteCode ++ putU8 s.settings.level.ice.byteCode ++ putU8 a.maxWait ++
    putU16 a.parkDelay ++ putU8 a.parkMode.byteCode ++ putU8 a.progress ++ putU8 a.isolationHold

def forceFields (s : State) : List Byte :=
  match s.arb.forced with
  | some f => putU8 f.zone.number ++ putU16 (leftMins f.left)
  | none => putU8 0 ++ putU16 0

def serviceModeFields (z : Zone) (s : State) : List Byte := putU8 (s.serviceMode z).byteCode

def defrostSetFields (s : State) : List Byte :=
  let p := s.settings.defrost
  putU16 s.defrost.th ++ putU16 p.eMax ++ putU8 p.w ++ putS16 p.termTemp ++ putU8 p.maxHeat ++ putU8 p.drip

def defrostPhaseFields (s : State) : List Byte := putU8 s.defrost.phase.byteCode

/-- A set of the event unit by its number (3.3(a)); set numbers above 4 are refused before this is asked. -/
def Events.get (e : Events) (n : Nat) : EventSet :=
  match Zone.ofNumber n with
  | some z => e.zone.get z
  | none => e.device

def eventMaskFields (n : Nat) (s : State) : List Byte :=
  putU8 n ++ [(s.events.get n).rise, (s.events.get n).fall]

def eventReadFields (e : Events) : List Byte :=
  [e.device.live, e.device.latched, e.zone.fresh.live, e.zone.fresh.latched, e.zone.freeze.live,
    e.zone.freeze.latched, e.zone.flex.live, e.zone.flex.latched, e.zone.ice.live, e.zone.ice.latched]

def serviceOutputFields (s : State) : List Byte :=
  let v := s.service
  putU8 (valvePosCode (some v.valve)) ++ putU8 v.damperFlex ++ putU8 v.damperIce ++ putU8 v.fanFreezer ++
    putU8 v.fanFresh ++ putU8 v.fanCondenser ++ putU8 v.heater.toNat ++ putU16 s.comp.serviceSpeed ++
    putU8 s.comp.state.byteCode ++ putU16 s.comp.command ++ putU8 s.defrost.heater.toNat

/-! ## ZONE_READ (Table 12-2, R18) -/

def blindFields (b : Option Blind) : List Byte :=
  match b with
  | some b => putU8 (if b.phase = .calling then 1 else 2) ++ putU16 (leftSecs b.left)
  | none => putU8 0 ++ putU16 0

def zoneReadFields (z : Zone) (s : State) : List Byte :=
  let r := s.zones.get z
  let q := s.settings.zone.get z
  putU8 z.number ++
    [bits (s.present z) q.enabled (r.demand = .calling) (s.routeAvailable z) r.holdDefrost r.holdHarvest r.warm false] ++
    putU8 (s.serviceMode z).byteCode ++ putU8 (if z = .flex then s.settings.flexMode.byteCode else 0) ++
    putS16 q.setpoint ++ putU8 q.hu ++ putU8 q.hd ++ putU8 q.fs ++
    putTemp (if s.present z then (s.sensing.air.get z).filtered else none) ++ putU8 r.level ++ blindFields r.blind ++
    putU8 (leftMins (r.isolation.getD 0)) ++ putU8 r.noProgress

/-! ## COMP_READ (Table 12-3, R134) -/

def faultFields (f : Option FaultEntry) : List Byte :=
  match f with
  | some f => putU16 (elapsedSecs f.age) ++ putU8 f.source.byteCode ++ [f.code]
  | none => [0, 0, 0, 0]

/-- The last inverter status as its data bytes, 0 where absent. -/
def invFields (i : Option InvStatus) : List Byte :=
  match i with
  | some i => putU8 i.state.byteCode ++ [i.code, i.speedLow, i.speedHigh, i.heatsink]
  | none => [0, 0, 0, 0, 0]

/-- Min-off remaining, 0 once elapsed (R119, R134). -/
def State.minOffLeft (s : State) : Nat := leftSecs (sec s.settings.comp.minOff - s.comp.stopFor)

/-- The valve byte, offset 48. -/
def valveByte (v : Valve) : Byte :=
  BitVec.ofNat 8
    (valvePosCode v.target + 4 * valvePosCode v.rest + 16 * v.homing.byteCode + 64 * v.homed.toNat +
      128 * v.move.isSome.toNat)

/-- Offsets 1 to 28. -/
def compReadHead (s : State) : List Byte :=
  let c := s.comp
  putU8 (c.state.byteCode + 16 * s.bus.unit.inverter.state.byteCode) ++ putU8 (c.command / 50) ++
    putU8 (c.target.getD 0 / 50) ++ putU8 (s.dEff.getD 0xFF) ++
    putU16 (match s.arb.grant with | some g => (s.settings.timing.get g.zone).speedCap | none => 0) ++
    putU16 (elapsedSecs c.runFor) ++ putU16 (elapsedSecs c.stopFor) ++ putU16 s.minOffLeft ++
    putU16 (leftSecs (c.hold.getD 0)) ++ putU8 (elapsedSecs (c.runWatch.getD 0)) ++
    putU8
      (s.minOnMet.toNat + 2 * c.lossMark.toNat + 4 * c.runWatch.isSome.toNat + 8 * c.lastInv.isSome.toNat +
        16 * s.sensing.ambient.state.byteCode + 64 * c.faults.length) ++
    faultFields c.faults[0]? ++ faultFields c.faults[1]? ++ faultFields c.faults[2]?

/-- Offsets 29 to 47. -/
def compReadMiddle (s : State) : List Byte :=
  let c := s.comp
  let p := s.settings.comp
  invFields c.lastInv ++ putTemp s.sensing.ambient.filtered ++ putS16 s.ambient ++ putU8 c.fanLevel ++
    putU8 (leftSecs (c.postRun.getD 0)) ++ putU8 (c.serviceSpeed / 50) ++ putU8 (p.nMin / 50) ++ putU8 (p.nMax / 50) ++
    putU8 (p.ramp / 50) ++ putU16 p.minOn ++ putU16 p.minOff

/-- Offsets 48 to 59: the route controller's state (R113). -/
def compReadRoute (s : State) : List Byte :=
  let r := s.route
  let v := r.valve
  let f := r.fans
  [valveByte v] ++ putU8 (if v.homed then v.counter else 0) ++ putU8 (min 255 v.outletMoves) ++ putU8 r.dampers.flex ++
    putU8 r.dampers.ice ++ putU8 f.freezer.commanded ++ putU8 f.fresh.commanded ++ putU8 f.condenser.commanded ++
    putU8 f.freezer.output ++ putU8 f.fresh.output ++ putU8 f.condenser.output ++
    putU8
      (f.freezer.stalled.toNat + 2 * f.fresh.stalled.toNat + 4 * f.condenser.stalled.toNat +
        8 * r.dampers.confirmed.toNat + 16 * r.preFreezer.byteCode + 64 * r.preFresh.byteCode)

def compReadFields (s : State) : List Byte := compReadHead s ++ compReadMiddle s ++ compReadRoute s

/-! ## DEFROST_READ (Table 12-4, R155) -/

/-- The report mark, bits 6 and 7 of offset 19. -/
def reportMark (d : Defrost) : Nat :=
  match d.report with
  | none => 2
  | some _ => if d.phase = .idle then 0 else 1

/-- An absent context is sent item by item as 12.1 says (DEDUCED, unsafe: notes/assumptions/20.md). -/
def contextFields (c : Option DefrostContext) : List Byte :=
  match c with
  | some c =>
    putU8 c.cause.byteCode ++ putU16 c.creditAtStart ++ putS16 c.termTemp ++ putU8 c.maxHeat ++ putU8 c.drip ++
      putU16 (elapsedSecs c.heatFor) ++ putU16 (elapsedSecs c.dripFor) ++ putU8 (terminationCode c.termination) ++
      putTemp c.peak
  | none => putU8 0 ++ putU16 0 ++ putTemp none ++ putU8 0 ++ putU8 0 ++ putU16 0 ++ putU16 0 ++ putU8 0xFF ++ putTemp none

def reportFields (r : Option DefrostReport) : List Byte :=
  match r with
  | some r =>
    putU8 r.cause.byteCode ++ putU8 (terminationCode (some r.termination)) ++ putU16 (elapsedSecs r.heatFor) ++
      putU16 (elapsedSecs r.dripFor) ++ putTemp r.peak ++ putU16 r.creditAtStart ++ putU16 r.thAfter
  | none => putU8 0 ++ putU8 0xFF ++ putU16 0 ++ putU16 0 ++ putTemp none ++ putU16 0 ++ putU16 0

def defrostReadFields (s : State) : List Byte :=
  let d := s.defrost
  let p := s.settings.defrost
  putU8 d.phase.byteCode ++ putU16 (elapsedSecs d.phaseFor) ++ putU16 d.credit ++ putU16 d.elapsed ++ putU16 d.th ++
    putU16 p.eMax ++ putU8 p.w ++ putS16 p.termTemp ++ putU8 p.maxHeat ++ putU8 p.drip ++
    putU8 (match d.minute with | some m => elapsedSecs m.elapsed | none => 0) ++
    putU8 (match d.minute with | some m => m.fzRun | none => 0) ++
    putU8
      (d.heater.toNat + 2 * (match d.minute with | some m => m.door | none => false).toNat + 4 * d.fanBlock.toNat +
        8 * s.arb.claim.toNat + 16 * d.context.isSome.toNat +
        32 * (match d.context with | some c => c.blind | none => false).toNat + 64 * reportMark d) ++
    contextFields d.context ++ putTemp s.sensing.frCoil.filtered ++ putTemp s.sensing.fzCoil.filtered ++
    putU8 (s.sensing.frCoil.state.byteCode + 16 * s.sensing.fzCoil.state.byteCode) ++ reportFields d.report

/-! ## UNIT_READ (Table 12-5, R181) -/

/-- The unit's 10 bytes; the payload's unused bytes are 0. -/
def unitFields (address : Nat) (u : UnitRec) : List Byte :=
  putU8 address ++ putU8 u.state.byteCode ++ putU8 u.failures ++ putU8 u.lastError.byteCode ++
    (match u.payload with
      | some p => putU8 p.length ++ (p ++ List.replicate 5 0).take 5
      | none => putU8 0 ++ List.replicate 5 0)

def unitReadFields (s : State) : List Byte :=
  let b := s.bus
  putU8 b.mode.byteCode ++ putU8 (match b.position with | some p => p.number | none => 0) ++ putU8 8 ++
    unitFields 1 b.unit.inverter ++ unitFields 2 b.unit.damper ++ unitFields 3 b.unit.ice

/-! ## ARB_READ (Table 12-6, R90, R205) -/

/-- Offsets 5 to 20: the grant record, or its absence. -/
def grantFields (s : State) : List Byte :=
  match s.arb.grant with
  | some g =>
    putU8 g.zone.number ++ putU8 g.reason.byteCode ++ putU8 g.phase.byteCode ++ putU16 (elapsedSecs g.coolingFor) ++
      putU16 (leftSecs g.minLeft) ++ putU16 (leftSecs g.maxLeft) ++ putTemp g.startTemp ++
      [bits g.door g.continuation false false false false false false] ++ putU8 (s.dEff.getD 0) ++
      putU8 (s.serviceMode g.zone).byteCode ++ putU16 (s.settings.timing.get g.zone).speedCap
  | none =>
    putU8 0 ++ putU8 0 ++ putU8 0 ++ putU16 0 ++ putU16 0 ++ putU16 0 ++ putTemp none ++ putU8 0 ++ putU8 0 ++ putU8 0 ++
      putU16 0

/-- Offsets 30 to 37. -/
def isolationFields (s : State) : List Byte :=
  Zone.all.flatMap fun z =>
    putU8 (leftMins ((s.zones.get z).isolation.getD 0)) ++ putU8 (s.zones.get z).noProgress

/-- An entry of the waiting list (R205). -/
def waitingFields (s : State) (w : Waiting) : List Byte :=
  putU8 (w.zone.number + 64 * (s.aged w).toNat + 128 * (s.selectable w.zone).toNat) ++ putU16 (elapsedSecs w.waited)

def levelByte (l : PerZone Level) : Byte :=
  bits (l.fresh = .group) (l.freeze = .group) (l.flex = .group) (l.ice = .group) false false false false

def arbReadFields (s : State) : List Byte :=
  let a := s.arb
  let p := s.settings.arb
  putU8 s.mode.opState.byteCode ++ putU8 (idleCode a.idle) ++ putU16 (leftSecs (a.parkTimer.getD 0)) ++ grantFields s ++
    putU8 (zoneCode (a.lastEnd.map LastEnd.zone)) ++
    putU8 (match a.lastEnd with | some e => e.reason.byteCode | none => 0) ++
    [bits (s.defrost.phase = .pending) s.compAvailable a.claim false false false false false] ++ putU8 (turnCode a.p1) ++
    putU8 (zoneCode a.p2) ++ [levelByte s.settings.level] ++ putU8 (zoneCode (a.forced.map Forced.zone)) ++
    putU16 (match a.forced with | some f => leftMins f.left | none => 0) ++ isolationFields s ++ putU8 p.maxWait ++
    putU16 p.parkDelay ++ putU8 p.parkMode.byteCode ++ putU8 p.progress ++ putU8 p.isolationHold ++
    putU8 a.waiting.length ++ a.waiting.flatMap (waitingFields s)

end Sys2Proof.Machine
end

