-- ==== Sys2Proof/Machine/BusOps.lean ====
section
/-!
DEFINITION. The shared operations of the unit bus controller (Chapter 9): the schedule and its frames, the bits the part
drives, check bytes, the unit table, and the bus modes.
-/
namespace Sys2Proof.Machine

/-! ## The schedule and the frames (Tables 9-2 and 9-3) -/

/-- The next slot, 6 returning to 1 (R172). -/
def Slot.next : Slot → Slot
  | .s1 => .s2 | .s2 => .s3 | .s3 => .s4 | .s4 => .s5 | .s5 => .s6 | .s6 => .s1

/-- The unit a slot addresses (Table 9-3). -/
def Slot.unit : Slot → BusUnit
  | .s1 => .inverter | .s2 => .inverter | .s3 => .damper | .s4 => .damper | .s5 => .ice | .s6 => .inverter

/-- A slot whose frame the part sends (SPEED_SET, DAMPER_SET). -/
def Slot.isSet : Slot → Bool
  | .s1 => true | .s3 => true | _ => false

/-- The code byte of the slot's frame (Table 9-2). -/
def Slot.code : Slot → Byte
  | .s1 => 0x31 | .s2 => 0x32 | .s3 => 0x41 | .s4 => 0x42 | .s5 => 0x52 | .s6 => 0x32

/-- n, the data bytes of the slot's frame (Table 9-2). -/
def Slot.dataBytes : Slot → Nat
  | .s1 => 3 | .s2 => 5 | .s3 => 2 | .s4 => 4 | .s5 => 1 | .s6 => 5

/-- The check byte of a frame (R171). -/
def checkByte (code : Byte) (data : List Byte) : Byte := data.foldl (fun a b => a ^^^ b) code ^^^ 0x5A

/-- The header check byte is the complement of the code (R168). -/
def headerCheck (code : Byte) : Byte := ~~~code

/-- The length of a slot, 40 ms, in bit times (R172). -/
def slotTicks : Ticks := 384

/-- The header ends 36 bit times after the start of the slot (R168). -/
def headerTicks : Ticks := 36

/-- The end of a SET exchange, from the start of the slot: 76 bit times for SPEED_SET, 66 for DAMPER_SET (R169). -/
def Slot.setTicks (p : Slot) : Ticks := headerTicks + 10 * (p.dataBytes + 1)

/-- The response limit of a STATUS slot, from the start of the slot (R170, Table 9-4). -/
def Slot.limitTicks (p : Slot) : Ticks := headerTicks + 20 + 16 * (p.dataBytes + 1)

/-- Bit times elapsed since the end of the header (R166(c)). -/
def Bus.bitsSinceHeader (b : Bus) : Nat := b.slotFor - headerTicks

/-- The data bytes of a SET frame, from its owner as it stands (R168, R206). -/
def State.setData (s : State) (p : Slot) : List Byte :=
  match p with
  | .s1 =>
    if s.comp.command = 0 then [0, 0, 0]
    else [1, BitVec.ofNat 8 (s.comp.command / 10), BitVec.ofNat 8 (s.comp.command / 10 / 256)]
  | .s3 => [BitVec.ofNat 8 s.route.dampers.flex, BitVec.ofNat 8 s.route.dampers.ice]
  | _ => []

/-- The bytes the part sends in an exchange: the header, and in a SET slot the data and the check byte (R168, R169). -/
def Exchange.bytes (e : Exchange) : List Byte :=
  [e.slot.code, headerCheck e.slot.code] ++
    (if e.slot.isSet then e.data ++ [checkByte e.slot.code e.data] else [])

/-- The levels of the line in the part's own bit times of an exchange while no other device pulls it low: the idle check of
2, the break of 13 low, the delimiter of 1, then the characters (Table 9-1, R168, R169). -/
def Exchange.ownBits (e : Exchange) : List Bool :=
  [true, true] ++ List.replicate 13 false ++ [true] ++ e.bytes.flatMap charBits

/-- The level the part drives in a bit time of an exchange, none while it releases the line: in the idle check, the delimiter,
and after its own bits (Table 9-1, R167). -/
def Exchange.drivenLevel (e : Exchange) (bit : Nat) : Option Bool :=
  if bit < 2 || bit = 15 then none else e.ownBits[bit]?

/-- The bytes sent so far, at a time into the slot (R166(c)). -/
def Exchange.sentBytes (e : Exchange) (t : Ticks) : List Byte := e.bytes.take ((t - 16) / 10)

/-! ## Reading the line (R167, R170, R173) -/

/-- The level of the line in the next bit time if no other device pulls it low. -/
def Exchange.quietLevel (e : Exchange) : Bool := (e.ownBits[e.heard.length]?).getD true

/-- A bit time of the slot passes without another device on the line; levels that were reported past it stand. -/
def Exchange.advance (slotFor : Ticks) (e : Exchange) : Exchange :=
  if e.heard.length ≤ slotFor then { e with heard := e.heard ++ [e.quietLevel] } else e

/-- The first bit time in which the line was read other than meant (R167). -/
def firstMismatch : List Bool → List Bool → Option Nat
  | a :: as, b :: bs => if a = b then (firstMismatch as bs).map (· + 1) else some 0
  | _, _ => none

/-- The end of the character that a bit time of the part's own characters lies in (R173, ECHO). -/
def charEnd (bit : Nat) : Nat := 16 + 10 * ((bit - 16) / 10 + 1)

/-- The reception of a response: the bytes received, the data bits of the character under way once its start bit has been
taken, and whether a stop bit was low. -/
structure Reception where
  bytes : List Byte
  char : Option (List Bool)
  framing : Bool
  deriving DecidableEq, Repr

/-- A byte from its bits, least significant first. -/
def byteOfBits (bs : List Bool) : Byte := BitVec.ofNat 8 (bs.foldr (fun b n => b.toNat + 2 * n) 0)

/-- One bit time of a reception of n characters (R167, R170): a low level on the idle line is a start bit, 8 data bits
follow, and the stop bit is expected high. -/
def Reception.bit (n : Nat) (r : Reception) (level : Bool) : Reception :=
  if r.framing || n ≤ r.bytes.length then r
  else
    match r.char with
    | none => if level then r else { r with char := some [] }
    | some bs =>
      if bs.length < 8 then { r with char := some (bs ++ [level]) }
      else if level then { r with bytes := r.bytes ++ [byteOfBits bs], char := none }
      else { r with framing := true }

/-- What a STATUS exchange has received within its response limit (R170): the bytes received so far of R166(c) are its
bytes. -/
def Exchange.reception (e : Exchange) : Reception :=
  ((e.heard.take e.slot.limitTicks).drop headerTicks).foldl (Reception.bit (e.slot.dataBytes + 1)) ⟨[], none, false⟩

/-- A complete response is good when its check byte agrees and its values lie within their fields' meaning (R171,
R206). -/
def responseGood (p : Slot) (data : List Byte) (check : Byte) : Bool :=
  check = checkByte p.code data &&
    match p with
    | .s2 => u8At data 0 ≤ 3
    | .s6 => u8At data 0 ≤ 3
    | .s4 => u8At data 0 ≤ 100 && u8At data 1 ≤ 100
    | _ => true

/-- How an exchange ends: the SET frame has read back as sent, a response is complete and good, or an error. -/
inductive ExchangeEnd where
  | sent
  | response (data : List Byte)
  | failed (k : ErrorKind)
  deriving DecidableEq, Repr

/-- The end of a STATUS exchange by what it has received (R170, R171, R173): FRAMING at a low stop bit; at the last stop bit
the response, or CHECK; at the limit NO_RESPONSE, or TIMEOUT where a response had begun. -/
def Exchange.received (e : Exchange) : Option ExchangeEnd :=
  let r := e.reception
  let n := e.slot.dataBytes
  if r.framing then some (.failed .framing)
  else if n < r.bytes.length then
    if responseGood e.slot (r.bytes.take n) (r.bytes.getD n 0) then some (.response (r.bytes.take n))
    else some (.failed .check)
  else if e.slot.limitTicks ≤ e.heard.length then
    some (.failed (if r.bytes.isEmpty && r.char.isNone then .noResponse else .timeout))
  else none

/-- How an exchange has ended by the levels heard, if it has (R169, R170, R173): a part's own bit read other than meant gives
LINE at once in the idle check, the break and the delimiter, and ECHO at the end of its character; then a SET frame has been
sent whole, and a STATUS exchange follows its response (one level for a bit time: DESIGN CHOICE, safe:
notes/assumptions/13.md). -/
def Exchange.outcome (e : Exchange) : Option ExchangeEnd :=
  match firstMismatch e.ownBits e.heard with
  | some i => if i < 16 then some (.failed .line) else if charEnd i ≤ e.heard.length then some (.failed .echo) else none
  | none =>
    if e.slot.isSet then (if e.ownBits.length ≤ e.heard.length then some .sent else none)
    else e.received

/-- Levels that cover the slot's bit times up to now, with or without the one under way. -/
def Bus.upToNow (b : Bus) (heard : List Bool) : Bool := b.slotFor ≤ heard.length && heard.length ≤ b.slotFor + 1

/-- The exchange in flight has heard these levels. -/
def hear (e : Exchange) (s : State) : State := { s with bus := { s.bus with exchange := some e } }

/-- The bit times for which the FAULT check asks the line to have been high (R179). -/
def lineBits : Nat := 10

/-- The last levels of a line that the FAULT check can ask for. -/
def lastLevels (levels : List Bool) : List Bool := levels.drop (levels.length - lineBits)

/-- The line has been high without interruption for the last 10 bit times (R179). -/
def Bus.lineHigh (b : Bus) : Bool := b.line.length = lineBits && b.line.all id

/-! ## Opening, slots and modes (R172, R178, R179) -/

/-- A slot begins (R168, R172): its frame is built and its exchange opened, unless its unit is ABSENT. -/
def beginSlot (p : Slot) (s : State) : State :=
  { s with
    bus :=
      { s.bus with
        position := some p
        slotFor := 0
        exchange := if (s.bus.unit.get p.unit).state = .absent then none else some ⟨p, s.setData p, []⟩ } }

/-- The bus becomes ACTIVE with slot 1 (R178, R179). -/
def enterActive (s : State) : State :=
  beginSlot .s1 { s with bus := { s.bus with mode := .active, checkTimer := none, line := [], deferred := .none } }

/-- An opening asked (R178, R180): taken in STOPPED, kept behind a deferred stop, and without effect in ACTIVE and FAULT
otherwise. -/
def askOpening (s : State) : State :=
  if s.bus.mode = .stopped then enterActive s
  else if s.bus.deferred = .none then s
  else { s with bus := { s.bus with deferred := .stopThenOpen } }

/-- The stop (R178, R180): no slot, no exchange, the line released. The slot timer is held at 0 (DESIGN CHOICE, safe:
notes/assumptions/34.md). -/
def stopBus (s : State) : State :=
  { s with
    bus :=
      { s.bus with
        mode := .stopped, position := none, slotFor := 0, exchange := none, checkTimer := none, line := []
        deferred := .none } }

/-- A stop asked (R180): deferred to the end of the slot in ACTIVE, taken at once in FAULT and STOPPED. -/
def askStop (s : State) : State :=
  if s.bus.mode = .active then { s with bus := { s.bus with deferred := .stop } } else stopBus s

/-- The exchange in flight ends (R168). -/
def endExchange (s : State) : State := { s with bus := { s.bus with exchange := none } }

/-! ## The unit table (R175, R177) -/

def State.mapUnit (s : State) (u : BusUnit) (f : UnitRec → UnitRec) : State :=
  { s with bus := { s.bus with unit := s.bus.unit.set u (f (s.bus.unit.get u)) } }

/-- The lost limit (R175). -/
def lostLimit : Nat := 8

/-- A failure counted against a unit's entry (R175(a)). -/
def UnitRec.fail (r : UnitRec) (k : ErrorKind) : UnitRec :=
  let n := min 255 (r.failures + 1)
  { r with
    failures := n
    lastError := k
    state := if lostLimit ≤ n then .lost else if r.state = .lost then .lost else .suspect }

/-- A successful STATUS exchange in a unit's entry (R175(b), R176). -/
def UnitRec.succeed (r : UnitRec) (payload : List Byte) : UnitRec :=
  { r with state := .online, failures := 0, payload := some payload }

/-- What the loss of a unit does at its dependants (R177, Table 9-6); route availability follows the table itself
(R10). -/
def unitLostEffect (u : BusUnit) (s : State) : State :=
  match u with
  | .inverter => inverterLost s
  | .damper => s
  | .ice => s.mapZone .ice fun r => { r with holdHarvest := false }

/-- A failure counted against a unit that is not ABSENT, with the loss it may bring (R175, R177). -/
def failUnit (u : BusUnit) (k : ErrorKind) (s : State) : State :=
  if (s.bus.unit.get u).state = .absent then s
  else
    let t := s.mapUnit u fun r => r.fail k
    if (t.bus.unit.get u).state = .lost && (s.bus.unit.get u).state ≠ .lost then unitLostEffect u t else t

/-- An exchange fails (R174): counted for the unit of its slot; LINE puts the bus in FAULT mode, where the line goes on being
heard from the levels of the exchange (R179). With a stop deferred the outcome is discarded (R180). -/
def failExchange (e : Exchange) (k : ErrorKind) (s : State) : State :=
  if s.bus.deferred ≠ .none then endExchange s
  else
    let t := failUnit e.slot.unit k (endExchange s)
    if k = .line then { t with bus := { t.bus with mode := .fault, checkTimer := some 0, line := lastLevels e.heard } } else t

/-- The unit table after either reset, from the variant (R4, R182). -/
def unitTable (v : Variant) : PerUnit UnitRec :=
  ⟨.reset (v.expects .inverter), .reset (v.expects .damper), .reset (v.expects .ice)⟩

end Sys2Proof.Machine
end

