-- ==== Sys2Proof/Machine/SensingOps.lean ====
section
/-!
DEFINITION. The shared operations of the sensing block and of the zone table's demand (Chapters 2 and 3): the curve, the
window and its filter, the channel states, demand evaluation, blind duty and the warm condition.
-/
namespace Sys2Proof.Machine

/-! ## Conversion (R22 to R24) -/

/-- Straight-line interpolation between a colder and a warmer breakpoint (R23). -/
def interpolate (tCold cCold cWarm c : Int) : Int := tCold + (cCold - c) * 100 / (cCold - cWarm)

/-- The temperature of a valid code on the curve of Table 2-3, held at its ends (R23, R24). -/
def temperature (c : Int) : Int :=
  if 3936 < c then -400
  else if 3814 < c then interpolate (-400) 3936 3814 c
  else if 3627 < c then interpolate (-300) 3814 3627 c
  else if 3367 < c then interpolate (-200) 3627 3367 c
  else if 3037 < c then interpolate (-100) 3367 3037 c
  else if 2654 < c then interpolate 0 3037 2654 c
  else if 2248 < c then interpolate 100 2654 2248 c
  else if 1854 < c then interpolate 200 2248 1854 c
  else if 1497 < c then interpolate 300 1854 1497 c
  else if 1191 < c then interpolate 400 1497 1191 c
  else 500

/-- The reading of a code (R22): none for SHORT (below 40) and OPEN (above 4050). -/
def reading (code : Code) : Option Int :=
  if code.toNat < 40 || 4050 < code.toNat then none else some (temperature code.toNat)

/-! ## Window, filter and channel states (R25 to R32) -/

/-- F from a window (R27): the mean rounded to the nearest 0.1 degree, halves toward the warmer; the division is floor. -/
def filterOf (w : List Int) : Int := (2 * w.sum + w.length) / (2 * w.length)

/-- A valid reading joins the window; the oldest of 9 leaves (R26). -/
def joinWindow (w : List Int) (t : Int) : List Int :=
  let v := w ++ [t]
  if 8 < v.length then v.drop 1 else v

/-- What a channel hands its consumers at an arrival (section 2.6). -/
inductive Delivery where
  | nothing
  | value (f : Int)
  | fault
  | recovery (f : Int)
  deriving DecidableEq, Repr

/-- Entry to FAULT (R28(b), R29, R30). -/
def ChannelRec.enterFault : ChannelRec := ⟨.fault, [], 0, [], none⟩

/-- A valid reading at a channel (R26 to R29, R31, R32). -/
def ChannelRec.valid (r : ChannelRec) (t : Int) : ChannelRec × Delivery :=
  match r.state with
  | .starting =>
    let w := joinWindow r.window t
    if 4 ≤ w.length then (⟨.valid, w, 0, [], some (filterOf w)⟩, .value (filterOf w))
    else (⟨.starting, w, 0, [], none⟩, .nothing)
  | .valid =>
    let w := joinWindow r.window t
    (⟨.valid, w, 0, [], some (filterOf w)⟩, .value (filterOf w))
  | .fault => (⟨.recovering, [], 0, [t], none⟩, .nothing)
  | .recovering =>
    let w := r.run ++ [t]
    if 4 ≤ w.length then (⟨.valid, w, 0, [], some (filterOf w)⟩, .recovery (filterOf w))
    else (⟨.recovering, [], 0, w, none⟩, .nothing)

/-- An invalid reading at a channel (R25, R28(b), R29(b), R31). -/
def ChannelRec.invalidReading (r : ChannelRec) : ChannelRec × Delivery :=
  match r.state with
  | .starting => if 3 ≤ r.invalid + 1 then (.enterFault, .fault) else ({ r with invalid := r.invalid + 1 }, .nothing)
  | .valid => if 3 ≤ r.invalid + 1 then (.enterFault, .fault) else ({ r with invalid := r.invalid + 1 }, .nothing)
  | .fault => (r, .nothing)
  | .recovering => (.enterFault, .nothing)

/-- A reading at a channel. -/
def ChannelRec.take (r : ChannelRec) (t : Option Int) : ChannelRec × Delivery :=
  match t with
  | some t => r.valid t
  | none => r.invalidReading

/-! ## Sweeps (R21) -/

/-- The channels a sweep converts, in order: the air channel of an absent zone is left out (R21). -/
def State.sweepOrder (s : State) : List Channel :=
  ((Zone.all.filter fun z => s.present z).map Channel.air) ++ [.frCoil, .fzCoil, .ambient]

/-- The channel converted after a channel; none after the last. -/
def State.sweepAfter (s : State) (ch : Channel) : Option Channel :=
  ((s.sweepOrder.dropWhile fun c => c ≠ ch).drop 1).head?

/-- A sweep begins: channel 1 is converted first (R21). -/
def beginSweep (s : State) : State :=
  { s with sensing := { s.sensing with next := s.sweepOrder.head?, sweepTimer := some 0 } }

/-! ## Demand (R40, R41, R43, R44) -/

/-- The demand state decided from T (R40). -/
def demandOf (q : ZoneSettings) (t : Int) (held : Demand) : Demand :=
  if q.setpoint + q.hu ≤ t then .calling
  else if t ≤ q.setpoint - q.hd then .satisfied
  else held

/-- D (R41): truncating division, 0 for a numerator of 0 or below, 100 at most. -/
def levelOf (q : ZoneSettings) (t : Int) (d : Demand) : Nat :=
  match d with
  | .satisfied => 0
  | .calling => min 100 (((t - q.setpoint + q.hd) * 100).toNat / (q.hd + q.fs))

/-- The zone's demand state and D are replaced; a transition to SATISFIED clears recovery pending (R44(c)). The list, the
grant and the conditions follow in the reaction to the event (R43, R44). -/
def setDemand (z : Zone) (d : Demand) (level : Nat) (s : State) : State :=
  let satisfied := decide ((s.zones.get z).demand = .calling) && decide (d = .satisfied)
  let t := s.mapZone z fun r => { r with demand := d, level := level }
  if satisfied then
    { t with
      doors := { t.doors with zone := t.doors.zone.set z { t.doors.zone.get z with recovery := false } } }
  else t

/-- A demand evaluation with T (R39 to R41). -/
def evaluate (z : Zone) (t : Int) (s : State) : State :=
  let q := s.settings.zone.get z
  let d := demandOf q t (s.zones.get z).demand
  setDemand z d (levelOf q t d) s

/-- The evaluation a setting change calls for (R13, R39(c), R42, R49): with the F last delivered, of a present zone that
is not BLIND and whose channel has delivered. -/
def evaluateNow (z : Zone) (s : State) : State :=
  match (s.sensing.air.get z).filtered with
  | some f => if s.present z && !s.blind z then evaluate z f s else s
  | none => s

/-! ## Blind duty (R46, R47, Table 3-2) -/

/-- Phase lengths in seconds (Table 3-2). -/
def blindSecs (z : Zone) (phase : Demand) : Nat :=
  match z, phase with
  | .fresh, .calling => 600
  | .fresh, .satisfied => 1800
  | .freeze, .calling => 1200
  | .freeze, .satisfied => 1200
  | .flex, .calling => 600
  | .flex, .satisfied => 1800
  | .ice, .calling => 600
  | .ice, .satisfied => 1200

/-- The blind timer enters a phase, and demand with it: D is 50 in CALLING and 0 in SATISFIED (R46, R47). -/
def enterBlindPhase (z : Zone) (phase : Demand) (s : State) : State :=
  setDemand z phase (match phase with | .calling => 50 | .satisfied => 0)
    (s.mapZone z fun r => { r with blind := some ⟨phase, sec (blindSecs z phase)⟩ })

/-! ## The warm condition (R52, R54, Table 3-4) -/

/-- Warm offset W (Table 3-4). -/
def warmOffset : Zone → Int
  | .fresh => 40
  | .freeze => 80
  | .flex => 50
  | .ice => 80

/-- WARM false, count 0 and mark removed (R54). -/
def ZoneRec.clearWarm (r : ZoneRec) : ZoneRec := { r with warmRunning := false, warmFor := 0, warm := false }

/-- The comparison of a value delivery with the warm threshold (R52), for an enabled zone. -/
def warmCompare (z : Zone) (t : Int) (s : State) : State :=
  let q := s.settings.zone.get z
  if q.enabled then
    s.mapZone z fun r =>
      if q.setpoint + warmOffset z ≤ t then { r with warmRunning := true }
      else if q.setpoint + warmOffset z - 10 ≤ t then { r with warmRunning := false }
      else r.clearWarm
  else s

/-! ## Deliveries to the consumers (R34 to R36) -/

/-- A value delivery on a channel. The arrival that makes a channel VALID is itself a delivery and is compared by R108
(DEDUCED, unsafe: notes/assumptions/32.md). -/
def deliverValue (ch : Channel) (f : Int) (s : State) : State :=
  match ch with
  | .air z => preChillCompare z.fan (warmCompare z f (evaluate z f s))
  | .frCoil => preChillCompare .fresh s
  | .fzCoil => defrostCoilValue f (preChillCompare .freezer s)
  | .ambient => s

/-- A fault declaration (R30): BLIND starts and the warm timer is cleared (R46), the FZ coil informs the defrost controller
(R144). -/
def deliverFault (ch : Channel) (s : State) : State :=
  match ch with
  | .air z => (enterBlindPhase z .calling s).mapZone z ZoneRec.clearWarm
  | .fzCoil => defrostCoilFault s
  | _ => s

/-- A recovery (R32): the blind timer of an air channel's zone is removed, and the value is delivered (R48), to the pre-chill
comparison too (DEDUCED, unsafe: notes/assumptions/32.md). -/
def deliverRecovery (ch : Channel) (f : Int) (s : State) : State :=
  match ch with
  | .air z => deliverValue (.air z) f (s.mapZone z fun r => { r with blind := none })
  | _ => deliverValue ch f s

end Sys2Proof.Machine
end

