-- ==== Sys2Proof/Machine/Zones.lean ====
section
/-!
DEFINITION. The meanings of the zone table's commands (Chapters 1 and 3): ZONE_SET, ZONE_ENABLE, FLEX_MODE, ZONE_READ,
BLIND_PHASE_EXPIRY, WARM_TIMER_EXPIRY.
-/
namespace Sys2Proof.Machine

/-- The zone of a request whose first byte is a zone number; none where it is outside 1..4. -/
def zoneOf (p : List Byte) : Option Zone := Zone.ofNumber (u8At p 0)

/-- Reply fields that depend on the zone of the request. -/
def zoneFields (p : List Byte) (f : Zone → State → List Byte) (s : State) : List Byte :=
  match zoneOf p with
  | some z => f z s
  | none => []

/-- Change the settings of one zone's record. -/
def State.mapZoneSettings (s : State) (z : Zone) (f : ZoneSettings → ZoneSettings) : State :=
  { s with settings := { s.settings with zone := s.settings.zone.set z (f (s.settings.zone.get z)) } }

/-! ## ZONE_SET (R15) -/

/-- Setpoint ranges of the FLEX modes (Table 1-6). -/
def FlexMode.range : FlexMode → Int × Int
  | .fresh => (10, 60)
  | .chill => (-20, 10)
  | .soft => (-70, -30)
  | .freeze => (-220, -150)

/-- Default setpoints of the FLEX modes (Table 1-6). -/
def FlexMode.setpoint : FlexMode → Int
  | .fresh => 30
  | .chill => -10
  | .soft => -50
  | .freeze => -180

/-- Setpoint ranges (Table 1-4); FLEX's is that of its mode (R5). -/
def setpointRange (m : FlexMode) : Zone → Int × Int
  | .fresh => (10, 70)
  | .freeze => (-240, -140)
  | .flex => m.range
  | .ice => (-220, -100)

/-- The settings of ZONE_SET after step 4 (R15, R5, R6). -/
def zoneSetClamped (m : FlexMode) (z : Zone) (p : List Byte) (q : ZoneSettings) : ZoneSettings :=
  { q with
    setpoint := clampInt (setpointRange m z).1 (setpointRange m z).2 (s16At p 1)
    hu := clamp 2 50 (u8At p 3)
    hd := clamp 2 50 (u8At p 4)
    fs := clamp 10 200 (u8At p 5) }

/-- The settings as ZONE_SET carries them. -/
def zoneSetGiven (p : List Byte) (q : ZoneSettings) : ZoneSettings :=
  { q with setpoint := s16At p 1, hu := u8At p 3, hd := u8At p 4, fs := u8At p 5 }

/-- Step 5 of ZONE_SET: the settings are stored and the demand is evaluated (R15, R13). -/
def zoneSetEffect (z : Zone) (p : List Byte) (s : State) : State :=
  evaluateNow z (s.mapZoneSettings z (zoneSetClamped s.settings.flexMode z p))

/-- The checks of ZONE_SET in order, and its effect (R15). -/
def zoneSetOwner (p : List Byte) (s : State) : Status × State :=
  match zoneOf p with
  | none => refuse .badValue s
  | some z =>
    if !s.present z then refuse .notPresent s
    else if u16At p 1 = 0x8000 then refuse .badValue s
    else
      let q := s.settings.zone.get z
      accept (.ofClamp (zoneSetClamped s.settings.flexMode z p q ≠ zoneSetGiven p q)) (zoneSetEffect z p s)

/-- ZONE_SET (R15). -/
def execZoneSet (payload : List Byte) (s : State) : Host.Outcome State Fault Refusal :=
  .next (takeRequest 0x10 payload 6 (zoneSetOwner payload) (zoneFields payload zoneSetFields) s)

/-! ## ZONE_ENABLE (R16) -/

/-- The enabled field takes a new value (R8); a disable clears WARM (R54(c)). -/
def enableEffect (z : Zone) (on : Bool) (s : State) : State :=
  let t := s.mapZoneSettings z fun q => { q with enabled := on }
  if on then t else t.mapZone z ZoneRec.clearWarm

/-- The checks of ZONE_ENABLE in order, and its effect (R16). -/
def zoneEnableOwner (p : List Byte) (s : State) : Status × State :=
  match zoneOf p with
  | none => refuse .badValue s
  | some z =>
    if 1 < u8At p 1 then refuse .badValue s
    else if !s.present z then refuse .notPresent s
    else if (s.settings.zone.get z).enabled = (u8At p 1 = 1 : Bool) then (.ok, s)
    else accept .ok (enableEffect z (u8At p 1 = 1) s)

/-- ZONE_ENABLE (R16). -/
def execZoneEnable (payload : List Byte) (s : State) : Host.Outcome State Fault Refusal :=
  .next (takeRequest 0x12 payload 2 (zoneEnableOwner payload) (zoneFields payload zoneEnableFields) s)

/-! ## FLEX_MODE (R17) -/

/-- A FLEX mode by its code (Table 1-6). -/
def flexModeOf : Nat → FlexMode
  | 0 => .fresh
  | 1 => .chill
  | 2 => .soft
  | _ => .freeze

/-- Step 4 of FLEX_MODE (R17): mode, default setpoint, no-progress count 0, evaluation. -/
def flexModeEffect (m : FlexMode) (s : State) : State :=
  let t := { s with settings := { s.settings with flexMode := m } }
  let t := t.mapZoneSettings .flex fun q => { q with setpoint := m.setpoint }
  evaluateNow .flex (t.mapZone .flex fun r => { r with noProgress := 0 })

/-- The checks of FLEX_MODE in order, and its effect (R17). -/
def flexModeOwner (p : List Byte) (s : State) : Status × State :=
  if 3 < u8At p 0 then refuse .badValue s
  else if !s.present .flex then refuse .notPresent s
  else if flexModeOf (u8At p 0) = s.settings.flexMode then (.ok, s)
  else accept .ok (flexModeEffect (flexModeOf (u8At p 0)) s)

/-- FLEX_MODE (R17). -/
def execFlexMode (payload : List Byte) (s : State) : Host.Outcome State Fault Refusal :=
  .next (takeRequest 0x13 payload 1 (flexModeOwner payload) flexModeFields s)

/-! ## ZONE_READ (R18) -/

/-- A number outside 1..4 is refused; a zone in range, present or absent, is answered (R18). -/
def zoneReadOwner (p : List Byte) (s : State) : Status × State :=
  if (zoneOf p).isSome then (.ok, s) else refuse .badValue s

/-- ZONE_READ (R18). -/
def execZoneRead (payload : List Byte) (s : State) : Host.Outcome State Fault Refusal :=
  .next (takeRequest 0x14 payload 1 (zoneReadOwner payload) (zoneFields payload zoneReadFields) s)

/-! ## The zone table's timers (R47, R53) -/

/-- The blind timer of the zone has its last tick left. -/
def State.blindDue (s : State) (z : Zone) : Bool :=
  match (s.zones.get z).blind with
  | some b => dueDown b.left
  | none => false

/-- The other phase (R47). -/
def Demand.other : Demand → Demand
  | .satisfied => .calling
  | .calling => .satisfied

/-- The phase that follows the phase that expires. -/
def blindExpired (z : Zone) (s : State) : State :=
  match (s.zones.get z).blind with
  | some b => enterBlindPhase z b.phase.other s
  | none => s

/-- BLIND_PHASE_EXPIRY (R47). -/
def execBlindPhaseExpiry (z : Zone) (s : State) : Host.Outcome State Fault Refusal :=
  .next (if s.blindDue z then finish (blindExpired z s) else s)

/-- The warm timer gathers time: it is marked running and none of the zone's doors is open (R53). -/
def State.warmGathering (s : State) (z : Zone) : Bool := (s.zones.get z).warmRunning && !s.zoneDoorOpen z

/-- The count of the warm timer completes its 3600th second with the next tick (R53). -/
def State.warmDue (s : State) (z : Zone) : Bool :=
  s.warmGathering z && !(s.zones.get z).warm && dueUp (sec 3600) (s.zones.get z).warmFor

/-- WARM becomes true with the count at 3600 (R53). -/
def ZoneRec.warmed (r : ZoneRec) : ZoneRec := { r with warmFor := sec 3600, warm := true }

/-- WARM_TIMER_EXPIRY (R53). -/
def execWarmTimerExpiry (z : Zone) (s : State) : Host.Outcome State Fault Refusal :=
  .next (if s.warmDue z then finish (s.mapZone z ZoneRec.warmed) else s)

end Sys2Proof.Machine
end

