-- ==== Sys2Proof/Machine/Arbitration.lean ====
section
/-!
DEFINITION. The meanings of the arbiter's commands (Chapter 4): ZONE_TIMING, ARB_SET, FORCE, ARB_READ, READMIT,
MIN_DWELL_MET, MAX_DWELL_EXPIRY, ISOLATION_HOLD_EXPIRY, FORCED_RECORD_EXPIRY, PARK_TIMER_EXPIRY.
-/
namespace Sys2Proof.Machine

/-! ## ZONE_TIMING (R86) -/

/-- The values as ZONE_TIMING carries them. -/
def timingGiven (p : List Byte) : ZoneTiming := ⟨u16At p 1, u8At p 3, u8At p 4⟩

/-- The values after step 3 (R86). -/
def timingClamped (p : List Byte) : ZoneTiming :=
  ⟨clamp 1200 5000 (u16At p 1), clamp 1 15 (u8At p 3), clamp 5 60 (u8At p 4)⟩

/-- Step 5 of ZONE_TIMING. -/
def storeTiming (z : Zone) (v : ZoneTiming) (s : State) : State :=
  { s with settings := { s.settings with timing := s.settings.timing.set z v } }

/-- The checks of ZONE_TIMING in order, and its effect (R86). -/
def zoneTimingOwner (p : List Byte) (s : State) : Status × State :=
  match zoneOf p with
  | none => refuse .badValue s
  | some z =>
    if !s.present z then refuse .notPresent s
    else if (timingClamped p).maxDwell ≤ (timingClamped p).minDwell then refuse .badValue s
    else accept (.ofClamp (timingClamped p ≠ timingGiven p)) (storeTiming z (timingClamped p) s)

/-- ZONE_TIMING (R86). -/
def execZoneTiming (payload : List Byte) (s : State) : Host.Outcome State Fault Refusal :=
  .next (takeRequest 0x11 payload 5 (zoneTimingOwner payload) (zoneFields payload zoneTimingFields) s)

/-! ## ARB_SET (R87) -/

/-- A level by its code. -/
def levelOfCode (n : Nat) : Level := if n = 0 then .l1 else .group

/-- The levels of ARB_SET. -/
def arbLevels (p : List Byte) : PerZone Level :=
  ⟨levelOfCode (u8At p 0), levelOfCode (u8At p 1), levelOfCode (u8At p 2), levelOfCode (u8At p 3)⟩

/-- The park delay raised to the next of 0, 30, 120 and 480; above 480 gives 480 (R87 step 3). -/
def parkDelayOf (n : Nat) : Nat := if n = 0 then 0 else if n ≤ 30 then 30 else if n ≤ 120 then 120 else 480

/-- The park mode of ARB_SET. -/
def parkModeOf (n : Nat) : ParkMode := if n = 0 then .close else .hold

/-- The parameters as ARB_SET carries them. -/
def arbGiven (p : List Byte) : ArbParams := ⟨u8At p 4, u16At p 5, parkModeOf (u8At p 7), u8At p 8, u8At p 9⟩

/-- The parameters after steps 2 and 3 (R87). -/
def arbClamped (p : List Byte) : ArbParams :=
  ⟨clamp 10 120 (u8At p 4), parkDelayOf (u16At p 5), parkModeOf (u8At p 7), clamp 1 30 (u8At p 8),
    clamp 10 240 (u8At p 9)⟩

/-- Step 4 of ARB_SET. -/
def storeArb (levels : PerZone Level) (v : ArbParams) (s : State) : State :=
  { s with settings := { s.settings with level := levels, arb := v } }

/-- A level or a park mode other than 0 and 1 (R87 step 1). -/
def arbBad (p : List Byte) : Bool :=
  1 < u8At p 0 || 1 < u8At p 1 || 1 < u8At p 2 || 1 < u8At p 3 || 1 < u8At p 7

/-- The checks of ARB_SET in order, and its effect (R87). -/
def arbSetOwner (p : List Byte) (s : State) : Status × State :=
  if arbBad p then refuse .badValue s
  else accept (.ofClamp (arbClamped p ≠ arbGiven p)) (storeArb (arbLevels p) (arbClamped p) s)

/-- ARB_SET (R87). -/
def execArbSet (payload : List Byte) (s : State) : Host.Outcome State Fault Refusal :=
  .next (takeRequest 0x30 payload 10 (arbSetOwner payload) arbSetFields s)

/-! ## FORCE (R88) -/

/-- The forced-priority record takes a new value (R66). -/
def setForced (f : Option Forced) (s : State) : State := { s with arb := { s.arb with forced := f } }

/-- The checks of FORCE in order, and its effect (R88). -/
def forceOwner (p : List Byte) (s : State) : Status × State :=
  match zoneOf p with
  | none => refuse .badValue s
  | some z =>
    if !s.present z then refuse .notPresent s
    else if u16At p 1 = 0 then accept .ok (setForced none s)
    else accept (.ofClamp (1440 < u16At p 1)) (setForced (some ⟨z, mins (min 1440 (u16At p 1))⟩) s)

/-- FORCE (R88). -/
def execForce (payload : List Byte) (s : State) : Host.Outcome State Fault Refusal :=
  .next (takeRequest 0x31 payload 3 (forceOwner payload) forceFields s)

/-! ## ARB_READ and READMIT (R89, R90) -/

/-- ARB_READ (R90, R205). -/
def execArbRead (payload : List Byte) (s : State) : Host.Outcome State Fault Refusal :=
  .next (takeRequest 0x32 payload 0 (fun s => (.ok, s)) arbReadFields s)

/-- The isolation hold of a zone ends (R85). -/
def endIsolation (z : Zone) (s : State) : State := s.mapZone z fun r => { r with isolation := none }

/-- The checks of READMIT in order, and its effect (R89). -/
def readmitOwner (p : List Byte) (s : State) : Status × State :=
  match zoneOf p with
  | none => refuse .badValue s
  | some z =>
    if !s.present z then refuse .notPresent s
    else if !s.isolated z then refuse .notNow s
    else accept .ok ((endIsolation z s).mapZone z fun r => { r with noProgress := 0 })

/-- READMIT (R89). -/
def execReadmit (payload : List Byte) (s : State) : Host.Outcome State Fault Refusal :=
  .next (takeRequest 0x33 payload 1 (readmitOwner payload) (zoneFields payload serviceModeFields) s)

/-! ## The arbiter's timers (R66, R71, R76, R81, R85) -/

/-- Min dwell is met with the next tick: a grant in COOLING has the last tick of it left (R71). -/
def State.minDwellDue (s : State) : Bool :=
  match s.arb.grant with
  | some g => g.phase = .cooling && g.minLeft = 1
  | none => false

/-- MIN_DWELL_MET (R71, R73, R68): what follows, a grant's end or a preemption, follows in the reaction. -/
def execMinDwellMet (s : State) : Host.Outcome State Fault Refusal :=
  .next (if s.minDwellDue then finish (s.mapGrant fun g => { g with minLeft := 0 }) else s)

/-- Max dwell expires with the next tick (R71). -/
def State.maxDwellDue (s : State) : Bool :=
  match s.arb.grant with
  | some g => g.phase = .cooling && dueDown g.maxLeft
  | none => false

/-- The end with MAX_DWELL of the grant there is (R76). -/
def maxDwellExpired (s : State) : State :=
  match s.arb.grant with
  | some g => maxDwellEnd g s
  | none => s

/-- MAX_DWELL_EXPIRY (R76, R84). -/
def execMaxDwellExpiry (s : State) : Host.Outcome State Fault Refusal :=
  .next (if s.maxDwellDue then finish (maxDwellExpired (s.mapGrant fun g => { g with maxLeft := 0 })) else s)

/-- The isolation hold of the zone has its last tick left. -/
def State.isolationDue (s : State) (z : Zone) : Bool :=
  match (s.zones.get z).isolation with
  | some t => dueDown t
  | none => false

/-- ISOLATION_HOLD_EXPIRY (R85). -/
def execIsolationHoldExpiry (z : Zone) (s : State) : Host.Outcome State Fault Refusal :=
  .next (if s.isolationDue z then finish (endIsolation z s) else s)

/-- The forced-priority record has its last tick left. -/
def State.forcedDue (s : State) : Bool :=
  match s.arb.forced with
  | some f => dueDown f.left
  | none => false

/-- FORCED_RECORD_EXPIRY (R66). -/
def execForcedRecordExpiry (s : State) : Host.Outcome State Fault Refusal :=
  .next (if s.forcedDue then finish (setForced none s) else s)

/-- The park timer has its last tick left, in PARK_DELAY. -/
def State.parkDue (s : State) : Bool :=
  match s.arb.parkTimer with
  | some t => s.arb.idle = some .parkDelay && dueDown t
  | none => false

/-- PARK_TIMER_EXPIRY (R81). -/
def execParkTimerExpiry (s : State) : Host.Outcome State Fault Refusal :=
  .next (if s.parkDue then finish (enterParked s) else s)

end Sys2Proof.Machine
end

