-- ==== Sys2Proof/Machine/CompCmds.lean ====
section
/-!
DEFINITION. The meanings of the compressor controller's commands (Chapter 6): COMP_SET, COMP_READ, CLEAR_LOCKOUT,
SPEED_PERIOD_EXPIRY, MIN_OFF_ELAPSED, MIN_ON_MET, RUN_WATCH_EXPIRY, FAULT_HOLD_EXPIRY, FAULT_ENTRY_AGE_OUT,
POST_RUN_EXPIRY.
-/
namespace Sys2Proof.Machine

/-! ## Requests (R133 to R135) -/

/-- The parameters as COMP_SET carries them. -/
def compGiven (p : List Byte) : CompParams := ⟨u16At p 0, u16At p 2, u16At p 4, u16At p 6, u16At p 8⟩

/-- The parameters after step 1 (R133). -/
def compClamped (p : List Byte) : CompParams :=
  ⟨down50 (clamp 1200 5000 (u16At p 0)), down50 (clamp 1200 5000 (u16At p 2)), down50 (clamp 50 1000 (u16At p 4)),
    clamp 60 600 (u16At p 6), clamp 180 900 (u16At p 8)⟩

/-- Steps 3 to 5 of COMP_SET (R133): the parameters are stored, a command in force is brought into the range, and a running
compressor's target is recomputed. Step 6 is the reaction's. -/
def compSetEffect (v : CompParams) (s : State) : State :=
  recompute
    { s with
      settings := { s.settings with comp := v }
      comp := { s.comp with command := if s.comp.command = 0 then 0 else clamp v.nMin v.nMax s.comp.command } }

/-- The checks of COMP_SET in order, and its effect (R133). -/
def compSetOwner (p : List Byte) (s : State) : Status × State :=
  if (compClamped p).nMax < (compClamped p).nMin + 200 then refuse .badValue s
  else accept (.ofClamp (compClamped p ≠ compGiven p)) (compSetEffect (compClamped p) s)

/-- COMP_SET (R133). -/
def execCompSet (payload : List Byte) (s : State) : Host.Outcome State Fault Refusal :=
  .next (takeRequest 0x20 payload 10 (compSetOwner payload) compSetFields s)

/-- COMP_READ (R134). -/
def execCompRead (payload : List Byte) (s : State) : Host.Outcome State Fault Refusal :=
  .next (takeRequest 0x21 payload 0 (fun s => (.ok, s)) compReadFields s)

/-- The lockout is cleared (R135): the list is emptied, the stop seconds stay. -/
def clearLockout (s : State) : State :=
  s.setComp { s.comp with state := s.comp.afterHold, faults := [] }

/-- CLEAR_LOCKOUT (R135). -/
def execClearLockout (payload : List Byte) (s : State) : Host.Outcome State Fault Refusal :=
  .next
    (takeRequest 0x22 payload 0
      (fun s => if s.comp.state = .lockout then accept .ok (clearLockout s) else refuse .notNow s) compStateFields s)

/-! ## Timers (R119 to R121, R127, R129, R130, R132) -/

/-- The speed period of 10 s ends with the next tick (R121). -/
def Compressor.speedDue (c : Compressor) : Bool :=
  match c.speedTimer with
  | some t => c.state = .running && dueUp (sec 10) t
  | none => false

/-- SPEED_PERIOD_EXPIRY (R121). -/
def execSpeedPeriodExpiry (s : State) : Host.Outcome State Fault Refusal :=
  .next (if s.comp.speedDue then finish (recompute s) else s)

/-- The stop seconds reach min-off with the next tick (R119). -/
def State.minOffDue (s : State) : Bool :=
  !s.minOffElapsed && dueUp (sec s.settings.comp.minOff) s.comp.stopFor

/-- MIN_OFF_ELAPSED (R119, R118): the start it allows is the reaction's. -/
def execMinOffElapsed (s : State) : Host.Outcome State Fault Refusal :=
  .next
    (if s.minOffDue then finish (s.setComp { s.comp with stopFor := sec s.settings.comp.minOff }) else s)

/-- The run seconds reach min-on with the next tick (R120). -/
def State.minOnDue (s : State) : Bool :=
  s.comp.state = .running && !s.minOnMet && dueUp (sec s.settings.comp.minOn) s.comp.runFor

/-- MIN_ON_MET (R120, R80): the stop and the end of RUNOUT are the reaction's. -/
def execMinOnMet (s : State) : Host.Outcome State Fault Refusal :=
  .next (if s.minOnDue then finish (s.setComp { s.comp with runFor := sec s.settings.comp.minOn }) else s)

/-- The run watch reaches 30 s with the next tick (R127). -/
def State.runWatchDue (s : State) : Bool :=
  match s.comp.runWatch with
  | some t => s.compAvailable && dueUp (sec 30) t
  | none => false

/-- RUN_WATCH_EXPIRY: a start failure with code 0 (R127, R128). -/
def execRunWatchExpiry (s : State) : Host.Outcome State Fault Refusal :=
  .next (if s.runWatchDue then finish (takeFault .start 0 s) else s)

/-- The fault hold timer has its last tick left (R130). -/
def Compressor.holdDue (c : Compressor) : Bool :=
  match c.hold with
  | some t => c.state = .faultHold && dueDown t
  | none => false

/-- FAULT_HOLD_EXPIRY (R130). -/
def execFaultHoldExpiry (s : State) : Host.Outcome State Fault Refusal :=
  .next
    (if s.comp.holdDue then finish (s.setComp { s.comp with state := s.comp.afterHold, hold := none }) else s)

/-- The oldest fault's age reaches 3600 s with the next tick, outside LOCKOUT (R129). -/
def Compressor.ageDue (c : Compressor) : Bool :=
  match c.faults with
  | f :: _ => c.state ≠ .lockout && dueUp (sec 3600) f.age
  | [] => false

/-- FAULT_ENTRY_AGE_OUT (R129): the oldest entry leaves. -/
def execFaultEntryAgeOut (s : State) : Host.Outcome State Fault Refusal :=
  .next (if s.comp.ageDue then finish (s.setComp { s.comp with faults := s.comp.faults.drop 1 }) else s)

/-- The post-run timer has its last tick left (R132). -/
def Compressor.postRunDue (c : Compressor) : Bool :=
  match c.postRun with
  | some t => dueDown t
  | none => false

/-- POST_RUN_EXPIRY (R132). -/
def execPostRunExpiry (s : State) : Host.Outcome State Fault Refusal :=
  .next (if s.comp.postRunDue then finish (s.setComp { s.comp with postRun := none }) else s)

end Sys2Proof.Machine
end

