-- ==== Sys2Proof/Machine/DefrostCmds.lean ====
section
/-!
DEFINITION. The meanings of the defrost controller's commands (Chapter 7): DEFROST_SET, DEFROST_START, DEFROST_ABORT,
DEFROST_READ, MINUTE_EVALUATION, MAX_HEAT_EXPIRY, TIME_BLIND_EXPIRY, DRIP_END, FAN_RELEASE_TIMEOUT.
-/
namespace Sys2Proof.Machine

/-! ## Requests (R150, R153 to R155) -/

/-- The parameters but Th as DEFROST_SET carries them. -/
def defrostGiven (p : List Byte) : DefrostParams := ⟨u16At p 2, u8At p 4, s16At p 5, u8At p 7, u8At p 8⟩

/-- The parameters but Th after step 1 (R153). -/
def defrostClamped (p : List Byte) : DefrostParams :=
  ⟨clamp 1440 10080 (u16At p 2), clamp 0 30 (u8At p 4), clampInt 30 150 (s16At p 5), clamp 10 60 (u8At p 7),
    clamp 0 15 (u8At p 8)⟩

/-- Th of DEFROST_SET after step 1 (R153). -/
def defrostTh (p : List Byte) : Nat := clamp 240 5760 (u16At p 0)

/-- Step 2 of DEFROST_SET. -/
def storeDefrost (th : Nat) (v : DefrostParams) (s : State) : State :=
  { s with settings := { s.settings with defrost := v }, defrost := { s.defrost with th := th } }

/-- The effect of DEFROST_SET (R153). -/
def defrostSetOwner (p : List Byte) (s : State) : Status × State :=
  accept (.ofClamp (defrostTh p ≠ u16At p 0 || defrostClamped p ≠ defrostGiven p))
    (storeDefrost (defrostTh p) (defrostClamped p) s)

/-- DEFROST_SET (R153). -/
def execDefrostSet (payload : List Byte) (s : State) : Host.Outcome State Fault Refusal :=
  .next (takeRequest 0x40 payload 9 (defrostSetOwner payload) defrostSetFields s)

/-- In RUN with the phase IDLE a defrost is started with cause HOST (R154); the test of R140 follows in the reaction. -/
def defrostStartOwner (s : State) : Status × State :=
  if s.mode.opState = .run && s.defrost.phase = .idle then accept .ok (startDefrost .host s) else refuse .notNow s

/-- DEFROST_START (R154). -/
def execDefrostStart (payload : List Byte) (s : State) : Host.Outcome State Fault Refusal :=
  .next (takeRequest 0x41 payload 0 defrostStartOwner defrostPhaseFields s)

/-- DEFROST_ABORT by phase (R150). -/
def defrostAbortOwner (s : State) : Status × State :=
  match s.defrost.phase with
  | .pending => accept .ok (endDefrost .abort s.defrost.th s)
  | .heat => accept .ok (endHeat .abort s)
  | _ => refuse .notNow s

/-- DEFROST_ABORT (R150). -/
def execDefrostAbort (payload : List Byte) (s : State) : Host.Outcome State Fault Refusal :=
  .next (takeRequest 0x42 payload 0 defrostAbortOwner defrostPhaseFields s)

/-- DEFROST_READ (R155). -/
def execDefrostRead (payload : List Byte) (s : State) : Host.Outcome State Fault Refusal :=
  .next (takeRequest 0x43 payload 0 (fun s => (.ok, s)) defrostReadFields s)

/-! ## The minute evaluation (R138, R139) -/

/-- The minute ends with the next tick, in IDLE (R138). -/
def Defrost.minuteDue (d : Defrost) : Bool :=
  match d.minute with
  | some m => d.phase = .idle && dueUp (mins 1) m.elapsed
  | none => false

/-- The FZ run seconds of a minute with the second that ends now (R138(a)). -/
def Minute.fzRunEnd (m : Minute) (running : Bool) : Nat := m.fzRun + (m.unbroken && running).toNat

/-- C and E after the minute (R138). -/
def creditMinute (w : Nat) (m : Minute) (running : Bool) (d : Defrost) : Defrost :=
  { d with
    credit := min 65535 (d.credit + (decide (30 ≤ m.fzRunEnd running)).toNat + (if m.door then w else 0))
    elapsed := min 65535 (d.elapsed + 1) }

/-- The cause that the trigger test finds (R139). -/
def Defrost.trigger (d : Defrost) (eMax : Nat) : Option DefrostCause :=
  if d.th ≤ d.credit then some .credit else if eMax ≤ d.elapsed then some .elapsed else none

/-- The minute evaluation (R138, R139): C and E, the triggers in RUN, and otherwise a new minute. -/
def minuteEvaluation (s : State) : State :=
  match s.defrost.minute with
  | some m =>
    let t := s.mapDefrost (creditMinute s.settings.defrost.w m s.fzRunning)
    match (if s.mode.opState = .run then t.defrost.trigger s.settings.defrost.eMax else none) with
    | some cause => startDefrost cause t
    | none => t.mapDefrost fun d => { d with minute := some s.newMinute }
  | none => s

/-- MINUTE_EVALUATION (R138, R139). -/
def execMinuteEvaluation (s : State) : Host.Outcome State Fault Refusal :=
  .next (if s.defrost.minuteDue then finish (minuteEvaluation s) else s)

/-! ## The ends of HEAT, DRIP and RECOVER (R143, R144, R146, R147) -/

/-- The limit of the heat seconds of a context (R143(b), R144). -/
def DefrostContext.heatLimit (c : DefrostContext) : Ticks :=
  if c.blind then c.blindLimit else sec (c.maxHeat * 60)

/-- The heat seconds reach their limit with the next tick, the blind mark being as given. -/
def Defrost.heatDue (d : Defrost) (blind : Bool) : Bool :=
  match d.context with
  | some c => d.phase = .heat && c.blind = blind && dueUp c.heatLimit c.heatFor
  | none => false

/-- The heat seconds are at their limit. -/
def heatReached (s : State) : State := s.mapContext fun c => { c with heatFor := max c.heatFor c.heatLimit }

/-- MAX_HEAT_EXPIRY (R143(b)). -/
def execMaxHeatExpiry (s : State) : Host.Outcome State Fault Refusal :=
  .next (if s.defrost.heatDue false then finish (endHeat .time (heatReached s)) else s)

/-- TIME_BLIND_EXPIRY (R144). -/
def execTimeBlindExpiry (s : State) : Host.Outcome State Fault Refusal :=
  .next (if s.defrost.heatDue true then finish (endHeat .timeBlind (heatReached s)) else s)

/-- The drip time of a context (R146). -/
def DefrostContext.dripLimit (c : DefrostContext) : Ticks := sec (c.drip * 60)

/-- The drip seconds reach the drip time with the next tick (R146). -/
def Defrost.dripDue (d : Defrost) : Bool :=
  match d.context with
  | some c => d.phase = .drip && dueUp c.dripLimit c.dripFor
  | none => false

/-- The drip seconds are at the drip time. -/
def dripReached (s : State) : State := s.mapContext fun c => { c with dripFor := max c.dripFor c.dripLimit }

/-- DRIP_END (R146, R147). -/
def execDripEnd (s : State) : Host.Outcome State Fault Refusal :=
  .next (if s.defrost.dripDue then finish (enterRecover (dripReached s)) else s)

/-- RECOVER has lasted 240 s with the next tick (R147(b)). -/
def Defrost.releaseDue (d : Defrost) : Bool := d.phase = .recover && dueUp (sec 240) d.phaseFor

/-- FAN_RELEASE_TIMEOUT (R147(b), R148). -/
def execFanReleaseTimeout (s : State) : Host.Outcome State Fault Refusal :=
  .next (if s.defrost.releaseDue then finish (completeDefrost s) else s)

end Sys2Proof.Machine
end

