-- ==== Sys2Proof/Machine/DoorCmds.lean ====
section
/-!
DEFINITION. The meanings of the door monitor's commands (Chapter 8): DOOR_SET, DOOR_OPENING, DOOR_CLOSING,
DOOR_FIRST_READING, AJAR_DELAY_REACHED.
-/
namespace Sys2Proof.Machine

/-- Change one door's record. -/
def State.mapDoor (s : State) (d : Door) (f : DoorRec → DoorRec) : State :=
  { s with doors := { s.doors with door := s.doors.door.set d (f (s.doors.door.get d)) } }

/-- Change the door marks of one zone. -/
def State.mapZoneDoor (s : State) (z : Zone) (f : ZoneDoor → ZoneDoor) : State :=
  { s with doors := { s.doors with zone := s.doors.zone.set z (f (s.doors.zone.get z)) } }

/-! ## DOOR_SET (R164) -/

/-- The parameters as DOOR_SET carries them. -/
def doorGiven (p : List Byte) : DoorParams := ⟨u16At p 0, u8At p 2⟩

/-- The parameters after step 1 (R164). -/
def doorClamped (p : List Byte) : DoorParams := ⟨clamp 30 600 (u16At p 0), clamp 0 50 (u8At p 2)⟩

/-- A zone already open for at least the delay becomes ajar (R161). -/
def ZoneDoor.compareAjar (delay : Nat) (z : ZoneDoor) : ZoneDoor :=
  { z with ajar := z.ajar || (z.isOpen && decide (sec delay ≤ z.openFor)) }

/-- Steps 2 and 3 of DOOR_SET. -/
def doorSetEffect (v : DoorParams) (s : State) : State :=
  { s with
    settings := { s.settings with door := v }
    doors := { s.doors with zone := s.doors.zone.map fun _ z => z.compareAjar v.ajarDelay } }

/-- The effect of DOOR_SET (R164). -/
def doorSetOwner (p : List Byte) (s : State) : Status × State :=
  accept (.ofClamp (doorClamped p ≠ doorGiven p)) (doorSetEffect (doorClamped p) s)

/-- DOOR_SET (R164). -/
def execDoorSet (payload : List Byte) (s : State) : Host.Outcome State Fault Refusal :=
  .next (takeRequest 0x15 payload 3 (doorSetOwner payload) doorSetFields s)

/-! ## Openings and closings (R158 to R162) -/

/-- The input has stood at a level for 100 ms (R158). -/
def debounceTicks : Ticks := 960

/-- A sample of the input: another level than the one last sampled restarts the count (R158). -/
def DoorRec.read (r : DoorRec) (level : Bool) : DoorRec :=
  if r.sample = level then r else { r with sample := level, stable := 0 }

/-- The input has stood at a level for 100 ms with the next tick (R158). -/
def DoorRec.settled (r : DoorRec) (level : Bool) : Bool := r.sample = level && dueUp debounceTicks r.stable

/-- The door's pin is at a level, and is sampled where the door monitor samples. -/
def State.doorPin (s : State) (d : Door) (level : Bool) : State :=
  { s with
    doors :=
      { s.doors with
        input := s.doors.input.set d level
        door :=
          if s.doors.sampling then s.doors.door.set d ((s.doors.door.get d).read level) else s.doors.door } }

/-- The first sample of an input: its level, stable for no time yet (R165). -/
def DoorRec.begin (r : DoorRec) (level : Bool) : DoorRec := { r with sample := level, stable := 0 }

/-- The sampling of the doors begins, with the levels of the pins (R165). -/
def Doors.beginSampling (d : Doors) : Doors :=
  { d with
    sampling := true
    door :=
      ⟨d.door.freshL.begin d.input.freshL, d.door.freshR.begin d.input.freshR, d.door.flex.begin d.input.flex,
        d.door.freeze.begin d.input.freeze⟩ }

/-- A door takes a state at its stable level; its open seconds start at 0 (R158). -/
def DoorRec.take (d : DoorRec) (isOpen : Bool) : DoorRec :=
  { d with
    state := if isOpen then .isOpen else .closed
    sample := isOpen
    stable := debounceTicks
    openFor := 0 }

/-- The zone door-open mark is set with an opening; its seconds start at 0 when it was clear (R159). -/
def ZoneDoor.opened (z : ZoneDoor) : ZoneDoor :=
  if z.isOpen then z else { z with isOpen := true, openFor := 0 }

/-- The mark is cleared with its seconds and the ajar flag; 30 s or more set recovery pending (R161, R162). -/
def ZoneDoor.closed (z : ZoneDoor) : ZoneDoor :=
  if z.isOpen then ⟨false, 0, false, z.recovery || decide (sec 30 ≤ z.openFor)⟩ else z

/-- The marks of the present zones a door opens follow the doors as they now stand (R159). -/
def recomputeZones (d : Door) (s : State) : State :=
  { s with
    doors :=
      { s.doors with
        zone := s.doors.zone.map fun z m =>
          if s.present z && d.zones.contains z then (if s.zoneDoorOpen z then m.opened else m.closed) else m } }

/-- An opening reaches the grant and the defrost door mark (R160, R138(b)). -/
def presentOpening (d : Door) (s : State) : State :=
  let t := s.mapGrant fun g => { g with door := g.door || g.zone.doors.contains d }
  let counts := d = .freeze || (d = .flex && s.present .flex)
  t.mapDefrost fun f => { f with minute := f.minute.map fun m => { m with door := m.door || counts } }

/-- A door command: its pin is at a level. Where the door is sampled, in the state the event leaves, and the level has stood
for 100 ms, the event takes place; otherwise no more than the debounce record has changed (R158; DESIGN CHOICE, safe:
notes/assumptions/12.md). -/
def doorEvent (d : Door) (level : Bool) (leaves : DoorState) (effect : State → State) (s : State) : State :=
  let t := s.doorPin d level
  if t.doors.sampling && (t.doors.door.get d).state = leaves && (t.doors.door.get d).settled level then
    finish (effect (t.mapDoor d fun r => r.take level))
  else t

/-- DOOR_OPENING (R158 to R160). -/
def execDoorOpening (d : Door) (s : State) : Host.Outcome State Fault Refusal :=
  .next (doorEvent d true .closed (fun t => presentOpening d (recomputeZones d t)) s)

/-- DOOR_CLOSING (R158, R159, R161, R162). -/
def execDoorClosing (d : Door) (s : State) : Host.Outcome State Fault Refusal :=
  .next (doorEvent d false .isOpen (recomputeZones d) s)

/-- DOOR_FIRST_READING (R158, R165): neither an opening nor a closing. -/
def execDoorFirstReading (d : Door) (isOpen : Bool) (s : State) : Host.Outcome State Fault Refusal :=
  .next (doorEvent d isOpen .unread (recomputeZones d) s)

/-! ## Ajar (R161) -/

/-- The zone open seconds reach the ajar delay with the next tick. -/
def State.ajarDue (s : State) (z : Zone) : Bool :=
  (s.doors.zone.get z).isOpen && !(s.doors.zone.get z).ajar &&
    dueUp (sec s.settings.door.ajarDelay) (s.doors.zone.get z).openFor

/-- The ajar flag is set with the seconds at the delay. -/
def ZoneDoor.becomeAjar (delay : Nat) (z : ZoneDoor) : ZoneDoor :=
  { z with ajar := true, openFor := max z.openFor (sec delay) }

/-- AJAR_DELAY_REACHED (R161). -/
def execAjarDelayReached (z : Zone) (s : State) : Host.Outcome State Fault Refusal :=
  .next
    (if s.ajarDue z then finish (s.mapZoneDoor z fun m => m.becomeAjar s.settings.door.ajarDelay) else s)

end Sys2Proof.Machine
end

