-- ==== Sys2Proof/Machine/Startup.lean ====
section
/-!
DEFINITION. The meanings of the start-up, restart and service commands (Chapter 11): HARD_RESET, STRAP_READ_COMPLETE,
IDENTIFY, RESTART and its taking effect, SERVICE_ENTER, SERVICE_OUTPUT, SERVICE_EXIT, SERVICE_TIMER_EXPIRY.
-/
namespace Sys2Proof.Machine

/-! ## Hard reset and the strap (R2, R3, R197) -/

/-- HARD_RESET (R197): every block takes its hard reset values; the queue and the levels on the door pins are not the part's
and stay (DESIGN CHOICE, safe: notes/assumptions/23.md). -/
def execHardReset (s : State) : Host.Outcome State Fault Refusal :=
  .next { State.reset with doors := s.doors.resetKeeping, pending := s.pending }

/-- Classification of a strap code (Table 1-2). -/
def classify (c : Code) : StrapResult :=
  let n := c.toNat
  if n ≤ 400 then .a
  else if 1800 ≤ n && n ≤ 2300 then .b
  else if 2950 ≤ n && n ≤ 3300 then .c
  else if 3600 ≤ n && n ≤ 3850 then .d
  else if 4051 ≤ n then .isOpen
  else .error

/-- The strap result of four classifications (R3). -/
def strapResult (c1 c2 c3 c4 : Code) : StrapResult :=
  let r := classify c1
  if classify c2 = r && classify c3 = r && classify c4 = r then r else .error

/-- The variant class of a result (R3). -/
def variantOf : StrapResult → Variant
  | .b => .b
  | .c => .c
  | .d => .d
  | _ => .a

/-- The strap record after a read (R3): the flag is set with OPEN and ERROR. -/
def strapOf (r : StrapResult) : Strap := ⟨none, variantOf r, r, r = .isOpen || r = .error⟩

/-- The enables of a variant after a hard reset (R8, R19): yes for present zones. -/
def enableOf (v : Variant) (q : PerZone ZoneSettings) : PerZone ZoneSettings :=
  q.map fun z r => { r with enabled := v.has z }

/-- What begins at the end of the strap read and when a RESTART takes effect (R197(c) to (e), R199): the first sweep, the
homing of INIT, the sampling of the doors. -/
def beginInit (s : State) : State :=
  beginSweep
    { s with
      doors := s.doors.beginSampling
      route := { s.route with valve := s.route.valve.beginDrive .homing .closed } }

/-- The end of the strap read (R197(a) to (f)). -/
def strapSettled (r : StrapResult) (s : State) : State :=
  let t : State :=
    { s with
      strap := strapOf r
      settings := { s.settings with zone := enableOf (variantOf r) s.settings.zone }
      bus := { s.bus with unit := unitTable (variantOf r) }
      link := { s.link with isOpen := true } }
  let t := beginInit t
  askOpening (t.mapDefrost fun d => { d with minute := some t.newMinute })

/-- The strap read takes 100 ms: four conversions, 25 ms apart (R2). -/
def strapTicks : Ticks := 960

/-- The fourth conversion of the strap read completes with the next tick (R2). -/
def Strap.readDue (r : Strap) : Bool :=
  match r.reading with
  | some t => dueUp strapTicks t
  | none => false

/-- STRAP_READ_COMPLETE (R2, R197): the codes of the four conversions, at the end of the last (notes/assumptions/4.md). -/
def execStrapReadComplete (c1 c2 c3 c4 : Code) (s : State) : Host.Outcome State Fault Refusal :=
  .next (if s.strap.readDue then finish (strapSettled (strapResult c1 c2 c3 c4) s) else s)

/-- IDENTIFY (R200). -/
def execIdentify (payload : List Byte) (s : State) : Host.Outcome State Fault Refusal :=
  .next (takeRequest 0x01 payload 0 (fun s => (.ok, s)) identifyFields s)

/-! ## RESTART (R199, Table 11-2) -/

/-- RESTART (R199): accepted with OK; it takes effect when the last byte of its reply has gone. -/
def execRestart (payload : List Byte) (s : State) : Host.Outcome State Fault Refusal :=
  .next
    (takeRequest 0x02 payload 0 (fun s => (.ok, { s with link := { s.link with restartDue := true } })) opStateFields s)

/-- The compressor controller at a RESTART (Table 6-5). -/
def Compressor.restarted (c : Compressor) : Compressor :=
  { c with
    state := if c.state = .running then .stopped else c.state
    command := 0
    target := none
    runFor := 0
    stopFor := if c.command = 0 then c.stopFor else 0
    speedTimer := none
    runWatch := none
    lastInv := none
    serviceSpeed := 0
    fanLevel := 0
    postRun := none }

/-- The event unit at a RESTART (Table 10-8): enables kept. -/
def EventSet.restarted (e : EventSet) : EventSet := { e with live := 0, latched := 0 }

/-- The link at a RESTART (Table 10-8). -/
def Link.restarted : Link := { Link.reset with isOpen := true }

/-- The bus at a RESTART (R180, R182, R199): the unit table is set up at once, a stop is asked, and an opening after it. -/
def restartBus (s : State) : State :=
  askOpening (askStop { s with bus := { s.bus with unit := unitTable s.strap.variant } })

/-- Every block takes its RESTART values at the moment the RESTART takes effect (R199). -/
def restartBlocks (s : State) : State :=
  { s with
    mode := ⟨.init, .restart, none⟩
    sensing := .reset
    doors := s.doors.resetKeeping
    zones := .all .reset
    arb := .reset
    route := .reset
    comp := s.comp.restarted
    link := .restarted
    events := ⟨s.events.device.restarted, s.events.zone.map fun _ e => e.restarted⟩
    service := .reset }

/-- The RESTART takes effect (R199): a defrost in progress is ended by R151, every block takes its values, and the
progression of R197 follows without a strap read (DEDUCED, unsafe: notes/assumptions/27.md). With the defrost phase IDLE the
minute period under way is kept, by R151 and Table 7-3, where R199 with R197(e) begins one (DESIGN CHOICE, unsafe:
notes/assumptions/27.md). -/
def restartEffect (s : State) : State :=
  let t := endDefrostAtOnce (restartBlocks s)
  restartBus (beginInit (t.mapDefrost fun d => { d with fanBlock := false, context := none }))

/-! ## Service operation (R201 to R203) -/

/-- The valve target at the entry to SERVICE (R201(c)): the target of a move under way, CLOSED during a rehome drive, else
the position at which the valve stands. -/
def Valve.serviceTarget (v : Valve) : ValvePos :=
  if v.drive.isSome then .closed
  else
    match v.move with
    | some m => m.target
    | none => v.rest.getD .closed

/-- The arbiter and the route controller at the entry to SERVICE (R201(a), R83): the grant ends with SERVICE, the idle
sub-state is INACTIVE, the park timer, the pre-chill records and a rehome still to begin are discarded. -/
def serviceArbiter (s : State) : State :=
  let t := clearPreChill (endGrant .service s)
  let t : State := { t with arb := { t.arb with idle := some .inactive, parkTimer := none, lastRoute := none } }
  t.mapValve fun v => { v with rehomeAsk := .none }

/-- The entry values of the service settings (R201(c)). -/
def serviceSettings (s : State) : Service :=
  ⟨s.route.valve.serviceTarget, s.route.dampers.flex, s.route.dampers.ice, 0, 0, 0, false⟩

/-- The entry to SERVICE (R201): the operating state and the timer, the end of grant and defrost, the entry values, and a
recomputation where a grant has ended (R121). -/
def enterService (s : State) : State :=
  let t := endDefrostAtOnce (serviceArbiter s)
  let t : State :=
    { t with
      mode := { t.mode with opState := .service, serviceTimer := some (sec 900) }
      service := serviceSettings t
      comp := { t.comp with serviceSpeed := 0 } }
  let t := setValveTarget t.service.valve t
  if s.arb.grant.isSome then recompute t else t

/-- SERVICE_ENTER (R201). -/
def execServiceEnter (payload : List Byte) (s : State) : Host.Outcome State Fault Refusal :=
  .next
    (takeRequest 0x70 payload 0
      (fun s => if s.mode.opState = .run then accept .ok (enterService s) else refuse .notNow s) opStateFields s)

/-- The service speed as stored (R202 step 2): 0 is kept; another is clamped and rounded down. -/
def serviceSpeedOf (c : CompParams) (n : Nat) : Nat := if n = 0 then 0 else down50 (clamp c.nMin c.nMax n)

/-- A valve target by its code (Table 12-7). -/
def valvePosOf : Nat → ValvePos
  | 0 => .closed
  | 1 => .fr
  | _ => .fz

/-- The values of SERVICE_OUTPUT after step 2 (R202). -/
def serviceOf (p : List Byte) : Service :=
  ⟨valvePosOf (u8At p 0), min 100 (u8At p 1), min 100 (u8At p 2), min 100 (u8At p 3), min 100 (u8At p 4),
    min 100 (u8At p 5), u8At p 6 = 1⟩

/-- Step 2 changed a value (R202). -/
def serviceClamped (c : CompParams) (p : List Byte) : Bool :=
  100 < u8At p 1 || 100 < u8At p 2 || 100 < u8At p 3 || 100 < u8At p 4 || 100 < u8At p 5 ||
    serviceSpeedOf c (u16At p 7) ≠ u16At p 7

/-- The stored values reach their blocks (R202 steps 3 and 4). -/
def applyService (v : Service) (speed : Nat) (s : State) : State :=
  let t : State :=
    { s with
      mode := { s.mode with serviceTimer := some (sec 900) }
      service := v
      comp := { s.comp with serviceSpeed := speed } }
  recompute (changeDampers v.damperFlex v.damperIce (setValveTarget v.valve t))

/-- The checks and the effect of SERVICE_OUTPUT (R202). -/
def serviceOutputOwner (p : List Byte) (s : State) : Status × State :=
  if s.mode.opState ≠ .service then refuse .notNow s
  else if 2 < u8At p 0 || 1 < u8At p 6 then refuse .badValue s
  else
    accept (.ofClamp (serviceClamped s.settings.comp p))
      (applyService (serviceOf p) (serviceSpeedOf s.settings.comp (u16At p 7)) s)

/-- SERVICE_OUTPUT (R202). -/
def execServiceOutput (payload : List Byte) (s : State) : Host.Outcome State Fault Refusal :=
  .next (takeRequest 0x71 payload 9 (serviceOutputOwner payload) serviceOutputFields s)

/-- The compressor at the exit from SERVICE (R203 step 1): the command goes to 0 whatever min-on says. -/
def serviceStop (s : State) : State :=
  let t := if s.comp.state = .running then stopComp s else s
  t.setComp { t.comp with serviceSpeed := 0 }

/-- The valve at the exit from SERVICE (R203 step 3, R99): a rehome that ends at CLOSED is asked; a drive under way is that
rehome. -/
def Valve.serviceExit (v : Valve) : Valve :=
  if v.rehoming then { v with target := some .closed, rehomeFinal := .closed }
  else { v with target := some .closed, rehomeAsk := .toClosed }

/-- SERVICE is left (R203). -/
def leaveService (s : State) : State :=
  let t := serviceStop s
  let t : State :=
    { t with
      mode := { t.mode with opState := .run, serviceTimer := none }
      service := .reset
      arb := { t.arb with idle := some .rehome } }
  normalise (kickValve (changeDampers 0 0 (t.mapValve Valve.serviceExit)))

/-- SERVICE_EXIT (R203). -/
def execServiceExit (payload : List Byte) (s : State) : Host.Outcome State Fault Refusal :=
  .next
    (takeRequest 0x72 payload 0
      (fun s => if s.mode.opState = .service then accept .ok (leaveService s) else refuse .notNow s) opStateFields s)

/-- The service timer has its last tick left, in SERVICE. -/
def State.serviceTimerDue (s : State) : Bool :=
  match s.mode.serviceTimer with
  | some t => s.mode.opState = .service && dueDown t
  | none => false

/-- SERVICE_TIMER_EXPIRY (R203). -/
def execServiceTimerExpiry (s : State) : Host.Outcome State Fault Refusal :=
  .next (if s.serviceTimerDue then finish (leaveService s) else s)

end Sys2Proof.Machine
end

