-- ==== Sys2Proof/Machine/LinkCmds.lean ====
section
/-!
DEFINITION. The meanings of the host link's and the event unit's commands (Chapter 10): HOST_CHARACTER_RECEIVED,
HOST_FRAME_RECEIVED, GAP_TIMEOUT, UNKNOWN_REQUEST, REPLY_END, NOTICE_START, NOTICE_END, EVENT_MASK, EVENT_READ.
-/
namespace Sys2Proof.Machine

/-! ## The receiver (Table 10-2, R184 to R186) -/

/-- A partial frame is dropped: the buffer is emptied and the receiver is in HUNT. -/
def Link.drop (l : Link) : Link := { l with receiver := .hunt, len := 0, buffer := [], gap := 0 }

/-- A character without error in HUNT (R184). -/
def Link.inHunt (l : Link) (b : Byte) : Link :=
  if b = 0xC3 then { l with receiver := .length, len := 0, buffer := [], gap := 0 } else l

/-- A character without error in LENGTH (R184). -/
def Link.inLength (l : Link) (b : Byte) : Link :=
  if 1 ≤ b.toNat && b.toNat ≤ 61 then { l with receiver := .body, len := b.toNat, gap := 0 } else l.drop

/-- A character without error in BODY (R185). -/
def Link.inBody (l : Link) (b : Byte) : Link :=
  { l with
    receiver := if l.len ≤ l.buffer.length + 1 then .check else .body
    buffer := l.buffer ++ [b]
    gap := 0 }

/-- A character without error in CHECK (R185): a good frame begins handling and stays in the buffer until it is taken (DEDUCED,
safe: notes/assumptions/28.md); a bad one is dropped silently. -/
def Link.inCheck (l : Link) (b : Byte) : Link :=
  if byteSum (BitVec.ofNat 8 l.len :: (l.buffer ++ [b])) = 0 then
    { l with receiver := .hunt, gap := 0, handling := true }
  else l.drop

/-- One character on the receive line (R184 to R187): a closed link takes none, and during handling every one is
discarded. -/
def Link.receive (l : Link) (c : RxChar) : Link :=
  if !l.isOpen || l.handling then l
  else if !c.stopHigh then (if l.receiver = .hunt then l else l.drop)
  else
    match l.receiver with
    | .hunt => l.inHunt c.byte
    | .length => l.inLength c.byte
    | .body => l.inBody c.byte
    | .check => l.inCheck c.byte

/-- Change the link's record. -/
def State.mapLink (s : State) (f : Link → Link) : State := { s with link := f s.link }

/-- HOST_CHARACTER_RECEIVED (R184 to R186). -/
def execHostCharacterReceived (c : RxChar) (s : State) : Host.Outcome State Fault Refusal :=
  .next (s.mapLink fun l => l.receive c)

/-- HOST_FRAME_RECEIVED (R184 to R186): the characters one after another. -/
def execHostFrameReceived (chars : List RxChar) (s : State) : Host.Outcome State Fault Refusal :=
  .next (s.mapLink fun l => chars.foldl Link.receive l)

/-- 4 character times of 10 bits at 38400 bit/s, in ticks (R186). -/
def gapLimit : Ticks := 10

/-- A partial frame has waited 4 character times (R186). -/
def Link.gapDue (l : Link) : Bool := l.receiver ≠ .hunt && dueUp gapLimit l.gap

/-- GAP_TIMEOUT (R186). -/
def execGapTimeout (s : State) : Host.Outcome State Fault Refusal :=
  .next (if s.link.gapDue then s.mapLink Link.drop else s)

/-! ## Unknown requests (R188) -/

/-- The TYPEs of Table 10-5. -/
def requestTypes : List Byte :=
  [0x01, 0x02, 0x10, 0x11, 0x12, 0x13, 0x14, 0x15, 0x20, 0x21, 0x22, 0x30, 0x31, 0x32, 0x33, 0x40, 0x41, 0x42, 0x43,
    0x50, 0x51, 0x60, 0x70, 0x71, 0x72]

/-- UNKNOWN_REQUEST (R188): the taking of a request whose TYPE names none. -/
def execUnknownRequest (type : Byte) (payload : List Byte) (s : State) : Host.Outcome State Fault Refusal :=
  .next
    (if s.taking type payload && !requestTypes.contains type then
      s.mapLink fun l => l.ready (replyFrame type .unknown [])
    else s)

/-! ## Replies and NOTICE (R187, R193, R194) -/

/-- The transmitter has sent its frame. -/
def Link.sent (l : Link) : Link := { l with transmitter := .idle, sending := [], sendLeft := 0 }

/-- The end of the last byte of a reply: handling ends (R187). -/
def Link.replied (l : Link) : Link := { l.sent with handling := false, reply := none, restartDue := false }

/-- The last byte of the frame on the wire goes with the next tick, or has gone (R187, R193). -/
def Link.sendDue (l : Link) : Bool := l.sendLeft ≤ 2

/-- REPLY_END (R187, R199): a RESTART takes effect at the end of its reply. -/
def execReplyEnd (s : State) : Host.Outcome State Fault Refusal :=
  .next
    (if s.link.transmitter = .sendingReply && s.link.sendDue then
      let t := s.mapLink Link.replied
      if s.link.restartDue then finish (restartEffect t) else t
    else s)

/-- A pending NOTICE is considered: the transmitter is IDLE, nothing is being handled, and the link is open (R193). -/
def Link.noticeDue (l : Link) : Bool := l.noticePending && l.transmitter = .idle && !l.handling && l.isOpen

/-- The NOTICE frame with a count (Table 10-1, 12.5, R193). -/
def noticeFrame (count : Nat) : List Byte := hostFrame 0x7F [BitVec.ofNat 8 count]

/-- The NOTICE begins, or is found to have nothing to announce (R193). -/
def Link.startNotice (count : Nat) (l : Link) : Link :=
  if count = 0 then { l with noticePending := false }
  else
    { l with
      noticePending := false
      transmitter := .sendingNotice
      sending := noticeFrame count
      sendLeft := sendTime (noticeFrame count) }

/-- NOTICE_START (R193). -/
def execNoticeStart (s : State) : Host.Outcome State Fault Refusal :=
  .next (if s.link.noticeDue then s.mapLink (Link.startNotice s.events.latchedSets) else s)

/-- The last byte of the NOTICE has gone (R193); a reply that is ready follows at once (R194). -/
def Link.noticed (l : Link) : Link :=
  match l.reply with
  | some frame => { l with transmitter := .sendingReply, sending := frame, sendLeft := sendTime frame }
  | none => l.sent

/-- NOTICE_END (R193, R194). -/
def execNoticeEnd (s : State) : Host.Outcome State Fault Refusal :=
  .next (if s.link.transmitter = .sendingNotice && s.link.sendDue then s.mapLink Link.noticed else s)

/-! ## EVENT_MASK and EVENT_READ (R191, R192) -/

/-- Change one set of the event unit by its number, 0 to 4 (3.3(a)). -/
def Events.mapSet (e : Events) (n : Nat) (f : EventSet → EventSet) : Events :=
  match Zone.ofNumber n with
  | some z => { e with zone := e.zone.set z (f (e.zone.get z)) }
  | none => { e with device := f e.device }

/-- The enables after an operation 0 WRITE, 1 SET or 2 CLEAR (R191 step 3). -/
def EventSet.mask (op : Nat) (rise fall : Byte) (e : EventSet) : EventSet :=
  match op with
  | 0 => { e with rise := rise, fall := fall }
  | 1 => { e with rise := e.rise ||| rise, fall := e.fall ||| fall }
  | _ => { e with rise := e.rise &&& ~~~rise, fall := e.fall &&& ~~~fall }

/-- The checks of EVENT_MASK in order, and its effect (R191). -/
def eventMaskOwner (p : List Byte) (s : State) : Status × State :=
  if 4 < u8At p 0 then refuse .badValue s
  else if 2 < u8At p 1 then refuse .badValue s
  else
    (.ok, { s with events := s.events.mapSet (u8At p 0) (EventSet.mask (u8At p 1) (p.getD 2 0) (p.getD 3 0)) })

/-- EVENT_MASK (R191). -/
def execEventMask (payload : List Byte) (s : State) : Host.Outcome State Fault Refusal :=
  .next (takeRequest 0x50 payload 4 (eventMaskOwner payload) (eventMaskFields (u8At payload 0)) s)

/-- The latched bits are cleared (R192). -/
def Events.clearLatched (e : Events) : Events where
  device := { e.device with latched := 0 }
  zone := e.zone.map fun _ z => { z with latched := 0 }

/-- EVENT_READ (R192): the snapshot is taken before the latched bits it reports are cleared. -/
def execEventRead (payload : List Byte) (s : State) : Host.Outcome State Fault Refusal :=
  .next
    (takeRequest 0x51 payload 0 (fun s => (.ok, { s with events := s.events.clearLatched }))
      (fun _ => eventReadFields s.events) s)

end Sys2Proof.Machine
end

