-- ==== Sys2Proof/Machine/Sensing.lean ====
section
/-!
DEFINITION. The meanings of the sensing block's commands (Chapter 2): SENSING_SWEEP_START, SENSOR_READING_ARRIVAL.
-/
namespace Sys2Proof.Machine

/-- Sweeps are 2 s apart (R21). -/
def sweepTicks : Ticks := sec 2

/-- The next sweep is due: 2 s have passed since the last one began (R21). -/
def State.sweepDue (s : State) : Bool :=
  match s.sensing.sweepTimer with
  | some t => dueUp sweepTicks t
  | none => false

/-- SENSING_SWEEP_START (R21). -/
def execSensingSweepStart (s : State) : Host.Outcome State Fault Refusal :=
  .next (if s.sweepDue then finish (beginSweep s) else s)

/-- A delivery reaches the channel's consumers (R34 to R36). -/
def deliver (ch : Channel) (d : Delivery) (s : State) : State :=
  match d with
  | .nothing => s
  | .value f => deliverValue ch f s
  | .fault => deliverFault ch s
  | .recovery f => deliverRecovery ch f s

/-- An arrival at a channel (R22 to R32): its record takes the reading, the sweep goes on to the next channel, and the
result is delivered. -/
def arrival (ch : Channel) (code : Code) (s : State) : State :=
  let r := (s.sensing.get ch).take (reading code)
  deliver ch r.2
    { s with sensing := { s.sensing.set ch r.1 with next := s.sweepAfter ch } }

/-- SENSOR_READING_ARRIVAL (R21, R22): the arrival of the channel the sweep converts. -/
def execSensorReadingArrival (ch : Channel) (code : Code) (s : State) : Host.Outcome State Fault Refusal :=
  .next (if s.sensing.next = some ch then finish (arrival ch code s) else s)

end Sys2Proof.Machine
end

