-- ==== Sys2Proof/Machine/Routes.lean ====
section
/-!
DEFINITION. The meanings of the route controller's commands (Chapter 5): VALVE_MOVE_END, HOMING_DRIVE_END, ROUTE_TIMEOUT,
PRE_CHILL_TIMEOUT, TACH_PULSE, FAN_STALL, FAN_REST_END.
-/
namespace Sys2Proof.Machine

/-! ## The valve (R95, R96, R98, R99) -/

/-- One step, 25 ms (R95). -/
def stepTicks : Ticks := 240

/-- The 184-step drive, 4.6 s (R98). -/
def driveTicks : Ticks := 184 * stepTicks

/-- Steps from the counter to a target. -/
def stepsLeft (counter target : Nat) : Nat := (counter - target) + (target - counter)

/-- The step in flight ends with the next tick. -/
def Move.stepDue (m : Move) : Bool := dueUp stepTicks m.step

/-- The last step of a move ends with the next tick (R95). -/
def Valve.moveDue (v : Valve) : Bool :=
  match v.move with
  | some m => stepsLeft v.counter m.target.counter ≤ 1 && m.stepDue
  | none => false

/-- A move ends at its target (R95, R96): the rest position, the outlet-move count, and the end of HOMING at CLOSED
(R98). -/
def Valve.endMove (v : Valve) : Valve :=
  match v.move with
  | some m =>
    { v with
      counter := m.target.counter
      move := none
      rest := some m.target
      outletMoves :=
        match v.rest with
        | some r => if r = m.target then v.outletMoves else min 65535 (v.outletMoves + 1)
        | none => v.outletMoves
      homing := if v.homing = .homing && m.target = .closed then .none else v.homing }
  | none => v

/-- VALVE_MOVE_END (R95, R96). The test of R82 on the count is part of the reaction. -/
def execValveMoveEnd (s : State) : Host.Outcome State Fault Refusal :=
  .next (if s.route.valve.moveDue then finish (s.mapValve Valve.endMove) else s)

/-- The drive ends with the next tick (R98). -/
def Valve.driveDue (v : Valve) : Bool :=
  match v.drive with
  | some t => dueUp driveTicks t
  | none => false

/-- The drive ends against the stop (R98, R99): counter 0, homed, no rest position, count 0. REHOME ends here; HOMING goes
on to the end of the move to CLOSED. -/
def Valve.endDrive (v : Valve) : Valve :=
  { v with
    homed := true
    counter := 0
    rest := none
    outletMoves := 0
    drive := none
    homing := if v.homing = .homing then .homing else .none }

/-- Where the valve goes after the drive (R98, R99, R103, R82): CLOSED in INIT; in RUN the route of a grant, which is
applied now, or the rehome's final position; in SERVICE the target SERVICE_OUTPUT holds. REHOME returns to PARKED. -/
def afterDrive (s : State) : State :=
  match s.mode.opState with
  | .init => setValveTarget .closed s
  | .service => s
  | .run =>
    match s.arb.grant with
    | some g => applyRoute g.zone s
    | none =>
      let t := setValveTarget s.route.valve.rehomeFinal s
      if s.arb.idle = some .rehome then { t with arb := { t.arb with idle := some .parked } } else t

/-- HOMING_DRIVE_END (R98, R99). -/
def execHomingDriveEnd (s : State) : Host.Outcome State Fault Refusal :=
  .next (if s.route.valve.driveDue then finish (afterDrive (s.mapValve Valve.endDrive)) else s)

/-! ## Route and pre-chill (R104, R108) -/

/-- The route timer reaches 20 s with the next tick, the route not in place (R104). -/
def State.routeTimeoutDue (s : State) : Bool :=
  match s.route.app with
  | some a => !a.inPlace && dueUp (sec 20) a.timer
  | none => false

/-- The grant ends with ROUTE_FAULT (R74, R104, R105). -/
def routeFault (s : State) : State :=
  if s.arb.grant.isSome then afterEnd (endGrant .routeFault s) else s

/-- ROUTE_TIMEOUT (R104). -/
def execRouteTimeout (s : State) : Host.Outcome State Fault Refusal :=
  .next (if s.routeTimeoutDue then finish (routeFault s) else s)

/-- The grant in COOLING uses this evaporator fan, so its pre-chill record counts (R108). -/
def State.preChillCounts (s : State) (f : EvapFan) : Bool :=
  match s.arb.grant with
  | some g => g.phase = .cooling && g.zone.fan = f
  | none => false

/-- The pre-chill record reaches 90 s with the next tick (R108(b)). -/
def State.preChillDue (s : State) (f : EvapFan) : Bool :=
  match s.route.preChill f with
  | .running t => s.preChillCounts f && dueUp (sec 90) t
  | _ => false

/-- PRE_CHILL_TIMEOUT (R108(b)). -/
def execPreChillTimeout (f : EvapFan) (s : State) : Host.Outcome State Fault Refusal :=
  .next (if s.preChillDue f then finish { s with route := s.route.setPreChill f .ended } else s)

/-! ## Fans (R110 to R112) -/

/-- A tach pulse at a fan (R110, R112); during the rest it is not counted (R111). -/
def FanRec.pulse (f : FanRec) : FanRec :=
  if f.rest.isSome then f else { f with watch := 0, stalled := f.stalled && f.output = 0 }

/-- TACH_PULSE (R110, R112). -/
def execTachPulse (f : Fan) (s : State) : Host.Outcome State Fault Refusal :=
  .next (finish (s.mapFan f FanRec.pulse))

/-- The stall watch reaches 10 s with the next tick (R110). -/
def FanRec.stallDue (f : FanRec) : Bool := f.rest.isNone && 20 ≤ f.output && dueUp (sec 10) f.watch

/-- A stall, or a failed retry: the flag, and a rest of 50 s with the output at 0 (R110, R111). -/
def FanRec.stall (f : FanRec) : FanRec := { f with stalled := true, rest := some 0, output := 0, watch := 0 }

/-- FAN_STALL (R110, R111). -/
def execFanStall (f : Fan) (s : State) : Host.Outcome State Fault Refusal :=
  .next (if (s.route.fans.get f).stallDue then finish (s.mapFan f FanRec.stall) else s)

/-- The rest reaches 50 s with the next tick (R111). -/
def FanRec.restDue (f : FanRec) : Bool :=
  match f.rest with
  | some t => dueUp (sec 50) t
  | none => false

/-- The rest ends: the output becomes the commanded drive and the watch starts again from 0 (R111). -/
def FanRec.endRest (f : FanRec) : FanRec := { f with rest := none, output := f.commanded, watch := 0 }

/-- FAN_REST_END (R111). -/
def execFanRestEnd (f : Fan) (s : State) : Host.Outcome State Fault Refusal :=
  .next (if (s.route.fans.get f).restDue then finish (s.mapFan f FanRec.endRest) else s)

end Sys2Proof.Machine
end

