-- ==== Sys2Proof/Machine/UnitBus.lean ====
section
/-!
DEFINITION. The meanings of the unit bus controller's commands (Chapter 9): UNIT_READ, SLOT_BOUNDARY,
SET_EXCHANGE_SUCCESS, STATUS_EXCHANGE_SUCCESS, EXCHANGE_FAILURE, RESPONSE_LIMIT_EXPIRY, FAULT_CHECK_EXPIRY.
-/
namespace Sys2Proof.Machine

/-- UNIT_READ (R181). -/
def execUnitRead (payload : List Byte) (s : State) : Host.Outcome State Fault Refusal :=
  .next (takeRequest 0x60 payload 0 (fun s => (.ok, s)) unitReadFields s)

/-! ## Slots (R172, R179, R180) -/

/-- The slot's 40 ms end with the next tick (R172, R179). -/
def Bus.boundaryDue (b : Bus) : Bool := b.mode ≠ .stopped && dueUp slotTicks b.slotFor

/-- In FAULT the slot reached is skipped, and counted where its unit is not ABSENT (R179). -/
def skipSlot (p : Slot) (s : State) : State :=
  failUnit p.unit .line { s with bus := { s.bus with position := some p, slotFor := 0, exchange := none } }

/-- The next position of the schedule; a bus without a position begins at slot 1. -/
def Bus.nextSlot (b : Bus) : Slot :=
  match b.position with
  | some p => p.next
  | none => .s1

/-- A slot boundary: the deferred stop with the opening after it (R180, R178), the next slot (R172), or the next skip
(R179). -/
def slotBoundary (s : State) : State :=
  match s.bus.deferred with
  | .stopThenOpen => askOpening (stopBus s)
  | .stop => stopBus s
  | .none =>
    match s.bus.mode with
    | .active => beginSlot s.bus.nextSlot s
    | .fault => skipSlot s.bus.nextSlot s
    | .stopped => s

/-- SLOT_BOUNDARY (R172, R179, R180). -/
def execSlotBoundary (s : State) : Host.Outcome State Fault Refusal :=
  .next (if s.bus.boundaryDue then finish (slotBoundary s) else s)

/-! ## The end of a SET exchange (R169, R101) -/

/-- The mark that a DAMPER_SET carrying the present targets has succeeded (R101, R169). -/
def setSucceeds (e : Exchange) (s : State) : State :=
  if e.slot = .s3 && e.data = s.setData .s3 && s.bus.deferred = .none then
    { s with route := { s.route with dampers := { s.route.dampers with setMark := true } } }
  else s

/-- SET_EXCHANGE_SUCCESS (R169), with the check byte's stop bit: every bit the part drove has read back as sent. Nothing is
counted, and a SPEED_SET's success is handed to no block. -/
def execSetExchangeSuccess (s : State) : Host.Outcome State Fault Refusal :=
  .next
    (match s.bus.exchange with
    | some e => if (e.advance s.bus.slotFor).outcome = some .sent then endExchange (setSucceeds e s) else s
    | none => s)

/-! ## The end of a STATUS exchange (R170, R171, R176) -/

/-- The inverter state of a good INV_STATUS (Table 12-8). -/
def invStateOf (b : Byte) : InvState :=
  match b.toNat with
  | 0 => .stopped
  | 1 => .starting
  | 2 => .running
  | _ => .fault

/-- The INV_STATUS of its data bytes (Table 12-8). -/
def invStatusOf (data : List Byte) : InvStatus :=
  ⟨invStateOf (data.getD 0 0), data.getD 1 0, data.getD 2 0, data.getD 3 0, data.getD 4 0⟩

/-- The FLEX and ICE bits of a flag byte of DAMPER_STATUS (R206). -/
def flagFlex (data : List Byte) (i : Nat) : Bool := (data.getD i 0).getLsbD 0
def flagIce (data : List Byte) (i : Nat) : Bool := (data.getD i 0).getLsbD 1

/-- A reported position within 5 of its target (R102). -/
def near (position target : Nat) : Bool := position ≤ target + 5 && target ≤ position + 5

/-- A damper stall of R105: in ROUTING with the DAMPER_SET mark set and no route in place, a stall flag of a damper whose
target the application changed. -/
def State.damperStall (s : State) (data : List Byte) : Bool :=
  match s.arb.grant, s.route.app with
  | some g, some a =>
    g.phase = .routing && s.route.dampers.setMark && !a.inPlace &&
      ((a.changedFlex && flagFlex data 3) || (a.changedIce && flagIce data 3))
  | _, _ => false

/-- The confirmation flag, decided while the mark is set (R102). -/
def Dampers.confirm (d : Dampers) (data : List Byte) : Dampers :=
  if d.setMark then
    { d with
      confirmed :=
        near (u8At data 0) d.flex && near (u8At data 1) d.ice && !flagFlex data 2 && !flagIce data 2 }
  else d

/-- A good DAMPER_STATUS: the examination of stalls, then the confirmation flag (R105, R102). -/
def applyDamperStatus (data : List Byte) (s : State) : State :=
  let t := if s.damperStall data then routeFault s else s
  { t with route := { t.route with dampers := t.route.dampers.confirm data } }

/-- A good ICE_STATUS: the hold cause HARVEST of a present ICE zone follows bit 0 (R9(b), R163). -/
def applyIceStatus (data : List Byte) (s : State) : State :=
  s.mapZone .ice fun r => { r with holdHarvest := (data.getD 0 0).getLsbD 0 && s.present .ice }

/-- The payload reaches its consumer (R176 step 3). -/
def applyStatus (u : BusUnit) (data : List Byte) (s : State) : State :=
  match u with
  | .inverter => applyInvStatus (invStatusOf data) s
  | .damper => applyDamperStatus data s
  | .ice => applyIceStatus data s

/-- A successful STATUS exchange (R176): the unit table, with the return from LOST presented to its dependants before the
payload is handed on (DEDUCED, unsafe: notes/assumptions/16.md). -/
def statusSucceeds (u : BusUnit) (data : List Byte) (s : State) : State :=
  let t := s.mapUnit u fun r => r.succeed data
  applyStatus u data (if (s.bus.unit.get u).state = .lost then react t else t)

/-- The end of a good response (R170, R176). With a stop deferred the outcome is discarded (R180). -/
def responseEnds (e : Exchange) (data : List Byte) (s : State) : State :=
  if s.bus.deferred ≠ .none then endExchange s else statusSucceeds e.slot.unit data (endExchange s)

/-- A command brings the levels on the line in the slot's bit times up to now (DESIGN CHOICE, safe:
notes/assumptions/13.md and 24.md): the exchange ends in the way `ends` gives, or no more than the levels heard has
changed. -/
def levels (heard : List Bool) (ends : Exchange → ExchangeEnd → State → Option State) (s : State) : State :=
  match s.bus.exchange with
  | some e =>
    if s.bus.upToNow heard then
      let e := { e with heard := heard }
      (e.outcome.bind fun x => ends e x s).getD (hear e s)
    else s
  | none => s

/-- STATUS_EXCHANGE_SUCCESS (R170, R171, R176): with these levels the response is complete and good. -/
def execStatusExchangeSuccess (heard : List Bool) (s : State) : Host.Outcome State Fault Refusal :=
  .next
    (levels heard
      (fun e x s =>
        match x with
        | .response data => some (finish (responseEnds e data s))
        | _ => none)
      s)

/-! ## Failures (R173, R174, R179) -/

/-- The error kinds of EXCHANGE_FAILURE; the other two come with the response limit (Table 9-5). -/
def ErrorKind.beforeLimit : ErrorKind → Bool
  | .line => true
  | .echo => true
  | .framing => true
  | .check => true
  | _ => false

/-- EXCHANGE_FAILURE (R173, R174): in these levels an error of Table 9-5 before the response limit is detected. -/
def execExchangeFailure (heard : List Bool) (s : State) : Host.Outcome State Fault Refusal :=
  .next
    (levels heard
      (fun e x s =>
        match x with
        | .failed k => if k.beforeLimit then some (finish (failExchange e k s)) else none
        | _ => none)
      s)

/-- RESPONSE_LIMIT_EXPIRY (R170, R173, R174): with these levels the limit has come and the response is incomplete. -/
def execResponseLimitExpiry (heard : List Bool) (s : State) : Host.Outcome State Fault Refusal :=
  .next
    (levels heard
      (fun e x s =>
        match x with
        | .failed k => if k.beforeLimit then none else some (finish (failExchange e k s))
        | _ => none)
      s)

/-- The FAULT check timer reaches 1 s with the next tick (R179). -/
def Bus.checkDue (b : Bus) : Bool :=
  match b.checkTimer with
  | some t => b.mode = .fault && dueUp (sec 1) t
  | none => false

/-- The FAULT check examines the line (R179): ACTIVE with slot 1 where it has been high, else the timer anew. -/
def faultCheck (s : State) : State :=
  if s.bus.lineHigh then enterActive s else { s with bus := { s.bus with checkTimer := some 0 } }

/-- FAULT_CHECK_EXPIRY (R179): the levels of the line in the last 10 bit times. In FAULT they are heard, and with the timer at
1 s the check is made on them (DESIGN CHOICE, safe: notes/assumptions/35.md). -/
def execFaultCheckExpiry (line : List Bool) (s : State) : Host.Outcome State Fault Refusal :=
  .next
    (if s.bus.mode = .fault && line.length = lineBits then
      let t : State := { s with bus := { s.bus with line := line } }
      if s.bus.checkDue then finish (faultCheck t) else t
    else s)

end Sys2Proof.Machine
end

