-- ==== Sys2Proof/Machine/Dispatch.lean ====
section
/-!
DEFINITION. The meaning of every command.
-/
namespace Sys2Proof.Machine

def exec (i : Instr) (s : State) : Host.Outcome State Fault Refusal :=
  match i with
  | .hardReset => Sys2Proof.Machine.execHardReset s
  | .strapReadComplete c1 c2 c3 c4 => Sys2Proof.Machine.execStrapReadComplete c1 c2 c3 c4 s
  | .hostFrameReceived chars => Sys2Proof.Machine.execHostFrameReceived chars s
  | .gapTimeout => Sys2Proof.Machine.execGapTimeout s
  | .unknownRequest ty payload => Sys2Proof.Machine.execUnknownRequest ty payload s
  | .identify payload => Sys2Proof.Machine.execIdentify payload s
  | .restart payload => Sys2Proof.Machine.execRestart payload s
  | .zoneSet payload => Sys2Proof.Machine.execZoneSet payload s
  | .zoneTiming payload => Sys2Proof.Machine.execZoneTiming payload s
  | .zoneEnable payload => Sys2Proof.Machine.execZoneEnable payload s
  | .flexMode payload => Sys2Proof.Machine.execFlexMode payload s
  | .zoneRead payload => Sys2Proof.Machine.execZoneRead payload s
  | .doorSet payload => Sys2Proof.Machine.execDoorSet payload s
  | .compSet payload => Sys2Proof.Machine.execCompSet payload s
  | .compRead payload => Sys2Proof.Machine.execCompRead payload s
  | .clearLockout payload => Sys2Proof.Machine.execClearLockout payload s
  | .arbSet payload => Sys2Proof.Machine.execArbSet payload s
  | .force payload => Sys2Proof.Machine.execForce payload s
  | .arbRead payload => Sys2Proof.Machine.execArbRead payload s
  | .readmit payload => Sys2Proof.Machine.execReadmit payload s
  | .defrostSet payload => Sys2Proof.Machine.execDefrostSet payload s
  | .defrostStart payload => Sys2Proof.Machine.execDefrostStart payload s
  | .defrostAbort payload => Sys2Proof.Machine.execDefrostAbort payload s
  | .defrostRead payload => Sys2Proof.Machine.execDefrostRead payload s
  | .eventMask payload => Sys2Proof.Machine.execEventMask payload s
  | .eventRead payload => Sys2Proof.Machine.execEventRead payload s
  | .unitRead payload => Sys2Proof.Machine.execUnitRead payload s
  | .serviceEnter payload => Sys2Proof.Machine.execServiceEnter payload s
  | .serviceOutput payload => Sys2Proof.Machine.execServiceOutput payload s
  | .serviceExit payload => Sys2Proof.Machine.execServiceExit payload s
  | .replyEnd => Sys2Proof.Machine.execReplyEnd s
  | .noticeStart => Sys2Proof.Machine.execNoticeStart s
  | .noticeEnd => Sys2Proof.Machine.execNoticeEnd s
  | .sensingSweepStart => Sys2Proof.Machine.execSensingSweepStart s
  | .sensorReadingArrival ch code => Sys2Proof.Machine.execSensorReadingArrival ch code s
  | .blindPhaseExpiry z => Sys2Proof.Machine.execBlindPhaseExpiry z s
  | .warmTimerExpiry z => Sys2Proof.Machine.execWarmTimerExpiry z s
  | .minDwellMet => Sys2Proof.Machine.execMinDwellMet s
  | .maxDwellExpiry => Sys2Proof.Machine.execMaxDwellExpiry s
  | .isolationHoldExpiry z => Sys2Proof.Machine.execIsolationHoldExpiry z s
  | .forcedRecordExpiry => Sys2Proof.Machine.execForcedRecordExpiry s
  | .parkTimerExpiry => Sys2Proof.Machine.execParkTimerExpiry s
  | .valveMoveEnd => Sys2Proof.Machine.execValveMoveEnd s
  | .homingDriveEnd => Sys2Proof.Machine.execHomingDriveEnd s
  | .routeTimeout => Sys2Proof.Machine.execRouteTimeout s
  | .preChillTimeout f => Sys2Proof.Machine.execPreChillTimeout f s
  | .tachPulse f => Sys2Proof.Machine.execTachPulse f s
  | .fanStall f => Sys2Proof.Machine.execFanStall f s
  | .fanRestEnd f => Sys2Proof.Machine.execFanRestEnd f s
  | .speedPeriodExpiry => Sys2Proof.Machine.execSpeedPeriodExpiry s
  | .minOffElapsed => Sys2Proof.Machine.execMinOffElapsed s
  | .minOnMet => Sys2Proof.Machine.execMinOnMet s
  | .runWatchExpiry => Sys2Proof.Machine.execRunWatchExpiry s
  | .faultHoldExpiry => Sys2Proof.Machine.execFaultHoldExpiry s
  | .faultEntryAgeOut => Sys2Proof.Machine.execFaultEntryAgeOut s
  | .postRunExpiry => Sys2Proof.Machine.execPostRunExpiry s
  | .minuteEvaluation => Sys2Proof.Machine.execMinuteEvaluation s
  | .maxHeatExpiry => Sys2Proof.Machine.execMaxHeatExpiry s
  | .timeBlindExpiry => Sys2Proof.Machine.execTimeBlindExpiry s
  | .dripEnd => Sys2Proof.Machine.execDripEnd s
  | .fanReleaseTimeout => Sys2Proof.Machine.execFanReleaseTimeout s
  | .doorOpening d => Sys2Proof.Machine.execDoorOpening d s
  | .doorClosing d => Sys2Proof.Machine.execDoorClosing d s
  | .doorFirstReading d o => Sys2Proof.Machine.execDoorFirstReading d o s
  | .ajarDelayReached z => Sys2Proof.Machine.execAjarDelayReached z s
  | .slotBoundary => Sys2Proof.Machine.execSlotBoundary s
  | .setExchangeSuccess => Sys2Proof.Machine.execSetExchangeSuccess s
  | .statusExchangeSuccess heard => Sys2Proof.Machine.execStatusExchangeSuccess heard s
  | .exchangeFailure heard => Sys2Proof.Machine.execExchangeFailure heard s
  | .responseLimitExpiry heard => Sys2Proof.Machine.execResponseLimitExpiry heard s
  | .faultCheckExpiry line => Sys2Proof.Machine.execFaultCheckExpiry line s
  | .serviceTimerExpiry => Sys2Proof.Machine.execServiceTimerExpiry s
  | .hostCharacterReceived c => Sys2Proof.Machine.execHostCharacterReceived c s

end Sys2Proof.Machine
end

