-- ==== Sys2Proof/Decode.lean ====
section
/-!
DEFINITION. Reading commands from words and from frames. No row of spec/opcode_table.json gives bits, so no word spells a
command (notes/assumptions/26.md). What the spec does encode is the host link's requests: a TYPE and a payload name a
command (Table 10-5), and a request command has a frame (Table 10-1).
-/
namespace Sys2Proof

/-- The command a word spells by the table's bits: none, since no row has any. -/
def decodeTableWord (_nbits _w : Nat) : Option Instr := none

namespace Machine

/-- The request a TYPE names, with its payload; any other TYPE is taken as UNKNOWN_REQUEST (Table 10-5, R188). -/
def requestOf (type : Byte) (p : List Byte) : Instr :=
  if type = 0x01 then .identify p
  else if type = 0x02 then .restart p
  else if type = 0x10 then .zoneSet p
  else if type = 0x11 then .zoneTiming p
  else if type = 0x12 then .zoneEnable p
  else if type = 0x13 then .flexMode p
  else if type = 0x14 then .zoneRead p
  else if type = 0x15 then .doorSet p
  else if type = 0x20 then .compSet p
  else if type = 0x21 then .compRead p
  else if type = 0x22 then .clearLockout p
  else if type = 0x30 then .arbSet p
  else if type = 0x31 then .force p
  else if type = 0x32 then .arbRead p
  else if type = 0x33 then .readmit p
  else if type = 0x40 then .defrostSet p
  else if type = 0x41 then .defrostStart p
  else if type = 0x42 then .defrostAbort p
  else if type = 0x43 then .defrostRead p
  else if type = 0x50 then .eventMask p
  else if type = 0x51 then .eventRead p
  else if type = 0x60 then .unitRead p
  else if type = 0x70 then .serviceEnter p
  else if type = 0x71 then .serviceOutput p
  else if type = 0x72 then .serviceExit p
  else .unknownRequest type p

/-- TYPE and payload of a command that is a host link request; none for every other command. -/
def requestParts : Instr → Option (Byte × List Byte)
  | .identify p => some (0x01, p)
  | .restart p => some (0x02, p)
  | .zoneSet p => some (0x10, p)
  | .zoneTiming p => some (0x11, p)
  | .zoneEnable p => some (0x12, p)
  | .flexMode p => some (0x13, p)
  | .zoneRead p => some (0x14, p)
  | .doorSet p => some (0x15, p)
  | .compSet p => some (0x20, p)
  | .compRead p => some (0x21, p)
  | .clearLockout p => some (0x22, p)
  | .arbSet p => some (0x30, p)
  | .force p => some (0x31, p)
  | .arbRead p => some (0x32, p)
  | .readmit p => some (0x33, p)
  | .defrostSet p => some (0x40, p)
  | .defrostStart p => some (0x41, p)
  | .defrostAbort p => some (0x42, p)
  | .defrostRead p => some (0x43, p)
  | .eventMask p => some (0x50, p)
  | .eventRead p => some (0x51, p)
  | .unitRead p => some (0x60, p)
  | .serviceEnter p => some (0x70, p)
  | .serviceOutput p => some (0x71, p)
  | .serviceExit p => some (0x72, p)
  | .unknownRequest type p => some (type, p)
  | .hardReset | .strapReadComplete _ _ _ _ | .hostFrameReceived _ | .gapTimeout | .replyEnd | .noticeStart | .noticeEnd => none
  | .sensingSweepStart | .sensorReadingArrival _ _ | .blindPhaseExpiry _ | .warmTimerExpiry _ | .minDwellMet => none
  | .maxDwellExpiry | .isolationHoldExpiry _ | .forcedRecordExpiry | .parkTimerExpiry | .valveMoveEnd => none
  | .homingDriveEnd | .routeTimeout | .preChillTimeout _ | .tachPulse _ | .fanStall _ | .fanRestEnd _ => none
  | .speedPeriodExpiry | .minOffElapsed | .minOnMet | .runWatchExpiry | .faultHoldExpiry | .faultEntryAgeOut => none
  | .postRunExpiry | .minuteEvaluation | .maxHeatExpiry | .timeBlindExpiry | .dripEnd | .fanReleaseTimeout => none
  | .doorOpening _ | .doorClosing _ | .doorFirstReading _ _ | .ajarDelayReached _ | .slotBoundary => none
  | .setExchangeSuccess | .statusExchangeSuccess _ | .exchangeFailure _ | .responseLimitExpiry _ => none
  | .faultCheckExpiry _ | .serviceTimerExpiry | .hostCharacterReceived _ => none

/-- Characters received without error. -/
def lineChars (bs : List Byte) : List RxChar := bs.map fun b => ⟨b, true⟩

/-- The characters of a request's frame (Table 10-1). -/
def requestFrame (type : Byte) (p : List Byte) : List RxChar := lineChars (hostFrame type p)

end Machine
end Sys2Proof
end

