-- ==== Sys2Proof/Machine/Tick.lean ====
section
/-!
DEFINITION. What happens while no command waits: a request being handled is taken, a NOTICE that is due begins, or one tick
of 1/9600 s passes, every timer advances, and the events that come due with the tick are put on the queue
(DESIGN CHOICE: notes/assumptions/1.md to 3.md, 5.md, 6.md say which of these choices is unsafe).
-/
namespace Sys2Proof.Machine

/-- A time counts up and stands one tick short of its limit, where its event is due. -/
def countUp (limit t : Ticks) : Ticks := if limit ≤ t + 1 then t else t + 1

/-- A count of seconds that saturates at 65535. -/
def satUp (t : Ticks) : Ticks := min (t + 1) satTicks

/-- A time counts down and stands at its last tick, where its event is due. -/
def countDown (t : Ticks) : Ticks := if t ≤ 1 then t else t - 1

/-! ## The events that fall due with the next tick -/

/-- A command, if its event is due. -/
def due (b : Bool) (i : Instr) : List Instr := if b then [i] else []

/-- The gap timeout comes from the tick when no character can still be arriving that began in time: 4 character times and
one character (DESIGN CHOICE, unsafe for timing: notes/assumptions/7.md). -/
def gapSilence : Ticks := 13

def linkDue (s : State) : List Instr :=
  due (s.link.receiver ≠ .hunt && dueUp gapSilence s.link.gap) .gapTimeout ++
    due (s.link.transmitter = .sendingReply && s.link.sendDue) .replyEnd ++
    due (s.link.transmitter = .sendingNotice && s.link.sendDue) .noticeEnd

/-- The end that the exchange in flight comes to with a quiet bit time: a SET frame read back as sent, no response, or what
levels heard before bring about (DESIGN CHOICE, unsafe: notes/assumptions/8.md). -/
def exchangeDue (b : Bus) : List Instr :=
  match b.exchange with
  | some e =>
    let heard := (e.advance b.slotFor).heard
    match (e.advance b.slotFor).outcome with
    | some .sent => [.setExchangeSuccess]
    | some (.response _) => [.statusExchangeSuccess heard]
    | some (.failed k) => if k.beforeLimit then [.exchangeFailure heard] else [.responseLimitExpiry heard]
    | none => []
  | none => []

/-- The levels of the line in FAULT after a further bit time in which no device pulls it low (DESIGN CHOICE, unsafe:
notes/assumptions/8.md). -/
def Bus.nextLine (b : Bus) : List Bool := lastLevels (b.line ++ [true])

def busDue (s : State) : List Instr :=
  exchangeDue s.bus ++ due s.bus.checkDue (.faultCheckExpiry s.bus.nextLine) ++ due s.bus.boundaryDue .slotBoundary

/-- The door event that falls due: the level on the pin has stood for 100 ms and is not the door's state (R158). -/
def doorDue (d : Door) (r : DoorRec) : List Instr :=
  if r.settled r.sample then
    match r.state, r.sample with
    | .unread, level => [.doorFirstReading d level]
    | .closed, true => [.doorOpening d]
    | .isOpen, false => [.doorClosing d]
    | _, _ => []
  else []

def doorsDue (s : State) : List Instr :=
  if s.doors.sampling then
    doorDue .freshL s.doors.door.freshL ++ doorDue .freshR s.doors.door.freshR ++ doorDue .flex s.doors.door.flex ++
      doorDue .freeze s.doors.door.freeze
  else []

def zoneDue (s : State) : List Instr :=
  Zone.all.flatMap fun z =>
    due (s.blindDue z) (.blindPhaseExpiry z) ++ due (s.warmDue z) (.warmTimerExpiry z) ++
      due (s.ajarDue z) (.ajarDelayReached z) ++ due (s.isolationDue z) (.isolationHoldExpiry z)

def arbDue (s : State) : List Instr :=
  due s.minDwellDue .minDwellMet ++ due s.maxDwellDue .maxDwellExpiry ++ due s.forcedDue .forcedRecordExpiry ++
    due s.parkDue .parkTimerExpiry

def fanDue (f : Fan) (r : FanRec) : List Instr := due r.stallDue (.fanStall f) ++ due r.restDue (.fanRestEnd f)

def routeDue (s : State) : List Instr :=
  due s.route.valve.moveDue .valveMoveEnd ++ due s.route.valve.driveDue .homingDriveEnd ++
    due s.routeTimeoutDue .routeTimeout ++ due (s.preChillDue .freezer) (.preChillTimeout .freezer) ++
    due (s.preChillDue .fresh) (.preChillTimeout .fresh) ++ fanDue .freezer s.route.fans.freezer ++
    fanDue .fresh s.route.fans.fresh ++ fanDue .condenser s.route.fans.condenser

/-- One FAULT_ENTRY_AGE_OUT for each entry whose age comes to 3600 s, outside LOCKOUT (R129). -/
def ageDues (c : Compressor) : List Instr :=
  if c.state = .lockout then []
  else (c.faults.filter fun f => dueUp (sec 3600) f.age).map fun _ => .faultEntryAgeOut

def compDue (s : State) : List Instr :=
  ageDues s.comp ++ due s.comp.speedDue .speedPeriodExpiry ++ due s.minOffDue .minOffElapsed ++
    due s.minOnDue .minOnMet ++ due s.runWatchDue .runWatchExpiry ++ due s.comp.holdDue .faultHoldExpiry ++
    due s.comp.postRunDue .postRunExpiry

def defrostDue (s : State) : List Instr :=
  due s.defrost.minuteDue .minuteEvaluation ++ due (s.defrost.heatDue false) .maxHeatExpiry ++
    due (s.defrost.heatDue true) .timeBlindExpiry ++ due s.defrost.dripDue .dripEnd ++
    due s.defrost.releaseDue .fanReleaseTimeout

/-- The events that fall due with the next tick, in the model's order (DESIGN CHOICE, unsafe: notes/assumptions/2.md). -/
def dueEvents (s : State) : List Instr :=
  linkDue s ++ busDue s ++ due s.sweepDue .sensingSweepStart ++ doorsDue s ++ zoneDue s ++ routeDue s ++ compDue s ++ arbDue s ++
    defrostDue s ++ due s.serviceTimerDue .serviceTimerExpiry

/-! ## One tick at each block -/

def Link.tick (l : Link) : Link :=
  { l with
    gap := if l.receiver = .hunt then l.gap else countUp gapSilence l.gap
    sendLeft := if l.transmitter = .idle then l.sendLeft else l.sendLeft - 2 }

def Bus.tick (b : Bus) : Bus :=
  { b with
    slotFor := if b.mode = .stopped then b.slotFor else countUp slotTicks b.slotFor
    exchange := if b.mode = .stopped then b.exchange else b.exchange.map (Exchange.advance b.slotFor)
    checkTimer := b.checkTimer.map (countUp (sec 1))
    line := if b.mode = .fault then b.nextLine else b.line }

/-- One tick of a door; `sampling` says that its input is sampled (R158). -/
def DoorRec.tick (sampling : Bool) (d : DoorRec) : DoorRec :=
  { d with
    stable := if sampling then min (d.stable + 1) debounceTicks else d.stable
    openFor := if d.state = .isOpen then satUp d.openFor else d.openFor }

def ZoneDoor.tick (delay : Nat) (z : ZoneDoor) : ZoneDoor :=
  { z with
    openFor :=
      if !z.isOpen then z.openFor else if z.ajar then satUp z.openFor
      else if dueUp (sec delay) z.openFor then z.openFor else satUp z.openFor }

def Doors.tick (delay : Nat) (d : Doors) : Doors :=
  { d with
    door :=
      ⟨d.door.freshL.tick d.sampling, d.door.freshR.tick d.sampling, d.door.flex.tick d.sampling,
        d.door.freeze.tick d.sampling⟩
    zone := d.zone.map fun _ z => z.tick delay }

/-- One tick of a zone record; `gathering` says that its warm timer gathers time (R53). -/
def ZoneRec.tick (gathering : Bool) (r : ZoneRec) : ZoneRec :=
  { r with
    blind := r.blind.map fun b => { b with left := countDown b.left }
    warmFor := if gathering && !r.warm then countUp (sec 3600) r.warmFor else r.warmFor
    isolation := r.isolation.map countDown }

def Grant.tick (g : Grant) : Grant :=
  match g.phase with
  | .routing => g
  | .cooling =>
    { g with coolingFor := satUp g.coolingFor, minLeft := countDown g.minLeft, maxLeft := countDown g.maxLeft }

def Arbiter.tick (a : Arbiter) : Arbiter :=
  { a with
    grant := a.grant.map Grant.tick
    waiting := a.waiting.map fun w => { w with waited := satUp w.waited }
    forced := a.forced.map fun f => { f with left := countDown f.left }
    parkTimer := a.parkTimer.map countDown }

/-- A tick of a move under way: a step every 25 ms toward its target; the last one is VALVE_MOVE_END's (R95). -/
def Valve.tickMove (v : Valve) : Valve :=
  match v.move with
  | some m =>
    if m.stepDue then
      if stepsLeft v.counter m.target.counter ≤ 1 then v
      else
        { v with
          counter := if v.counter < m.target.counter then v.counter + 1 else v.counter - 1
          move := some { m with step := 0 } }
    else { v with move := some { m with step := m.step + 1 } }
  | none => v

def Valve.tick (v : Valve) : Valve :=
  { v.tickMove with drive := v.drive.map (countUp driveTicks) }

def FanRec.tick (f : FanRec) : FanRec :=
  { f with
    rest := f.rest.map (countUp (sec 50))
    watch := if f.rest.isNone && 20 ≤ f.output then countUp (sec 10) f.watch else f.watch }

def PreChill.tick (counts : Bool) (p : PreChill) : PreChill :=
  match p with
  | .running t => if counts then .running (countUp (sec 90) t) else p
  | _ => p

def tickRoute (s : State) : Route :=
  let r := s.route
  { r with
    valve := r.valve.tick
    app := r.app.map fun a => if a.inPlace then a else { a with timer := countUp (sec 20) a.timer }
    preFreezer := r.preFreezer.tick (s.preChillCounts .freezer)
    preFresh := r.preFresh.tick (s.preChillCounts .fresh)
    fans := ⟨r.fans.freezer.tick, r.fans.fresh.tick, r.fans.condenser.tick⟩ }

def tickComp (s : State) : Compressor :=
  let c := s.comp
  { c with
    runFor := if c.state = .running then (if s.minOnDue then c.runFor else satUp c.runFor) else c.runFor
    stopFor := if s.minOffDue then c.stopFor else satUp c.stopFor
    speedTimer := c.speedTimer.map (countUp (sec 10))
    runWatch := c.runWatch.map (countUp (sec 30))
    hold := c.hold.map countDown
    faults :=
      if c.state = .lockout then c.faults else c.faults.map fun f => { f with age := countUp (sec 3600) f.age }
    postRun := c.postRun.map countDown }

/-- A tick of the minute period: at the end of a second that has been unbroken the FZ run seconds advance (R138(a)). -/
def Minute.tick (running : Bool) (m : Minute) : Minute :=
  if dueUp (mins 1) m.elapsed then m
  else if (m.elapsed + 1) % 9600 = 0 then
    { m with elapsed := m.elapsed + 1, fzRun := m.fzRun + m.unbroken.toNat, unbroken := running }
  else { m with elapsed := m.elapsed + 1 }

def DefrostContext.tick (phase : DefrostPhase) (c : DefrostContext) : DefrostContext :=
  { c with
    heatFor := if phase = .heat then countUp c.heatLimit c.heatFor else c.heatFor
    dripFor := if phase = .drip then countUp c.dripLimit c.dripFor else c.dripFor }

def tickDefrost (s : State) : Defrost :=
  let d := s.defrost
  { d with
    phaseFor := if d.releaseDue then d.phaseFor else satUp d.phaseFor
    minute := if d.phase = .idle then d.minute.map (Minute.tick s.fzRunning) else d.minute
    context := d.context.map (DefrostContext.tick d.phase) }

/-- One tick passes at every block; the queue takes the events that come due. -/
def tick (s : State) : State :=
  { s with
    mode := { s.mode with serviceTimer := s.mode.serviceTimer.map countDown }
    strap := { s.strap with reading := s.strap.reading.map (countUp strapTicks) }
    sensing := { s.sensing with sweepTimer := s.sensing.sweepTimer.map (countUp sweepTicks) }
    doors := s.doors.tick s.settings.door.ajarDelay
    zones := s.zones.map fun z r => r.tick (s.warmGathering z)
    arb := s.arb.tick
    route := tickRoute s
    comp := tickComp s
    defrost := tickDefrost s
    bus := s.bus.tick
    link := s.link.tick
    pending := dueEvents s }

/-- The request whose frame has been received and not yet taken (R187). -/
def Link.waitingRequest (l : Link) : Option Instr :=
  if l.handling && l.reply.isNone then
    match l.buffer with
    | type :: p => some (requestOf type p)
    | [] => none
  else none

/-- What an empty queue brings: the taking of a request (R187), the beginning of a NOTICE (R193), or a tick. -/
def idle (s : State) : State :=
  match s.link.waitingRequest with
  | some i => { s with pending := [i] }
  | none => if s.link.noticeDue then { s with pending := [.noticeStart] } else tick s

end Sys2Proof.Machine
end

