-- ==== Sys2Proof/Machine/Step.lean ====
section
/-!
DEFINITION. One step: the command at the front of the queue, with the queue's rest; on an empty queue, the block idles.
-/
namespace Sys2Proof.Machine

/-- One step of the block. -/
def step (s : State) : Host.Outcome State Fault Refusal :=
  match s.pending with
  | i :: rest => exec i { s with pending := rest }
  | [] => .next (idle s)

/-- A command is put at the front of the queue. -/
def State.enqueueFront (s : State) (i : Instr) : State := { s with pending := i :: s.pending }

/-- The command a word spells is put at the front of the queue; no word spells one, so the state stays
(DESIGN CHOICE, safe: notes/assumptions/26.md). -/
def State.withFetchWord (s : State) (nbits w : Nat) : State :=
  match decodeTableWord nbits w with
  | some i => s.enqueueFront i
  | none => s

end Sys2Proof.Machine
end

