-- ==== Sys2Proof/Safety.lean ====
section
/-!
DEFINITION. What the spec's whole-machine sentences promise of a state, as decidable predicates: the terms in which the
invariants are stated.
-/
namespace Sys2Proof.Machine

/-- "The defrost heater is on only in defrost phase HEAT or in SERVICE mode, and never while the commanded speed is non-zero
with the valve target at the FZ outlet" (R142). -/
abbrev State.heaterSafe (s : State) : Prop :=
  s.defrost.heater = true →
    (s.defrost.phase = .heat ∨ s.mode.opState = .service) ∧
      ¬(s.comp.command ≠ 0 ∧ s.route.valve.target = some .fz)

/-- No grant exists while the part is in INIT or SERVICE (R55). -/
abbrev State.grantInRun (s : State) : Prop := s.arb.grant.isSome = true → s.mode.opState = .run

/-- The fault list never holds more than 3 entries, and it holds 3 exactly in LOCKOUT (R129). -/
abbrev State.lockoutRule (s : State) : Prop :=
  s.comp.faults.length ≤ 3 ∧ (s.comp.state = .lockout ↔ s.comp.faults.length = 3)

/-- The compressor parameters lie as COMP_SET leaves them (R133): multiples of 50, Nmin at most Nmax - 200. -/
abbrev CompParams.ok (c : CompParams) : Prop :=
  1200 ≤ c.nMin ∧ c.nMin + 200 ≤ c.nMax ∧ c.nMax ≤ 5000 ∧ c.nMin % 50 = 0 ∧ c.nMax % 50 = 0 ∧ c.ramp % 50 = 0

/-- The commanded speed is 0, or a multiple of 50 within the Nmin..Nmax in force (R115(b), R124), and it is non-zero exactly
while the compressor state is RUNNING. -/
abbrev State.speedRule (s : State) : Prop :=
  s.settings.comp.ok ∧ s.comp.serviceSpeed % 50 = 0 ∧
    (s.comp.state = .running ↔ s.comp.command ≠ 0) ∧
    (s.comp.command ≠ 0 →
      s.settings.comp.nMin ≤ s.comp.command ∧ s.comp.command ≤ s.settings.comp.nMax ∧ s.comp.command % 50 = 0)

/-- The defrost threshold Th lies within 240..5760 at all times (R149). -/
abbrev State.thInRange (s : State) : Prop := 240 ≤ s.defrost.th ∧ s.defrost.th ≤ 5760

/-- D lies within 0..100 and is 0 whenever the zone is SATISFIED (R41). -/
abbrev ZoneRec.levelRule (r : ZoneRec) : Prop := r.level ≤ 100 ∧ (r.demand = .satisfied → r.level = 0)

/-- The rule of R41 for every zone. -/
abbrev State.levelsOk (s : State) : Prop :=
  s.zones.fresh.levelRule ∧ s.zones.freeze.levelRule ∧ s.zones.flex.levelRule ∧ s.zones.ice.levelRule

/-- A zone stands on the waiting list exactly while it is CALLING, present, enabled and not ISOLATED and does not hold the
grant (R11(a), R56). -/
abbrev State.listExact (s : State) : Prop :=
  ∀ z, (∃ w ∈ s.arb.waiting, w.zone = z) ↔
    (s.zones.get z).demand = .calling ∧ s.present z = true ∧ (s.settings.zone.get z).enabled = true ∧
      (s.zones.get z).isolation = none ∧ ∀ g, s.arb.grant = some g → g.zone ≠ z

/-- The waiting list holds exactly the zones it should, and none of them twice (R43, R56, R57, R205). -/
abbrev State.listRule (s : State) : Prop := (s.arb.waiting.map Waiting.zone).Nodup ∧ s.listExact

/-- In HEAT and DRIP FREEZE is held by the defrost (R141, R145, R9(a)), and while FREEZE holds the grant it is not, and no
recovery claim is placed (R65, R69, R72). -/
abbrev State.claimRule (s : State) : Prop :=
  (s.defrost.phase = .heat ∨ s.defrost.phase = .drip → s.zones.freeze.holdDefrost = true) ∧
    ∀ g, s.arb.grant = some g → g.zone = .freeze → s.zones.freeze.holdDefrost = false ∧ s.arb.claim = false

/-- A unit is LOST exactly with at least 8 consecutive failures; failures stay within 255 (R175). -/
abbrev UnitRec.failureRule (u : UnitRec) : Prop :=
  u.failures ≤ 255 ∧ (u.state = .lost ↔ lostLimit ≤ u.failures)

/-- The rule of R175 for every unit. -/
abbrev State.unitsOk (s : State) : Prop :=
  s.bus.unit.inverter.failureRule ∧ s.bus.unit.damper.failureRule ∧ s.bus.unit.ice.failureRule

/-- An exchange is in flight only in ACTIVE, in the slot the schedule stands at, with a level for each bit time of the slot so
far; STOPPED has no position, only ACTIVE defers a stop, and only in FAULT are the levels of the last 10 bit times of the line
held (R166, R172, R178 to R180). -/
abbrev State.busRule (s : State) : Prop :=
  (∀ e, s.bus.exchange = some e →
      s.bus.mode = .active ∧ s.bus.position = some e.slot ∧ s.bus.slotFor ≤ e.heard.length ∧
        e.heard.length ≤ s.bus.slotFor + 1) ∧
    (s.bus.mode = .stopped ↔ s.bus.position = none) ∧ (s.bus.deferred ≠ .none → s.bus.mode = .active) ∧
    s.bus.line.length ≤ 10 ∧ (s.bus.line ≠ [] → s.bus.mode = .fault)

/-- The position counter stays within 0..160 (R92(b)), and an unhomed valve makes no move (R98, R99). -/
abbrev State.valveRule (s : State) : Prop :=
  s.route.valve.counter ≤ 160 ∧ (s.route.valve.homed = false → s.route.valve.move = none) ∧
    (s.route.valve.drive.isSome = true → s.route.valve.homed = false)

/-! ## Terms of the statements about commands -/

/-- The reply of a request taken now, on the state its owner left (R187). -/
def State.answer (s : State) (frame : List Byte) : State := { s with link := s.link.ready frame }

/-- `t` has the settings, the wiring and the inputs of `s`: what no event but their own changes. -/
abbrev State.sameSetup (s t : State) : Prop :=
  t.strap = s.strap ∧ t.settings = s.settings ∧ t.sensing = s.sensing ∧ t.service = s.service ∧ t.pending = s.pending

/-- Demand state and D of a zone are as they were. -/
abbrev State.sameDemand (s t : State) (z : Zone) : Prop :=
  (t.zones.get z).demand = (s.zones.get z).demand ∧ (t.zones.get z).level = (s.zones.get z).level

/-- The door monitor is as it was, but that a zone that went from CALLING to SATISFIED lost its recovery mark (R44(c), R162). -/
abbrev State.doorsFollow (s t : State) : Prop :=
  t.doors = { s.doors with zone := t.doors.zone } ∧
    ∀ z, t.doors.zone.get z =
      if (s.zones.get z).demand = .calling ∧ (t.zones.get z).demand = .satisfied then
        { s.doors.zone.get z with recovery := false }
      else s.doors.zone.get z

/-- A zone record is as it was but for the DEFROST hold cause, which the defrost controller sets and clears (R9(a)). -/
abbrev State.sameZone (s t : State) (z : Zone) : Prop :=
  t.zones.get z = { s.zones.get z with holdDefrost := (t.zones.get z).holdDefrost }

/-- The pre-chill record of a zone's fan at the start of COOLING: RUNNING at 0 s, and compared at once where the route's coil
and the zone's air have delivered (R108). -/
def State.preChillBegun (s : State) (z : Zone) : PreChill :=
  match (if z = .fresh then s.sensing.frCoil else s.sensing.fzCoil).filtered, (s.sensing.air.get z).filtered with
  | some coil, some air => if coil ≤ air - 30 then .ended else .running 0
  | _, _ => .running 0

/-- `t` holds the pre-chill records of a COOLING of `z` that has begun at an event of `s`: that of the route's fan as begun,
the other as given (R108). -/
abbrev State.preChillStarted (s t : State) (z : Zone) (other : PreChill) : Prop :=
  t.route.preFreezer = (if z = .fresh then other else s.preChillBegun z) ∧
    t.route.preFresh = (if z = .fresh then s.preChillBegun z else other)

/-- A grant made for a zone at an event of `s`, as `t` holds it after the event: the record (R69; R70 and R71 where COOLING
begins at the same event, with the pre-chill record of R108), the pointers (R61, after the moves of R62), the list, the claim and the idle sub-state (R69), and,
unless a rehome has still to end, the route as applied (R103). -/
abbrev State.grantMade (s t : State) (z : Zone) (r : GrantReason) : Prop :=
  (∃ g, t.arb.grant = some g ∧
    g = ⟨z, r, g.phase, 0, (s.settings.timing.get z).minDwell * 60 * 9600, (s.settings.timing.get z).maxDwell * 60 * 9600,
      if g.phase = .cooling then (s.sensing.air.get z).filtered else none, s.zoneDoorOpen z, false⟩ ∧
    (g.phase = .routing → t.route.preFreezer = .absent ∧ t.route.preFresh = .absent) ∧
    (g.phase = .cooling → State.preChillStarted s t z .absent)) ∧
  t.arb.idle = none ∧ t.arb.parkTimer = none ∧ (∀ w ∈ t.arb.waiting, w.zone ≠ z) ∧
  t.arb.claim = (s.arb.claim && decide (r ≠ .recovery)) ∧
  (s.settings.level.get z = .l1 → t.arb.p1 = some (.zone z) ∧ t.arb.p2 = (normalise s).arb.p2) ∧
  (s.settings.level.get z = .group → t.arb.p1 = some .group ∧ t.arb.p2 = some z) ∧
  (s.route.valve.rehoming = false →
    t.route.valve.target = some (if z = .fresh then .fr else .fz) ∧
    (t.route.dampers.flex, t.route.dampers.ice) =
      (match z with | .flex => (100, 0) | .ice => (0, 100) | _ => (0, 0)) ∧
    ∃ a, t.route.app = some a ∧
      a = ⟨z, 0, a.inPlace, decide (s.route.dampers.flex ≠ t.route.dampers.flex),
        decide (s.route.dampers.ice ≠ t.route.dampers.ice)⟩)

/-- PARK_DELAY entered at an event of `s`, as `t` holds it after the event (R80, R81, R106): the timer and the park mode in
use from the settings, the dampers at 0 and 0, no pre-chill record, the valve held where it is or where a move under way ends,
and a compressor with min-on met stopped. -/
abbrev State.parkDelayEntered (s t : State) : Prop :=
  t.arb.grant = none ∧ t.arb.idle = some .parkDelay ∧ t.arb.parkTimer = some (s.settings.arb.parkDelay * 9600) ∧
    t.arb.parkMode = s.settings.arb.parkMode ∧ t.arb.lastRoute = none ∧ t.route.dampers.flex = 0 ∧
    t.route.dampers.ice = 0 ∧ t.route.preFreezer = .absent ∧ t.route.preFresh = .absent ∧
    (s.route.valve.rehoming = false →
      (∀ m, s.route.valve.move = some m → t.route.valve.target = some m.target) ∧
      (∀ p, s.route.valve.move = none → s.route.valve.rest = some p → t.route.valve.target = some p)) ∧
    (s.comp.state = .running → s.minOnMet = true → t.comp.state = .stopped ∧ t.comp.command = 0)

/-- A grant end of `s` that leaves no grant, as `t` holds it after the event (R80): RUNOUT, which keeps the last route and the
compressor, while min-on has not elapsed; else PARK_DELAY, or with a park delay of 0 what follows it. -/
abbrev State.idleEntered (s t : State) : Prop :=
  t.arb.grant = none ∧ t.route.app = none ∧
    (s.comp.state = .running → s.comp.command ≠ 0 → s.minOnMet = false → 0 < s.settings.comp.nMin →
      t.arb.idle = some .runout ∧ t.arb.lastRoute = s.route.app.map RouteApp.zone ∧ t.comp.state = .running ∧
        t.route.dampers = s.route.dampers ∧ t.route.preFreezer = s.route.preFreezer ∧
        t.route.preFresh = s.route.preFresh ∧
        (s.route.valve.rehoming = false → t.route.valve.target = s.route.valve.target)) ∧
    (s.comp.command = 0 ∨ s.minOnMet = true →
      (s.settings.arb.parkDelay ≠ 0 → State.parkDelayEntered s t) ∧
      (s.settings.arb.parkDelay = 0 →
        t.arb.idle = some (if 100 ≤ s.route.valve.outletMoves ∧ s.route.valve.rehoming = false then .rehome else .parked) ∧
          t.arb.parkTimer = none ∧ t.route.dampers.flex = 0 ∧ t.route.dampers.ice = 0))

/-- A defrost of `s` completed with termination `e` at fan release, as `u` holds the controller's record before what follows
the event (R148): Th adapted (R149), the report with it (R152), C and E at 0, and a new minute begun. -/
abbrev State.defrostCompleted (s u : State) (c : DefrostContext) (e : Termination) : Prop :=
  u.defrost =
      { s.defrost with
        phase := .idle
        credit := 0
        elapsed := 0
        th :=
          match e with
          | .time => max 240 (s.defrost.th / 2)
          | .temp => if c.heatFor < 720 * 9600 then min 5760 (s.defrost.th + s.defrost.th / 4) else s.defrost.th
          | .timeBlind => s.defrost.th
          | .abort => s.defrost.th
        minute := u.defrost.minute
        phaseFor := 0
        context := none
        fanBlock := false
        report := some ⟨c.cause, e, c.heatFor, c.dripFor, c.peak, c.creditAtStart, u.defrost.th⟩ } ∧
    u.defrost.minute.map Minute.elapsed = some 0 ∧ u.arb = { s.arb with claim := false }

/-- RECOVER entered from `s` with context `c`, as `u` holds it before what follows the event (R147): the DEFROST holds gone, the
claim placed where FREEZE is enabled, and fan release tested at once: a VALID FZ coil at -100 or below completes the defrost and
withdraws the claim (that it does so before the arbitration is the model's choice, notes/assumptions/33.md). -/
abbrev State.recoverEntered (s u : State) (c : DefrostContext) : Prop :=
  (∀ z, u.zones.get z =
    { s.zones.get z with holdDefrost := if z = .fresh then (s.zones.get z).holdDefrost else false }) ∧
    ((u.sensing.fzCoil.state = .valid → ∀ f, u.sensing.fzCoil.filtered = some f → -100 < f) →
      u.arb = { s.arb with claim := s.arb.claim || s.settings.zone.freeze.enabled } ∧
        u.defrost = { s.defrost with phase := .recover, phaseFor := 0, context := some c }) ∧
    ∀ f e, u.sensing.fzCoil.state = .valid → u.sensing.fzCoil.filtered = some f → f ≤ -100 → c.termination = some e →
      State.defrostCompleted s u c e

/-- The zone that a selection made now among waiting zones grants, with its reason: the list as R56 has it, the pointers moved
by R62 (R64). -/
def State.winner (s : State) : Option (Zone × GrantReason) := (normalise (relist s)).selection none

/-- The payload lengths of the requests (Tables 12-1 to 12-3, R204). -/
def payloadLengths : List (Byte × Nat) :=
  [(0x01, 0), (0x02, 0), (0x10, 6), (0x11, 5), (0x12, 2), (0x13, 1), (0x14, 1), (0x15, 3), (0x20, 10), (0x21, 0),
    (0x22, 0), (0x30, 10), (0x31, 3), (0x32, 0), (0x33, 1), (0x40, 9), (0x41, 0), (0x42, 0), (0x43, 0), (0x50, 4),
    (0x51, 0), (0x60, 0), (0x70, 0), (0x71, 9), (0x72, 0)]

end Sys2Proof.Machine
end

