-- ==== Sys2Proof/WellFormed.lean ====
section
/-!
DEFINITION. Well-formed commands: what can stand on the wires the command speaks of. A payload has at most 60 bytes
(Table 10-1: LEN is at most 61), a frame as received at most 64 characters (R186), an unknown request carries a TYPE that
names none (R188), and the levels of a slot are at most its 384 bit times (R172).
-/
namespace Sys2Proof.Machine

/-- The longest payload of a request. -/
def maxPayload : Nat := 60

/-- The longest frame, in characters (R186). -/
def maxFrame : Nat := 64

/-- The bit times of a slot (R172). -/
def maxLevels : Nat := slotTicks

end Sys2Proof.Machine

namespace Sys2Proof

/-- A well-formed command. -/
def Instr.wellFormed (i : Instr) : Bool :=
  (match Machine.requestParts i with
    | some r => decide (r.2.length ≤ Machine.maxPayload)
    | none => true) &&
  match i with
  | .unknownRequest type _ => !Machine.requestTypes.contains type
  | .hostFrameReceived chars => decide (chars.length ≤ Machine.maxFrame)
  | .statusExchangeSuccess heard => decide (heard.length ≤ Machine.maxLevels)
  | .exchangeFailure heard => decide (heard.length ≤ Machine.maxLevels)
  | .responseLimitExpiry heard => decide (heard.length ≤ Machine.maxLevels)
  | .faultCheckExpiry line => decide (line.length = Machine.lineBits)
  | _ => true

end Sys2Proof
end

