-- ==== Sys2Proof/Certificates/Slice0/Obligations.lean ====
section
/-!
DEFINITION. The statements for the provers, after the numbered rules of spec/. `finish` is what follows the direct effect
of an event: WhatFollowsKeeps, WhatFollowsPresents, NoSelectableZoneWaits and CompressorFollowsRequest say what it does.
-/
open Sys2Proof Sys2Proof.Machine

/-! ## The machine -/

/-- The queue is first in, first out: a step takes the front command, with the queue's rest. -/
def Obligations.StepRunsFrontCommand : Prop :=
  ∀ (c : Instr) (rest : List Instr) (s : State),
    step { s with pending := c :: rest } = exec c { s with pending := rest }

/-- What an empty queue brings: the taking of a request being handled (R187), the beginning of a NOTICE (R193), or a
tick. The tick and its order are the model's choice (notes/assumptions/1.md, 5.md and 6.md). -/
def Obligations.EmptyQueueStep : Prop :=
  ∀ s : State, s.pending = [] →
    (∀ type p, s.link.handling = true → s.link.reply = none → s.link.buffer = type :: p →
      step s = .next { s with pending := [requestOf type p] }) ∧
    (s.link.handling = false → s.link.noticePending = true → s.link.transmitter = .idle → s.link.isOpen = true →
      step s = .next { s with pending := [.noticeStart] }) ∧
    (s.link.handling = false → s.link.noticePending = false → step s = .next (tick s))

/-- A tick advances every timer by its rule and changes nothing else: one counting up stands one tick short of its limit, one
counting down at its last tick, and there the tick puts its event on the queue; a count of seconds saturates at 65535; a valve
move steps every 25 ms toward its target (R95), a second that has been unbroken adds an FZ run second (R138(a)); the times are
those of R2, R21, R47, R53, R58, R66, R71, R81, R85, R98, R104, R108, R110, R111, R119 to R121, R127, R129, R130, R132, R138,
R143, R144, R146, R147, R161, R172, R179 and R203. The ticks, the stand before the event and the order are the model's
(notes/assumptions/1.md to 3.md), as are the gap's (7.md) and the high level that a tick in FAULT hears on the line, which the
tick's own FAULT_CHECK_EXPIRY carries (8.md and 35.md); the events of doors and exchanges: DoorCommands, BusSlots. -/
def Obligations.TickFrame : Prop :=
  ∀ (s t : State) (up : Nat → Nat → Nat) (down sat : Nat → Nat), t = tick s →
    up = (fun limit x => if limit ≤ x + 1 then x else x + 1) → down = (fun x => if x ≤ 1 then x else x - 1) →
    sat = (fun x => min (x + 1) (65535 * 9600)) →
    (t.settings = s.settings ∧ t.service = s.service ∧ t.events = s.events ∧
      t.strap = { s.strap with reading := s.strap.reading.map (up 960) } ∧
      t.mode = { s.mode with serviceTimer := s.mode.serviceTimer.map down } ∧
      t.sensing = { s.sensing with sweepTimer := s.sensing.sweepTimer.map (up 19200) } ∧
      t.link =
        { s.link with
          gap := if s.link.receiver = .hunt then s.link.gap else up 13 s.link.gap
          sendLeft := if s.link.transmitter = .idle then s.link.sendLeft else s.link.sendLeft - 2 }) ∧
    (t.doors = { s.doors with door := t.doors.door, zone := t.doors.zone } ∧
      (∀ d r, r = s.doors.door.get d →
        t.doors.door.get d =
          { r with
            stable := if s.doors.sampling = true then min (r.stable + 1) 960 else r.stable
            openFor := if r.state = .isOpen then sat r.openFor else r.openFor }) ∧
      ∀ z m, m = s.doors.zone.get z →
        t.doors.zone.get z =
          { m with
            openFor :=
              if m.isOpen = true ∧ (m.ajar = true ∨ m.openFor + 1 < s.settings.door.ajarDelay * 9600) then sat m.openFor
              else m.openFor }) ∧
    (∀ z r, r = s.zones.get z →
      t.zones.get z =
        { r with
          blind := r.blind.map fun b => { b with left := down b.left }
          warmFor :=
            if r.warmRunning = true ∧ s.zoneDoorOpen z = false ∧ r.warm = false then up (3600 * 9600) r.warmFor
            else r.warmFor
          isolation := r.isolation.map down }) ∧
    t.arb =
      { s.arb with
        grant :=
          s.arb.grant.map fun g =>
            if g.phase = .cooling then
              { g with coolingFor := sat g.coolingFor, minLeft := down g.minLeft, maxLeft := down g.maxLeft }
            else g
        waiting := s.arb.waiting.map fun w => { w with waited := sat w.waited }
        forced := s.arb.forced.map fun f => { f with left := down f.left }
        parkTimer := s.arb.parkTimer.map down } ∧
    (∀ v, v = s.route.valve →
      t.route.valve =
          { v with
            counter := t.route.valve.counter, move := t.route.valve.move, drive := v.drive.map (up (184 * 240)) } ∧
        (v.move = none → t.route.valve.counter = v.counter ∧ t.route.valve.move = none) ∧
        ∀ m goal, v.move = some m → goal = (match m.target with | .closed => 16 | .fr => 64 | .fz => 112) →
          (m.step + 1 < 240 →
            t.route.valve.counter = v.counter ∧ t.route.valve.move = some { m with step := m.step + 1 }) ∧
          (240 ≤ m.step + 1 →
            (v.counter + 1 < goal →
              t.route.valve.counter = v.counter + 1 ∧ t.route.valve.move = some { m with step := 0 }) ∧
            (goal + 1 < v.counter →
              t.route.valve.counter = v.counter - 1 ∧ t.route.valve.move = some { m with step := 0 }) ∧
            (v.counter ≤ goal + 1 → goal ≤ v.counter + 1 → t.route.valve = { v with drive := t.route.valve.drive }))) ∧
    (t.route =
        { s.route with
          valve := t.route.valve
          app := s.route.app.map fun a => if a.inPlace then a else { a with timer := up (20 * 9600) a.timer }
          preFreezer := t.route.preFreezer, preFresh := t.route.preFresh, fans := t.route.fans } ∧
      (∀ cools : Zone → Prop, cools = (fun z => ∃ g, s.arb.grant = some g ∧ g.phase = .cooling ∧ g.zone = z) →
        (∀ e, (cools .freeze ∨ cools .flex ∨ cools .ice) → s.route.preFreezer = .running e →
          t.route.preFreezer = .running (up (90 * 9600) e)) ∧
        (∀ e, cools .fresh → s.route.preFresh = .running e → t.route.preFresh = .running (up (90 * 9600) e)) ∧
        (¬(cools .freeze ∨ cools .flex ∨ cools .ice) ∨ (∀ e, s.route.preFreezer ≠ .running e) →
          t.route.preFreezer = s.route.preFreezer) ∧
        (¬cools .fresh ∨ (∀ e, s.route.preFresh ≠ .running e) → t.route.preFresh = s.route.preFresh) ∧
        (Instr.preChillTimeout .freezer ∈ t.pending ↔
          (cools .freeze ∨ cools .flex ∨ cools .ice) ∧ ∃ e, s.route.preFreezer = .running e ∧ 90 * 9600 ≤ e + 1) ∧
        (Instr.preChillTimeout .fresh ∈ t.pending ↔
          cools .fresh ∧ ∃ e, s.route.preFresh = .running e ∧ 90 * 9600 ≤ e + 1)) ∧
      ∀ f r, r = s.route.fans.get f →
        t.route.fans.get f =
            { r with
              rest := r.rest.map (up (50 * 9600))
              watch := if r.rest = none ∧ 20 ≤ r.output then up (10 * 9600) r.watch else r.watch } ∧
          (Instr.fanStall f ∈ t.pending ↔ r.rest = none ∧ 20 ≤ r.output ∧ 10 * 9600 ≤ r.watch + 1) ∧
          (Instr.fanRestEnd f ∈ t.pending ↔ ∃ x, r.rest = some x ∧ 50 * 9600 ≤ x + 1)) ∧
    t.comp =
      { s.comp with
        runFor :=
          if s.comp.state = .running ∧ s.comp.runFor + 1 ≠ s.settings.comp.minOn * 9600 then sat s.comp.runFor
          else s.comp.runFor
        stopFor :=
          if s.comp.stopFor + 1 ≠ s.settings.comp.minOff * 9600 then sat s.comp.stopFor else s.comp.stopFor
        speedTimer := s.comp.speedTimer.map (up (10 * 9600))
        runWatch := s.comp.runWatch.map (up (30 * 9600))
        hold := s.comp.hold.map down
        faults :=
          if s.comp.state = .lockout then s.comp.faults
          else s.comp.faults.map fun e => { e with age := up (3600 * 9600) e.age }
        postRun := s.comp.postRun.map down } ∧
    (∀ d, d = s.defrost →
      t.defrost =
        { d with
          phaseFor := if d.phase = .recover ∧ 240 * 9600 ≤ d.phaseFor + 1 then d.phaseFor else sat d.phaseFor
          minute :=
            if d.phase = .idle then
              d.minute.map fun m =>
                if 60 * 9600 ≤ m.elapsed + 1 then m
                else if (m.elapsed + 1) % 9600 = 0 then
                  ⟨m.elapsed + 1, m.fzRun + (if m.unbroken = true then 1 else 0), s.fzRunning, m.door⟩
                else { m with elapsed := m.elapsed + 1 }
            else d.minute
          context :=
            d.context.map fun c =>
              { c with
                heatFor :=
                  if d.phase = .heat then
                    up ((if c.blind = true then min 1200 (c.maxHeat * 60) else c.maxHeat * 60) * 9600) c.heatFor
                  else c.heatFor
                dripFor := if d.phase = .drip then up (c.drip * 60 * 9600) c.dripFor else c.dripFor } }) ∧
    (t.bus =
        { s.bus with
          slotFor := if s.bus.mode = .stopped then s.bus.slotFor else up 384 s.bus.slotFor
          exchange := t.bus.exchange
          checkTimer := s.bus.checkTimer.map (up 9600)
          line :=
            if s.bus.mode = .fault then (s.bus.line ++ [true]).drop (s.bus.line.length + 1 - 10) else s.bus.line } ∧
      t.bus.exchange.map (fun e => { e with heard := [] }) = s.bus.exchange.map (fun e => { e with heard := [] }) ∧
      ∀ line, Instr.faultCheckExpiry line ∈ t.pending ↔
        line = t.bus.line ∧ s.bus.mode = .fault ∧ ∃ x, s.bus.checkTimer = some x ∧ 9600 ≤ x + 1) ∧
    (∀ z r m, r = s.zones.get z → m = s.doors.zone.get z →
      ∀ e ∈ ([(.blindPhaseExpiry z, ∃ b, r.blind = some b ∧ b.left ≤ 1),
          (.warmTimerExpiry z,
            r.warmRunning = true ∧ s.zoneDoorOpen z = false ∧ r.warm = false ∧ 3600 * 9600 ≤ r.warmFor + 1),
          (.ajarDelayReached z,
            m.isOpen = true ∧ m.ajar = false ∧ s.settings.door.ajarDelay * 9600 ≤ m.openFor + 1),
          (.isolationHoldExpiry z, ∃ x, r.isolation = some x ∧ x ≤ 1)] : List (Instr × Prop)),
        (e.1 ∈ t.pending ↔ e.2)) ∧
    ∀ e ∈ ([(.gapTimeout, s.link.receiver ≠ .hunt ∧ 13 ≤ s.link.gap + 1),
        (.replyEnd, s.link.transmitter = .sendingReply ∧ s.link.sendLeft ≤ 2),
        (.noticeEnd, s.link.transmitter = .sendingNotice ∧ s.link.sendLeft ≤ 2),
        (.slotBoundary, s.bus.mode ≠ .stopped ∧ 384 ≤ s.bus.slotFor + 1),
        (.sensingSweepStart, ∃ x, s.sensing.sweepTimer = some x ∧ 19200 ≤ x + 1),
        (.valveMoveEnd,
          ∃ m goal, s.route.valve.move = some m ∧
            goal = (match m.target with | .closed => 16 | .fr => 64 | .fz => 112) ∧ 240 ≤ m.step + 1 ∧
            goal ≤ s.route.valve.counter + 1 ∧ s.route.valve.counter ≤ goal + 1),
        (.homingDriveEnd, ∃ x, s.route.valve.drive = some x ∧ 184 * 240 ≤ x + 1),
        (.routeTimeout, ∃ a, s.route.app = some a ∧ a.inPlace = false ∧ 20 * 9600 ≤ a.timer + 1),
        (.faultEntryAgeOut, s.comp.state ≠ .lockout ∧ ∃ f ∈ s.comp.faults, 3600 * 9600 ≤ f.age + 1),
        (.speedPeriodExpiry, s.comp.state = .running ∧ ∃ x, s.comp.speedTimer = some x ∧ 10 * 9600 ≤ x + 1),
        (.minOffElapsed, s.comp.stopFor + 1 = s.settings.comp.minOff * 9600),
        (.minOnMet, s.comp.state = .running ∧ s.comp.runFor + 1 = s.settings.comp.minOn * 9600),
        (.runWatchExpiry, s.compAvailable = true ∧ ∃ x, s.comp.runWatch = some x ∧ 30 * 9600 ≤ x + 1),
        (.faultHoldExpiry, s.comp.state = .faultHold ∧ ∃ x, s.comp.hold = some x ∧ x ≤ 1),
        (.postRunExpiry, ∃ x, s.comp.postRun = some x ∧ x ≤ 1),
        (.minDwellMet, ∃ g, s.arb.grant = some g ∧ g.phase = .cooling ∧ g.minLeft = 1),
        (.maxDwellExpiry, ∃ g, s.arb.grant = some g ∧ g.phase = .cooling ∧ g.maxLeft ≤ 1),
        (.forcedRecordExpiry, ∃ f, s.arb.forced = some f ∧ f.left ≤ 1),
        (.parkTimerExpiry, s.arb.idle = some .parkDelay ∧ ∃ x, s.arb.parkTimer = some x ∧ x ≤ 1),
        (.minuteEvaluation, s.defrost.phase = .idle ∧ ∃ m, s.defrost.minute = some m ∧ 60 * 9600 ≤ m.elapsed + 1),
        (.maxHeatExpiry,
          s.defrost.phase = .heat ∧
            ∃ c, s.defrost.context = some c ∧ c.blind = false ∧ c.maxHeat * 60 * 9600 ≤ c.heatFor + 1),
        (.timeBlindExpiry,
          s.defrost.phase = .heat ∧
            ∃ c, s.defrost.context = some c ∧ c.blind = true ∧ min 1200 (c.maxHeat * 60) * 9600 ≤ c.heatFor + 1),
        (.dripEnd,
          s.defrost.phase = .drip ∧ ∃ c, s.defrost.context = some c ∧ c.drip * 60 * 9600 ≤ c.dripFor + 1),
        (.fanReleaseTimeout, s.defrost.phase = .recover ∧ 240 * 9600 ≤ s.defrost.phaseFor + 1),
        (.serviceTimerExpiry,
          s.mode.opState = .service ∧ ∃ x, s.mode.serviceTimer = some x ∧ x ≤ 1)] : List (Instr × Prop)),
      (e.1 ∈ t.pending ↔ e.2)

/-- No command touches the queue. -/
def Obligations.CommandsKeepQueue : Prop :=
  ∀ (c : Instr) (s t : State), exec c s = .next t → t.pending = s.pending

/-- HARD_RESET puts every block at its hard reset values, whatever it held; the queue and the levels on the door pins are not
the part's and stay (notes/assumptions/23.md and 12.md). The values the spec gives for that moment: operating state and start
cause (R196), the strap read begun (R2), every output off, link closed and bus STOPPED (R197), no grant and an empty list
(R91), the compressor STOPPED at 0 (R136), the defrost controller IDLE with Th 1440 (R156), every channel STARTING (R38), every
door UNREAD (R165), no live or latched condition (R195), and the default settings: setpoints, bands and full scales (Tables 1-4
and 1-5), FLEX mode (Table 1-6), levels (R60), caps and dwells (Table 4-6), and the parameters of ARB_SET, COMP_SET,
DEFROST_SET and DOOR_SET. Of State.reset, to which the first clause refers, the model chose the variant, strap result, enables
and unit table of class A before the strap read (9.md), the counter 0 of an unhomed valve (10.md), the door levels (12.md), the
fan level 0 (25.md), the park mode in use (31.md) and the slot timer at 0 (34.md). -/
def Obligations.ResetValues : Prop :=
  (∀ s : State,
    exec .hardReset s =
      .next
        { State.reset with
          doors := { State.reset.doors with input := s.doors.input }
          pending := s.pending }) ∧
    State.reset.mode = ⟨.init, .hardReset, none⟩ ∧ State.reset.strap.reading = some 0 ∧
    State.reset.phasesEnergized = false ∧
    State.reset.route.fans.freezer.output = 0 ∧ State.reset.route.fans.fresh.output = 0 ∧
    State.reset.route.fans.condenser.output = 0 ∧ State.reset.defrost.heater = false ∧
    State.reset.link.isOpen = false ∧ State.reset.bus.mode = .stopped ∧ State.reset.arb.grant = none ∧
    State.reset.arb.waiting = [] ∧ State.reset.arb.idle = some .inactive ∧ State.reset.comp.state = .stopped ∧
    State.reset.comp.command = 0 ∧ State.reset.comp.faults = [] ∧ State.reset.defrost.phase = .idle ∧
    State.reset.defrost.th = 1440 ∧ State.reset.route.valve.homed = false ∧
    (∀ ch, (State.reset.sensing.get ch).state = .starting ∧ (State.reset.sensing.get ch).filtered = none) ∧
    (∀ d, (State.reset.doors.door.get d).state = .unread) ∧
    (∀ z, (State.reset.zones.get z).demand = .satisfied ∧ (State.reset.events.zone.get z).latched = 0 ∧
      (State.reset.events.zone.get z).rise = 0xB8) ∧
    State.reset.events.device = ⟨0, 0xFF, 0, 0⟩ ∧ State.reset.settings.comp = ⟨1600, 4500, 200, 120, 300⟩ ∧
    State.reset.settings.arb = ⟨45, 120, .close, 5, 60⟩ ∧ State.reset.settings.defrost = ⟨4320, 8, 80, 40, 5⟩ ∧
    State.reset.settings.door = ⟨120, 20⟩ ∧ State.reset.settings.flexMode = .fresh ∧
    (∀ z q, q = State.reset.settings.zone.get z →
      (q.setpoint, q.hu, q.hd, q.fs) =
        (match z with
        | .fresh => ((30 : Int), 10, 10, 40) | .freeze => (-180, 15, 15, 60)
        | .flex => (30, 10, 10, 40) | .ice => (-150, 20, 20, 60))) ∧
    (∀ z, State.reset.settings.timing.get z =
      (match z with
      | .fresh => ⟨3600, 3, 20⟩ | .freeze => ⟨4500, 4, 30⟩ | .flex => ⟨4000, 3, 15⟩ | .ice => ⟨4000, 2, 10⟩)) ∧
    ∀ z, State.reset.settings.level.get z =
      (match z with | .fresh => .l1 | .freeze => .l1 | .flex => .group | .ice => .group)

/-! ## What follows every event -/

/-- The frame of what follows an event: settings, wiring, sensing, doors, bus, service settings and queue stand, the link
changes in the notice-pending flag only, enables stand, a zone record changes in its DEFROST hold cause only, and the fault
list, the hold timer, the last inverter status, the loss mark and the service speed stand, as do the fans' stalled flags and
rests and the outlet-move count. -/
def Obligations.WhatFollowsKeeps : Prop :=
  ∀ s : State,
    State.sameSetup s (finish s) ∧ (finish s).doors = s.doors ∧ (finish s).bus = s.bus ∧
      (finish s).link = { s.link with noticePending := (finish s).link.noticePending } ∧
      (∀ z, State.sameZone s (finish s) z ∧ ((finish s).events.zone.get z).rise = (s.events.zone.get z).rise ∧
        ((finish s).events.zone.get z).fall = (s.events.zone.get z).fall) ∧
      (finish s).events.device.rise = s.events.device.rise ∧ (finish s).events.device.fall = s.events.device.fall ∧
      (finish s).comp.faults = s.comp.faults ∧ (finish s).comp.hold = s.comp.hold ∧
      (finish s).comp.lastInv = s.comp.lastInv ∧ (finish s).comp.lossMark = s.comp.lossMark ∧
      (finish s).comp.serviceSpeed = s.comp.serviceSpeed ∧
      (∀ f, ((finish s).route.fans.get f).stalled = (s.route.fans.get f).stalled ∧
        ((finish s).route.fans.get f).rest = (s.route.fans.get f).rest) ∧
      (finish s).route.valve.outletMoves = s.route.valve.outletMoves

/-- What follows an event presents: the heater by its rule (R142), the freezer, fresh and condenser fans at the drives of
R107, R109 and R132 but while a fan rests (R111), every live condition of Tables 10-6 and 10-7 as it stands after the event,
enabled edges latched, and the notice-pending flag set when the latch stops being empty (R190, R193). -/
def Obligations.WhatFollowsPresents : Prop :=
  ∀ s f : State, f = finish s →
    (f.defrost.heater = true ↔
      (f.defrost.phase = .heat ∨ f.mode.opState = .service ∧ f.service.heater = true) ∧
        ¬(f.comp.command ≠ 0 ∧ f.route.valve.target = some .fz)) ∧
    (∀ fan, (f.route.fans.get fan).output =
      if (f.route.fans.get fan).rest.isSome then 0 else (f.route.fans.get fan).commanded) ∧
    (f.mode.opState = .init →
      f.route.fans.freezer.commanded = 0 ∧ f.route.fans.fresh.commanded = 0 ∧ f.route.fans.condenser.commanded = 0) ∧
    (f.mode.opState = .service →
      f.route.fans.freezer.commanded = f.service.fanFreezer ∧ f.route.fans.fresh.commanded = f.service.fanFresh ∧
        f.route.fans.condenser.commanded =
          if f.comp.command ≠ 0 ∨ f.comp.postRun ≠ none then max f.comp.fanLevel f.service.fanCondenser
          else f.service.fanCondenser) ∧
    (f.mode.opState = .run →
      f.route.fans.condenser.commanded = (if f.comp.command ≠ 0 ∨ f.comp.postRun ≠ none then f.comp.fanLevel else 0) ∧
      (f.defrost.fanBlock = true → f.route.fans.freezer.commanded = 0) ∧
      ((f.doors.door.get .freeze).state = .isOpen → f.route.fans.freezer.commanded = 0) ∧
      (∀ z, f.routeZone = some z → f.zoneDoorOpen z = true → f.route.fans.freezer.commanded = 0) ∧
      (f.defrost.fanBlock = false → (f.doors.door.get .freeze).state ≠ .isOpen →
        (∀ z, f.routeZone = some z → f.zoneDoorOpen z = false) →
        f.route.fans.freezer.commanded =
          (match f.arb.grant with
          | some g =>
            if g.phase = .cooling ∧ f.route.preFreezer = .ended then
              (match g.zone with | .fresh => 0 | .freeze => 100 | .flex => 70 | .ice => 60)
            else 0
          | none =>
            if f.arb.idle = some .runout ∧ f.route.preFreezer = .ended then
              (match f.arb.lastRoute with
              | some .freeze => 100 | some .flex => 70 | some .ice => 60 | some .fresh => 0 | none => 0)
            else 0)) ∧
      (f.zoneDoorOpen .fresh = true → f.route.fans.fresh.commanded = 0) ∧
      (f.zoneDoorOpen .fresh = false →
        ∀ air, air = (match f.sensing.frCoil.filtered with
          | some c => if f.sensing.frCoil.state = .valid ∧ c < 0 then 40 else 0
          | none => 0) →
        f.route.fans.fresh.commanded =
          (match f.arb.grant with
          | some g =>
            if g.phase = .cooling ∧ g.zone = .fresh then (if f.route.preFresh = .ended then 80 else 0) else air
          | none =>
            if f.arb.idle = some .runout ∧ f.arb.lastRoute = some .fresh ∧ f.route.preFresh = .ended then 80
            else air))) ∧
    (f.routeZone =
      (match f.arb.grant with
      | some g => some g.zone
      | none => if f.arb.idle = some .runout then f.arb.lastRoute else none)) ∧
    (∀ z e, e = f.events.zone.get z →
      (f.present z = false → e.live = 0) ∧
      (f.present z = true →
        (e.live.getLsbD 0 = true ↔ (f.zones.get z).demand = .calling) ∧
        (e.live.getLsbD 1 = true ↔ ∃ g, f.arb.grant = some g ∧ g.zone = z) ∧
        (e.live.getLsbD 2 = (f.doors.zone.get z).isOpen) ∧ (e.live.getLsbD 3 = (f.doors.zone.get z).ajar) ∧
        (e.live.getLsbD 4 = true ↔
          ∃ ch, (ch = .air z ∨ z = .fresh ∧ ch = .frCoil ∨ z = .freeze ∧ ch = .fzCoil) ∧
            ((f.sensing.get ch).state = .fault ∨ (f.sensing.get ch).state = .recovering)) ∧
        (e.live.getLsbD 5 = (f.zones.get z).isolation.isSome) ∧
        (e.live.getLsbD 6 = ((f.zones.get z).holdDefrost || (f.zones.get z).holdHarvest)) ∧
        (e.live.getLsbD 7 = (f.zones.get z).warm)) ∧
      e.latched =
        (s.events.zone.get z).latched ||| ((e.live &&& ~~~(s.events.zone.get z).live) &&& (s.events.zone.get z).rise) |||
          (((s.events.zone.get z).live &&& ~~~e.live) &&& (s.events.zone.get z).fall)) ∧
    (∀ e, e = f.events.device →
      (e.live.getLsbD 0 = true ↔ f.defrost.phase ≠ .idle) ∧ (e.live.getLsbD 1 = true ↔ f.comp.state = .faultHold) ∧
      (e.live.getLsbD 2 = true ↔ f.comp.state = .lockout) ∧
      (e.live.getLsbD 3 = true ↔ ∃ u, (f.bus.unit.get u).state = .lost) ∧
      (e.live.getLsbD 4 = true ↔ ∃ fan, (f.route.fans.get fan).stalled = true) ∧
      (e.live.getLsbD 5 = f.strap.fault) ∧ (e.live.getLsbD 6 = true ↔ f.mode.opState = .service) ∧
      (e.live.getLsbD 7 = f.arb.forced.isSome) ∧
      e.latched =
        s.events.device.latched ||| ((e.live &&& ~~~s.events.device.live) &&& s.events.device.rise) |||
          ((s.events.device.live &&& ~~~e.live) &&& s.events.device.fall)) ∧
    f.link.noticePending = (s.link.noticePending || (s.events.latchEmpty && !f.events.latchEmpty))

/-- After every event the waiting list holds exactly the zones that are CALLING, present, enabled and not ISOLATED and do not
hold the grant (R11, R43(b), R44(b), R56, R57, R79, R85). Those that stay on it keep place and waited time, and those that join
do so at the newest end with a waited time of 0 (R56, R57; not where a pending defrost, which may end a grant the event has
made, may begin; from a list and a claim as StepKeepsRangesAndList keeps them). In RUN no waiting zone is selectable while no grant exists: the arbiter decides at the event that makes one
selectable (R63(a) to (c), R64). -/
def Obligations.NoSelectableZoneWaits : Prop :=
  ∀ s f : State, f = finish s →
    f.listExact ∧
    (s.defrost.phase ≠ .pending → s.listRule → s.claimRule →
      ∃ joined : List Waiting,
        f.arb.waiting =
            s.arb.waiting.filter
                (fun w => f.member w.zone && decide (∀ g, f.arb.grant = some g → g.zone ≠ w.zone)) ++
              joined ∧
          ∀ w ∈ joined, w.waited = 0) ∧
    (f.mode.opState = .run → f.arb.grant = none → ∀ z, f.waitingSelectable z = false)

/-- After every event the compressor stands as the run request and the protections have it: it is not STOPPED with a run
request and min-off elapsed (R118), nor RUNNING without one and with min-on met (R120). A start that an event makes commands
Nmin whatever the target, with run seconds 0, a run watch and a speed period at 0, the condenser fan's level decided and no
post-run; where COOLING begins at the same event its recomputation follows (R118, R121, R124, R132; notes/assumptions/15.md). A
stop commands 0, with stop seconds 0, no run watch, speed period or target, and a post-run of 60 s at the fan level last
decided (R120, R121, R132); that the run seconds stand then is the model's reading (notes/assumptions/25.md). The target that
stands after an event: while STOPPED, Nmin with a run request and none without (R121); in FAULT_HOLD, LOCKOUT and INV_LOST none
without one (R115(c)), and where a service speed requests a run the one held, or Nmin, which is the model's choice (25.md). -/
def Obligations.CompressorFollowsRequest : Prop :=
  ∀ s f : State, f = finish s →
    ¬(f.comp.state = .stopped ∧ f.runRequest = true ∧ f.minOffElapsed = true) ∧
    ¬(f.comp.state = .running ∧ f.runRequest = false ∧ f.minOnMet = true) ∧
    (s.comp.state = .stopped → f.comp.state = .running →
      f.comp.runFor = 0 ∧ f.comp.runWatch = some 0 ∧ f.comp.speedTimer = some 0 ∧ f.comp.postRun = none ∧
        f.comp.fanLevel = s.condenserLevel ∧ f.comp.stopFor = s.comp.stopFor ∧
        ((∀ g, f.arb.grant = some g → g.phase = .routing) →
          f.comp.command = s.settings.comp.nMin ∧ f.comp.target = some s.settings.comp.nMin) ∧
        (∀ g, f.arb.grant = some g → g.phase = .cooling → s.mode.opState = .run → s.defrost.phase ≠ .pending →
          (∀ h, s.arb.grant = some h → h.phase = .routing) →
          f.comp.target = some f.targetSpeed ∧
            f.comp.command =
              (if s.settings.comp.nMin < f.targetSpeed then
                min f.targetSpeed (s.settings.comp.nMin + s.settings.comp.ramp)
              else f.targetSpeed))) ∧
    (s.comp.state = .running → f.comp.state = .stopped → s.comp.command ≠ 0 → 0 < s.settings.comp.nMin →
      f.comp.command = 0 ∧ f.comp.stopFor = 0 ∧ f.comp.runFor = s.comp.runFor ∧ f.comp.runWatch = none ∧
        f.comp.speedTimer = none ∧ f.comp.postRun = some (60 * 9600) ∧
        (s.mode.opState = .run → s.defrost.phase ≠ .pending →
          f.comp.fanLevel = if s.arb.grant = none then s.comp.fanLevel else s.condenserLevel)) ∧
    (f.comp.state = .stopped → f.comp.target = if f.runRequest = true then some s.settings.comp.nMin else none) ∧
    (f.comp.state = .faultHold ∨ f.comp.state = .lockout ∨ f.comp.state = .invLost →
      f.comp.target = if f.runRequest = true then some (s.comp.target.getD s.settings.comp.nMin) else none)

/-! ## Invariants that every step keeps -/

/-- The heater is on only in HEAT or SERVICE, and never while the compressor cools through the FZ outlet (R142). -/
def Obligations.StepKeepsHeaterSafe : Prop :=
  ∀ s t : State, s.heaterSafe → step s = .next t → t.heaterSafe

/-- No grant exists while the part is in INIT or SERVICE (R55). -/
def Obligations.StepKeepsGrantInRun : Prop :=
  ∀ s t : State, s.grantInRun → step s = .next t → t.grantInRun

/-- Th stays within 240..5760 (R149); D stays within 0..100 and is 0 while SATISFIED (R41); a zone stands on the waiting list
exactly while it is CALLING, present, enabled and not ISOLATED and does not hold the grant, and never twice (R43, R56, R57); in
HEAT and DRIP FREEZE is held, and while it holds the grant it is not held and no recovery claim is placed (R65, R69, R141). -/
def Obligations.StepKeepsRangesAndList : Prop :=
  ∀ s t : State, step s = .next t →
    (s.thInRange → t.thInRange) ∧ (s.levelsOk → t.levelsOk) ∧ (s.listRule → t.listRule) ∧
    (s.grantInRun → s.claimRule → t.claimRule)

/-- A unit is LOST exactly with 8 or more consecutive failures (R175); an exchange is in flight only in ACTIVE and in the
slot of the schedule, with a level for each bit time of the slot so far, only ACTIVE defers a stop, and only FAULT holds the
levels of the line's last 10 bit times (R166, R167, R172, R179, R180). That the levels of the slot, one for each bit time, and
in FAULT those of the line are what State holds is the model's choice (notes/assumptions/13.md and 35.md). -/
def Obligations.StepKeepsUnitsAndBus : Prop :=
  ∀ s t : State, step s = .next t → (s.unitsOk → t.unitsOk) ∧ (s.busRule → t.busRule)

/-- At most 3 fault entries, and 3 exactly in LOCKOUT (R129); the commanded speed is 0 or a multiple of 50 within the
Nmin..Nmax in force (R115(b), R124). -/
def Obligations.StepKeepsCompressorRules : Prop :=
  ∀ s t : State, step s = .next t → (s.lockoutRule → t.lockoutRule) ∧ (s.speedRule → t.speedRule)

/-- The counter stays within the valve's travel and an unhomed valve makes no move (R92, R98). -/
def Obligations.StepKeepsValveRule : Prop :=
  ∀ s t : State, s.valveRule → step s = .next t → t.valveRule

/-- The state after a hard reset meets every invariant above. -/
def Obligations.ResetMeetsInvariants : Prop :=
  State.reset.heaterSafe ∧ State.reset.grantInRun ∧ State.reset.lockoutRule ∧ State.reset.speedRule ∧
    State.reset.thInRange ∧ State.reset.levelsOk ∧ State.reset.listRule ∧ State.reset.claimRule ∧
    State.reset.unitsOk ∧ State.reset.busRule ∧ State.reset.valveRule

/-! ## Host link -/

/-- The frame of every well-formed request, sent to an open receiver in HUNT outside handling, begins handling with that
request waiting: encoding and reception agree (Table 10-1, R183 to R185, R187, R188, Table 10-5). -/
def Obligations.RequestFrameRoundTrip : Prop :=
  ∀ (i : Instr) (type : Byte) (p : List Byte) (s : State),
    requestParts i = some (type, p) → i.wellFormed = true → s.link.isOpen = true → s.link.handling = false →
      s.link.reply = none → s.link.receiver = .hunt →
      ∃ l : Link, exec (.hostFrameReceived (requestFrame type p)) s = .next { s with link := l } ∧
        l.handling = true ∧ l.receiver = .hunt ∧ l.buffer = type :: p ∧ requestOf type p = i ∧
        l.waitingRequest = some i

/-- A character, by the receiver's state (Table 10-2, R184 to R187): a closed link and a link in handling take none, a
character error drops a partial frame, and HUNT, LENGTH, BODY and CHECK act as their rows say. GAP_TIMEOUT drops a partial
frame that has waited 4 character times, counted in the model's ticks (R186, notes/assumptions/7.md). -/
def Obligations.ReceiverTable : Prop :=
  ∀ (c : RxChar) (s : State),
    let l := s.link
    let dropped : Link := { l with receiver := .hunt, len := 0, buffer := [], gap := 0 }
    (l.receiver ≠ .hunt → 9 ≤ l.gap → exec .gapTimeout s = .next { s with link := dropped }) ∧
    (l.isOpen = false ∨ l.handling = true → exec (.hostCharacterReceived c) s = .next s) ∧
    (l.isOpen = true → l.handling = false →
      (c.stopHigh = false → l.receiver = .hunt → exec (.hostCharacterReceived c) s = .next s) ∧
      (c.stopHigh = false → l.receiver ≠ .hunt →
        exec (.hostCharacterReceived c) s = .next { s with link := dropped }) ∧
      (c.stopHigh = true →
        (l.receiver = .hunt → c.byte ≠ 0xC3 → exec (.hostCharacterReceived c) s = .next s) ∧
        (l.receiver = .hunt → c.byte = 0xC3 →
          exec (.hostCharacterReceived c) s = .next { s with link := { dropped with receiver := .length } }) ∧
        (l.receiver = .length → 1 ≤ c.byte.toNat → c.byte.toNat ≤ 61 →
          exec (.hostCharacterReceived c) s =
            .next { s with link := { l with receiver := .body, len := c.byte.toNat, gap := 0 } }) ∧
        (l.receiver = .length → (c.byte.toNat = 0 ∨ 61 < c.byte.toNat) →
          exec (.hostCharacterReceived c) s = .next { s with link := dropped }) ∧
        (l.receiver = .body →
          exec (.hostCharacterReceived c) s =
            .next
              { s with
                link :=
                  { l with
                    receiver := if l.len ≤ l.buffer.length + 1 then .check else .body
                    buffer := l.buffer ++ [c.byte]
                    gap := 0 } }) ∧
        (l.receiver = .check →
          exec (.hostCharacterReceived c) s =
            .next
              { s with
                link :=
                  if byteSum (BitVec.ofNat 8 l.len :: (l.buffer ++ [c.byte])) = 0 then
                    { l with receiver := .hunt, gap := 0, handling := true }
                  else dropped })))

/-- A request whose TYPE names none is answered with UNKNOWN alone (R188), and a request of the wrong length with BAD_LENGTH
alone (R188, R204); neither changes anything else. -/
def Obligations.RequestsWithoutOwner : Prop :=
  (∀ (type : Byte) (p : List Byte) (s : State), s.taking type p = true → type ∉ requestTypes →
    exec (.unknownRequest type p) s =
      .next (s.answer (hostFrame (if type.toNat < 128 then type + 0x80 else type) [2]))) ∧
  ∀ (i : Instr) (type : Byte) (p : List Byte) (n : Nat) (s : State),
    requestParts i = some (type, p) → (type, n) ∈ payloadLengths → p.length ≠ n → requestOf type p = i →
      s.taking type p = true → exec i s = .next (s.answer (hostFrame (type + 0x80) [3]))

/-- IDENTIFY, ZONE_READ, COMP_READ, ARB_READ, DEFROST_READ and UNIT_READ are answered OK from the state at the taking and
change nothing but the link; a zone number outside 1..4 is refused in ZONE_READ with BAD_VALUE, and an absent zone is read like
the others (R200, R18, R134, R90, R155, R181). The fields after the status are those of Tables 12-1 to 12-6, offset by offset
(R204, R205), with the codes of Table 12-7. An absent context or report is sent item by item (notes/assumptions/20.md). -/
def Obligations.SnapshotsChangeNothing : Prop :=
  (∀ s : State,
    (s.taking 0x01 [] = true →
      exec (.identify []) s = .next (s.answer (hostFrame 0x81 (0 :: identifyFields s)))) ∧
    (∀ z : Zone, s.taking 0x14 [BitVec.ofNat 8 z.number] = true →
      exec (.zoneRead [BitVec.ofNat 8 z.number]) s = .next (s.answer (hostFrame 0x94 (0 :: zoneReadFields z s)))) ∧
    (∀ n : Byte, n.toNat = 0 ∨ 4 < n.toNat → s.taking 0x14 [n] = true →
      exec (.zoneRead [n]) s = .next (s.answer (hostFrame 0x94 [4]))) ∧
    (s.taking 0x21 [] = true → exec (.compRead []) s = .next (s.answer (hostFrame 0xA1 (0 :: compReadFields s)))) ∧
    (s.taking 0x32 [] = true → exec (.arbRead []) s = .next (s.answer (hostFrame 0xB2 (0 :: arbReadFields s)))) ∧
    (s.taking 0x43 [] = true →
      exec (.defrostRead []) s = .next (s.answer (hostFrame 0xC3 (0 :: defrostReadFields s)))) ∧
    (s.taking 0x60 [] = true → exec (.unitRead []) s = .next (s.answer (hostFrame 0xE0 (0 :: unitReadFields s))))) ∧
  (∀ (s : State) (b : Nat → Byte) (w : Nat → List Byte) (temp : Option Int → List Byte),
    b = (fun n => BitVec.ofNat 8 n) → w = (fun n => [b n, b (n / 256)]) →
    temp = (fun o => match o with | some i => w (i % 65536).toNat | none => [0x00, 0x80]) →
    identifyFields s =
      [0x54, 0x01, Config.siliconRevision, b s.mode.opState.byteCode, b s.mode.startCause.byteCode,
        b s.strap.variant.byteCode, b s.strap.result.byteCode, b s.strap.fault.toNat,
        b (3 + 4 * (s.present .flex).toNat + 8 * (s.present .ice).toNat)] ++
        w (((s.mode.serviceTimer.getD 0) + 9599) / 9600) ∧
    (∀ z r q, r = s.zones.get z → q = s.settings.zone.get z →
      zoneReadFields z s =
        [b z.number,
          b ((s.present z).toNat + 2 * q.enabled.toNat + 4 * (decide (r.demand = .calling)).toNat +
            8 * (s.routeAvailable z).toNat + 16 * r.holdDefrost.toNat + 32 * r.holdHarvest.toNat + 64 * r.warm.toNat),
          b (s.serviceMode z).byteCode, b (if z = .flex then s.settings.flexMode.byteCode else 0)] ++
          temp (some q.setpoint) ++ [b q.hu, b q.hd, b q.fs] ++
          temp (if s.present z then (s.sensing.air.get z).filtered else none) ++ [b r.level] ++
          (match r.blind with
          | some x => b (if x.phase = .calling then 1 else 2) :: w ((x.left + 9599) / 9600)
          | none => [0, 0, 0]) ++
          [b ((r.isolation.getD 0 + 575999) / 576000), b r.noProgress]) ∧
    (∀ c p v d f fault, c = s.comp → p = s.settings.comp → v = s.route.valve → d = s.route.dampers → f = s.route.fans →
      fault = (fun o : Option FaultEntry =>
        match o with | some e => w (e.age / 9600) ++ [b e.source.byteCode, e.code] | none => [0, 0, 0, 0]) →
      compReadFields s =
        [b (c.state.byteCode + 16 * s.bus.unit.inverter.state.byteCode), b (c.command / 50), b (c.target.getD 0 / 50),
            b (s.dEff.getD 255)] ++
          w (match s.arb.grant with | some g => (s.settings.timing.get g.zone).speedCap | none => 0) ++
          w (c.runFor / 9600) ++ w (c.stopFor / 9600) ++ w ((p.minOff * 9600 - c.stopFor + 9599) / 9600) ++
          w ((c.hold.getD 0 + 9599) / 9600) ++
          [b (c.runWatch.getD 0 / 9600),
            b (s.minOnMet.toNat + 2 * c.lossMark.toNat + 4 * c.runWatch.isSome.toNat + 8 * c.lastInv.isSome.toNat +
              16 * s.sensing.ambient.state.byteCode + 64 * c.faults.length)] ++
          fault c.faults[0]? ++ fault c.faults[1]? ++ fault c.faults[2]? ++
          (match c.lastInv with
          | some i => [b i.state.byteCode, i.code, i.speedLow, i.speedHigh, i.heatsink]
          | none => [0, 0, 0, 0, 0]) ++
          temp s.sensing.ambient.filtered ++ temp (some s.ambient) ++
          [b c.fanLevel, b ((c.postRun.getD 0 + 9599) / 9600), b (c.serviceSpeed / 50), b (p.nMin / 50), b (p.nMax / 50),
            b (p.ramp / 50)] ++
          w p.minOn ++ w p.minOff ++
          [b (valvePosCode v.target + 4 * valvePosCode v.rest + 16 * v.homing.byteCode + 64 * v.homed.toNat +
              128 * v.move.isSome.toNat),
            b (if v.homed then v.counter else 0), b (min 255 v.outletMoves), b d.flex, b d.ice, b f.freezer.commanded,
            b f.fresh.commanded, b f.condenser.commanded, b f.freezer.output, b f.fresh.output, b f.condenser.output,
            b (f.freezer.stalled.toNat + 2 * f.fresh.stalled.toNat + 4 * f.condenser.stalled.toNat +
              8 * d.confirmed.toNat + 16 * s.route.preFreezer.byteCode + 64 * s.route.preFresh.byteCode)] ∧
        (compReadFields s).length = 59) ∧
    (∀ d p, d = s.defrost → p = s.settings.defrost →
      defrostReadFields s =
        [b d.phase.byteCode] ++ w (d.phaseFor / 9600) ++ w d.credit ++ w d.elapsed ++ w d.th ++ w p.eMax ++ [b p.w] ++
          temp (some p.termTemp) ++ [b p.maxHeat, b p.drip] ++
          (match d.minute with | some m => [b (m.elapsed / 9600), b m.fzRun] | none => [0, 0]) ++
          [b (d.heater.toNat + 2 * ((d.minute.map Minute.door).getD false).toNat + 4 * d.fanBlock.toNat +
              8 * s.arb.claim.toNat + 16 * d.context.isSome.toNat +
              32 * ((d.context.map DefrostContext.blind).getD false).toNat +
              64 * (if d.report = none then 2 else if d.phase = .idle then 0 else 1))] ++
          (match d.context with
          | some c =>
            [b c.cause.byteCode] ++ w c.creditAtStart ++ temp (some c.termTemp) ++ [b c.maxHeat, b c.drip] ++
              w (c.heatFor / 9600) ++ w (c.dripFor / 9600) ++ [b (terminationCode c.termination)] ++ temp c.peak
          | none => [0, 0, 0, 0x00, 0x80, 0, 0, 0, 0, 0, 0, 0xFF, 0x00, 0x80]) ++
          temp s.sensing.frCoil.filtered ++ temp s.sensing.fzCoil.filtered ++
          [b (s.sensing.frCoil.state.byteCode + 16 * s.sensing.fzCoil.state.byteCode)] ++
          (match d.report with
          | some r =>
            [b r.cause.byteCode, b (terminationCode (some r.termination))] ++ w (r.heatFor / 9600) ++
              w (r.dripFor / 9600) ++ temp r.peak ++ w r.creditAtStart ++ w r.thAfter
          | none => [0, 0xFF, 0, 0, 0, 0, 0x00, 0x80, 0, 0, 0, 0]) ∧
        (defrostReadFields s).length = 50) ∧
    (∀ unit : Nat → UnitRec → List Byte,
      unit =
        (fun n u =>
          [b n, b u.state.byteCode, b u.failures, b u.lastError.byteCode] ++
            (match u.payload with
            | some x => b x.length :: (x ++ [0, 0, 0, 0, 0]).take 5
            | none => [0, 0, 0, 0, 0, 0])) →
      unitReadFields s =
        [b s.bus.mode.byteCode, b ((s.bus.position.map Slot.number).getD 0), 8] ++ unit 1 s.bus.unit.inverter ++
          unit 2 s.bus.unit.damper ++ unit 3 s.bus.unit.ice ∧
        (unitReadFields s).length = 33) ∧
    (∀ a p, a = s.arb → p = s.settings.arb →
      arbReadFields s =
        [b s.mode.opState.byteCode, b (idleCode a.idle)] ++ w ((a.parkTimer.getD 0 + 9599) / 9600) ++
          (match a.grant with
          | some g =>
            [b g.zone.number, b g.reason.byteCode, b g.phase.byteCode] ++ w (g.coolingFor / 9600) ++
              w ((g.minLeft + 9599) / 9600) ++ w ((g.maxLeft + 9599) / 9600) ++ temp g.startTemp ++
              [b (g.door.toNat + 2 * g.continuation.toNat), b (s.dEff.getD 0), b (s.serviceMode g.zone).byteCode] ++
              w (s.settings.timing.get g.zone).speedCap
          | none => [0, 0, 0, 0, 0, 0, 0, 0, 0, 0x00, 0x80, 0, 0, 0, 0, 0]) ++
          (match a.lastEnd with | some e => [b e.zone.number, b e.reason.byteCode] | none => [0, 0]) ++
          [b ((decide (s.defrost.phase = .pending)).toNat + 2 * s.compAvailable.toNat + 4 * a.claim.toNat),
            b (match a.p1 with | none => 0 | some (.zone z) => z.number | some .group => 5),
            b ((a.p2.map Zone.number).getD 0),
            b ((decide (s.settings.level.fresh = .group)).toNat + 2 * (decide (s.settings.level.freeze = .group)).toNat +
              4 * (decide (s.settings.level.flex = .group)).toNat +
              8 * (decide (s.settings.level.ice = .group)).toNat)] ++
          (match a.forced with | some f => b f.zone.number :: w ((f.left + 575999) / 576000) | none => [0, 0, 0]) ++
          ([Zone.fresh, .freeze, .flex, .ice].flatMap fun z =>
            [b (((s.zones.get z).isolation.getD 0 + 575999) / 576000), b (s.zones.get z).noProgress]) ++
          [b p.maxWait] ++ w p.parkDelay ++ [b p.parkMode.byteCode, b p.progress, b p.isolationHold, b a.waiting.length] ++
          (a.waiting.flatMap fun e =>
            b (e.zone.number + 64 * (s.aged e).toNat + 128 * (s.selectable e.zone).toNat) :: w (e.waited / 9600)) ∧
        (arbReadFields s).length = 44 + 3 * a.waiting.length)) ∧
  [OpState.init, .run, .service].map OpState.byteCode = [0, 1, 2] ∧
  [StartCause.hardReset, .restart].map StartCause.byteCode = [0, 1] ∧
  [StrapResult.a, .b, .c, .d, .isOpen, .error].map StrapResult.byteCode = [0, 1, 2, 3, 4, 5] ∧
  [Variant.a, .b, .c, .d].map Variant.byteCode = [0, 1, 2, 3] ∧
  [ServiceMode.off, .isolated, .held, .noRoute, .blind, .normal].map ServiceMode.byteCode = [0, 1, 2, 3, 4, 5] ∧
  [GrantReason.rotation, .forced, .aged, .recovery, .regrant].map GrantReason.byteCode = [0, 1, 2, 3, 4] ∧
  [GrantPhase.routing, .cooling].map GrantPhase.byteCode = [0, 1] ∧
  [EndReason.satisfied, .maxDwell, .preempted, .ineligible, .routeFault, .compUnavailable, .service].map
    EndReason.byteCode = [0, 1, 2, 3, 4, 5, 6] ∧
  [some IdleState.inactive, some .runout, some .parkDelay, some .parked, some .rehome, none].map idleCode =
    [0, 1, 2, 3, 4, 0xFF] ∧
  [CompState.stopped, .running, .faultHold, .lockout, .invLost].map CompState.byteCode = [0, 1, 2, 3, 4] ∧
  [FaultSource.inverter, .start].map FaultSource.byteCode = [0, 1] ∧
  [InvState.stopped, .starting, .running, .fault].map InvState.byteCode = [0, 1, 2, 3] ∧
  [ChanState.starting, .valid, .fault, .recovering].map ChanState.byteCode = [0, 1, 2, 3] ∧
  [some ValvePos.closed, some .fr, some .fz, none].map valvePosCode = [0, 1, 2, 3] ∧
  [Homing.none, .homing, .rehome].map Homing.byteCode = [0, 1, 2] ∧
  [PreChill.absent, .running 7, .ended].map PreChill.byteCode = [0, 1, 2] ∧
  [DefrostPhase.idle, .pending, .heat, .drip, .recover].map DefrostPhase.byteCode = [0, 1, 2, 3, 4] ∧
  [DefrostCause.credit, .elapsed, .host].map DefrostCause.byteCode = [0, 1, 2] ∧
  [some Termination.temp, some .time, some .timeBlind, some .abort, none].map terminationCode = [0, 1, 2, 3, 0xFF] ∧
  [DoorState.unread, .closed, .isOpen].map DoorState.byteCode = [0, 1, 2] ∧
  [BusMode.stopped, .active, .fault].map BusMode.byteCode = [0, 1, 2] ∧
  [UnitState.absent, .unknown, .online, .suspect, .lost].map UnitState.byteCode = [0, 1, 2, 3, 4] ∧
  [ErrorKind.none, .echo, .line, .noResponse, .timeout, .framing, .check].map ErrorKind.byteCode = [0, 1, 2, 3, 4, 5, 6] ∧
  [FlexMode.fresh, .chill, .soft, .freeze].map FlexMode.byteCode = [0, 1, 2, 3] ∧
  [ParkMode.close, .hold].map ParkMode.byteCode = [0, 1]

/-- EVENT_MASK by its operation, and its refusals (R191); EVENT_READ, which reports the live and latched parts of the five
sets and clears the latched bits it reports (R192). -/
def Obligations.EventRequests : Prop :=
  (∀ (set : Fin 5) (rise fall : Byte) (s : State),
    let n : Byte := BitVec.ofNat 8 set.val
    let e := s.events.get set.val
    (s.taking 0x50 [n, 0, rise, fall] = true →
      exec (.eventMask [n, 0, rise, fall]) s =
        .next
          (State.answer { s with events := s.events.mapSet set.val (fun e => { e with rise := rise, fall := fall }) }
            (hostFrame 0xD0 [0, n, rise, fall]))) ∧
    (s.taking 0x50 [n, 1, rise, fall] = true →
      exec (.eventMask [n, 1, rise, fall]) s =
        .next
          (State.answer
            { s with
              events :=
                s.events.mapSet set.val (fun e => { e with rise := e.rise ||| rise, fall := e.fall ||| fall }) }
            (hostFrame 0xD0 [0, n, e.rise ||| rise, e.fall ||| fall]))) ∧
    (s.taking 0x50 [n, 2, rise, fall] = true →
      exec (.eventMask [n, 2, rise, fall]) s =
        .next
          (State.answer
            { s with
              events :=
                s.events.mapSet set.val (fun e => { e with rise := e.rise &&& ~~~rise, fall := e.fall &&& ~~~fall }) }
            (hostFrame 0xD0 [0, n, e.rise &&& ~~~rise, e.fall &&& ~~~fall])))) ∧
  (∀ (set op rise fall : Byte) (s : State), s.taking 0x50 [set, op, rise, fall] = true →
    4 < set.toNat ∨ 2 < op.toNat →
      exec (.eventMask [set, op, rise, fall]) s = .next (s.answer (hostFrame 0xD0 [4]))) ∧
  (∀ s : State, s.taking 0x51 [] = true →
    exec (.eventRead []) s =
      .next
        (State.answer
          { s with
            events :=
              ⟨{ s.events.device with latched := 0 }, s.events.zone.map (fun _ e => { e with latched := 0 })⟩ }
          (hostFrame 0xD1
            [0, s.events.device.live, s.events.device.latched, s.events.zone.fresh.live, s.events.zone.fresh.latched,
              s.events.zone.freeze.live, s.events.zone.freeze.latched, s.events.zone.flex.live,
              s.events.zone.flex.latched, s.events.zone.ice.live, s.events.zone.ice.latched])))

/-- The ends of transmissions, each taken once the last byte goes and not before (notes/assumptions/3.md): REPLY_END ends
handling (R187), NOTICE_END returns the transmitter to IDLE or begins a reply that waited for it (R193, R194). NOTICE_START
builds the NOTICE with the count of sets holding latched bits, or drops it where the latch is empty (R193). The transmit line
carries each byte of the frame being sent as a character of a low start bit, 8 data bits least significant first and a high
stop bit, back to back, four bit times to a tick (R183; the tick is the model's, notes/assumptions/1.md). -/
def Obligations.RepliesAndNotices : Prop :=
  ∀ s : State,
    (s.link.transmitter = .sendingReply → s.link.restartDue = false → s.link.sendLeft ≤ 2 →
      exec .replyEnd s =
        .next
          { s with
            link :=
              { s.link with
                handling := false, transmitter := .idle, sending := [], sendLeft := 0, reply := none } }) ∧
    (2 < s.link.sendLeft → exec .replyEnd s = .next s ∧ exec .noticeEnd s = .next s) ∧
    (s.link.transmitter = .sendingNotice → s.link.reply = none → s.link.sendLeft ≤ 2 →
      exec .noticeEnd s = .next { s with link := { s.link with transmitter := .idle, sending := [], sendLeft := 0 } }) ∧
    (∀ frame, s.link.transmitter = .sendingNotice → s.link.reply = some frame → s.link.sendLeft ≤ 2 →
      exec .noticeEnd s =
        .next
          { s with
            link := { s.link with transmitter := .sendingReply, sending := frame, sendLeft := 5 * frame.length } }) ∧
    (s.link.noticePending = true → s.link.transmitter = .idle → s.link.handling = false → s.link.isOpen = true →
      (s.events.latchEmpty = true →
        exec .noticeStart s = .next { s with link := { s.link with noticePending := false } }) ∧
      (s.events.latchEmpty = false →
        ∃ n : Nat, 1 ≤ n ∧ n ≤ 5 ∧ n = s.events.latchedSets ∧
          exec .noticeStart s =
            .next
              { s with
                link :=
                  { s.link with
                    noticePending := false
                    transmitter := .sendingNotice
                    sending := hostFrame 0x7F [BitVec.ofNat 8 n]
                    sendLeft := 25 } })) ∧
    (∀ line : List Bool,
      line =
        (s.link.sending.flatMap fun b =>
          [false, b.getLsbD 0, b.getLsbD 1, b.getLsbD 2, b.getLsbD 3, b.getLsbD 4, b.getLsbD 5, b.getLsbD 6, b.getLsbD 7,
            true]) →
      line.length = 10 * s.link.sending.length ∧
        (s.link.sending = [] → s.link.txLevels = [true, true, true, true]) ∧
        ∀ k, s.link.sendLeft + 2 * k = 5 * s.link.sending.length → 2 ≤ s.link.sendLeft →
          s.link.txLevels = (line.drop (4 * k)).take 4)

/-! ## Start-up, restart and service -/

/-- Classification of a strap code by the windows of Table 1-2, and the result of four (R3). -/
def Obligations.StrapClassification : Prop :=
  (∀ c : Code,
    (c.toNat ≤ 400 → classify c = .a) ∧ (1800 ≤ c.toNat → c.toNat ≤ 2300 → classify c = .b) ∧
      (2950 ≤ c.toNat → c.toNat ≤ 3300 → classify c = .c) ∧ (3600 ≤ c.toNat → c.toNat ≤ 3850 → classify c = .d) ∧
      (4051 ≤ c.toNat → classify c = .isOpen) ∧
      ((401 ≤ c.toNat ∧ c.toNat ≤ 1799) ∨ (2301 ≤ c.toNat ∧ c.toNat ≤ 2949) ∨ (3301 ≤ c.toNat ∧ c.toNat ≤ 3599) ∨
        (3851 ≤ c.toNat ∧ c.toNat ≤ 4050) → classify c = .error)) ∧
  ∀ (c1 c2 c3 c4 : Code) (r : StrapResult),
    (classify c1 = r → classify c2 = r → classify c3 = r → classify c4 = r → strapResult c1 c2 c3 c4 = r) ∧
      ((classify c1 ≠ classify c2 ∨ classify c1 ≠ classify c3 ∨ classify c1 ≠ classify c4) →
        strapResult c1 c2 c3 c4 = .error)

/-- The end of the strap read, 100 ms after the hard reset (R2), settles the variant and begins INIT's work at that event: the
link opens, the first sweep, the homing, the sampling of the doors, each input anew, and the minute period begin, and the bus
is opened with slot 1 (R197). Before that time and after the read the command changes nothing; that it carries the four codes
is the model's (notes/assumptions/4.md). -/
def Obligations.StrapReadSettles : Prop :=
  ∀ (c1 c2 c3 c4 : Code) (s : State),
    (s.strap.reading = none ∨ (∃ x, s.strap.reading = some x ∧ x + 1 < 960) →
      exec (.strapReadComplete c1 c2 c3 c4) s = .next s) ∧
    ∀ x, s.strap.reading = some x → 960 ≤ x + 1 → s.mode.opState = .init → s.bus.mode = .stopped →
      ∃ (t : State) (r : StrapResult), exec (.strapReadComplete c1 c2 c3 c4) s = .next t ∧
        r = strapResult c1 c2 c3 c4 ∧ t.strap = ⟨none, variantOf r, r, decide (r = .isOpen ∨ r = .error)⟩ ∧
        (∀ z, (t.settings.zone.get z).enabled = (variantOf r).has z) ∧
        (∀ u, t.bus.unit.get u = ⟨if (variantOf r).expects u then .unknown else .absent, 0, .none, none⟩) ∧
        t.mode = s.mode ∧ t.link.isOpen = true ∧ t.sensing.next = some (.air .fresh) ∧
        t.sensing.sweepTimer = some 0 ∧ t.route.valve.homing = .homing ∧ t.route.valve.drive = some 0 ∧
        t.route.valve.homed = false ∧ t.doors.sampling = true ∧
        (∀ d, t.doors.door.get d = { s.doors.door.get d with sample := s.doors.input.get d, stable := 0 }) ∧
        t.defrost.minute.isSome = true ∧ t.bus.mode = .active ∧ t.bus.position = some .s1 ∧ t.pending = s.pending

/-- INIT ends at the event that finds the valve homed and at CLOSED and every air channel of a present zone out of STARTING:
RUN, with the arbiter's idle sub-state PARKED, or with the grant of the zone that the first selection names (R198, R83, R63(b));
until then INIT, in which no grant exists (R55), stays. -/
def Obligations.InitEnds : Prop :=
  ∀ s f : State, f = finish s → s.mode.opState = .init →
    ((s.route.valve.homed = true ∧ s.route.valve.counter = 16 ∧ s.route.valve.move = none ∧
        s.route.valve.drive = none ∧ s.route.valve.homing = .none ∧
        ∀ z, s.present z = true → (s.sensing.air.get z).state ≠ .starting) →
      f.mode = { s.mode with opState := .run } ∧
      (s.arb.grant = none → s.route.valve.rehomeAsk = .none → s.route.valve.outletMoves < 100 →
        s.defrost.phase ≠ .pending →
        (s.winner = none → f.arb.grant = none ∧ f.arb.idle = some .parked) ∧
        (∀ z r, s.winner = some (z, r) → State.grantMade s f z r))) ∧
    (s.arb.grant = none →
      (s.route.valve.homed = false ∨ s.route.valve.counter ≠ 16 ∨ s.route.valve.homing ≠ .none ∨
        ∃ z, s.present z = true ∧ (s.sensing.air.get z).state = .starting) →
      f.mode = s.mode ∧ f.arb.grant = none ∧ f.arb.idle = s.arb.idle)

/-- RESTART is accepted with OK and the state at the taking. At the end of its reply it takes effect (R199): INIT with start
cause RESTART and without a service timer; what Table 11-2 keeps is kept, a defrost in progress ends with an ABORT report
(R151), the rest takes its RESTART values, every condition is presented anew, the bus stops at the end of the slot in flight
and opens after it (R180), and INIT's work begins without a strap read (R19, R38, R91, R114, R136, R156, R165, R182, R195). The
order of these is the model's (notes/assumptions/27.md), as is the fan level 0 (25.md). -/
def Obligations.RestartTakesEffect : Prop :=
  (∀ s : State, s.taking 0x02 [] = true →
    exec (.restart []) s =
      .next
        (State.answer { s with link := { s.link with restartDue := true } }
          (hostFrame 0x82 [0, BitVec.ofNat 8 s.mode.opState.byteCode]))) ∧
  ∀ s : State, s.link.transmitter = .sendingReply → s.link.restartDue = true → s.link.sendLeft ≤ 2 →
    ∃ t : State, exec .replyEnd s = .next t ∧
      (t.mode = ⟨.init, .restart, none⟩ ∧ t.strap = s.strap ∧ t.settings = s.settings ∧
        t.zones = PerZone.all ZoneRec.reset ∧ t.service = ⟨.closed, 0, 0, 0, 0, 0, false⟩ ∧ t.pending = s.pending) ∧
      ((∀ ch, t.sensing.get ch = ⟨.starting, [], 0, [], none⟩) ∧ t.sensing.next = some (.air .fresh) ∧
        t.sensing.sweepTimer = some 0 ∧ t.doors.sampling = true ∧ t.doors.input = s.doors.input ∧
        (∀ d, t.doors.door.get d = ⟨.unread, s.doors.input.get d, 0, 0⟩) ∧
        ∀ z, t.doors.zone.get z = ⟨false, 0, false, false⟩) ∧
      (t.arb.grant = none ∧ t.arb.waiting = [] ∧ t.arb.lastEnd = none ∧ t.arb.forced = none ∧ t.arb.claim = false ∧
        t.arb.idle = some .inactive ∧ t.arb.parkTimer = none ∧ t.arb.p1 = none ∧ t.arb.p2 = none) ∧
      (t.route.valve.homing = .homing ∧ t.route.valve.drive = some 0 ∧ t.route.valve.homed = false ∧
        t.route.valve.target = none ∧ t.route.valve.move = none ∧ t.route.valve.rest = none ∧
        t.route.valve.outletMoves = 0 ∧ t.route.dampers = ⟨0, 0, 0, 0, false, false⟩ ∧ t.route.app = none ∧
        t.route.preFreezer = .absent ∧ t.route.preFresh = .absent ∧ ∀ f, t.route.fans.get f = ⟨0, 0, 0, false, none⟩) ∧
      t.comp =
        { s.comp with
          state := if s.comp.state = .running then .stopped else s.comp.state
          command := 0, target := none, runFor := 0
          stopFor := if s.comp.command = 0 then s.comp.stopFor else 0
          speedTimer := none, runWatch := none, lastInv := none, serviceSpeed := 0, fanLevel := 0, postRun := none } ∧
      (t.defrost.phase = .idle ∧ t.defrost.th = s.defrost.th ∧ t.defrost.heater = false ∧ t.defrost.context = none ∧
        t.defrost.fanBlock = false ∧
        (s.defrost.phase = .idle →
          t.defrost.credit = s.defrost.credit ∧ t.defrost.elapsed = s.defrost.elapsed ∧
            t.defrost.phaseFor = s.defrost.phaseFor ∧ t.defrost.report = s.defrost.report ∧
            t.defrost.minute.map Minute.elapsed = s.defrost.minute.map Minute.elapsed) ∧
        (∀ c, s.defrost.phase ≠ .idle → s.defrost.context = some c →
          t.defrost.credit = 0 ∧ t.defrost.elapsed = 0 ∧ t.defrost.phaseFor = 0 ∧
            t.defrost.report =
              some ⟨c.cause, .abort, c.heatFor, c.dripFor, c.peak, c.creditAtStart, s.defrost.th⟩ ∧
            t.defrost.minute.map Minute.elapsed = some 0)) ∧
      ((∀ u, t.bus.unit.get u = ⟨if s.strap.variant.expects u then .unknown else .absent, 0, .none, none⟩) ∧
        (s.bus.mode = .active →
          t.bus = { s.bus with unit := t.bus.unit, deferred := .stopThenOpen }) ∧
        (s.bus.mode ≠ .active →
          t.bus.mode = .active ∧ t.bus.position = some .s1 ∧ t.bus.slotFor = 0 ∧ t.bus.deferred = .none ∧
            t.bus.checkTimer = none ∧ t.bus.line = [] ∧ t.bus.exchange = some ⟨.s1, [0, 0, 0], []⟩)) ∧
      ((∀ e, e = t.events.device →
          e.rise = s.events.device.rise ∧ e.fall = s.events.device.fall ∧ e.latched = (e.live &&& e.rise) ∧
            e.live =
              BitVec.ofNat 8
                (2 * (decide (s.comp.state = .faultHold)).toNat + 4 * (decide (s.comp.state = .lockout)).toNat +
                  32 * s.strap.fault.toNat)) ∧
        (∀ z, t.events.zone.get z = { s.events.zone.get z with live := 0, latched := 0 }) ∧
        t.link = ⟨true, .hunt, 0, [], 0, false, decide (t.events.device.latched ≠ 0), .idle, [], 0, none, false⟩)

/-- SERVICE_ENTER in RUN (R201): SERVICE with 900 s, the grant ended with SERVICE and the waiting list kept, which a holder
that is still a member joins (R79), any defrost ended with an ABORT report (R151), and the entry values of the service
settings; in INIT and SERVICE it is refused with NOT_NOW. -/
def Obligations.ServiceEnter : Prop :=
  ∀ s : State, s.taking 0x70 [] = true →
    (s.mode.opState ≠ .run →
      exec (.serviceEnter []) s = .next (s.answer (hostFrame 0xF0 [5, BitVec.ofNat 8 s.mode.opState.byteCode]))) ∧
    (s.mode.opState = .run →
      ∃ t : State, exec (.serviceEnter []) s = .next (t.answer (hostFrame 0xF0 [0, 2])) ∧
        t.mode = ⟨.service, s.mode.startCause, some (900 * 9600)⟩ ∧ t.arb.grant = none ∧
        t.arb.idle = some .inactive ∧ t.arb.parkTimer = none ∧ t.arb.forced = s.arb.forced ∧
        (∀ g, s.arb.grant = some g → t.arb.lastEnd = some ⟨g.zone, .service⟩) ∧
        (s.relisted = s.arb.waiting →
          (s.arb.grant = none → t.arb.waiting = s.arb.waiting) ∧
          (∀ g, s.arb.grant = some g →
            t.arb.waiting = s.arb.waiting ++ (if s.member g.zone = true then [⟨g.zone, 0⟩] else []))) ∧
        t.comp.serviceSpeed = 0 ∧
        t.service.heater = false ∧ t.service.fanFreezer = 0 ∧ t.service.fanFresh = 0 ∧ t.service.fanCondenser = 0 ∧
        t.service.damperFlex = s.route.dampers.flex ∧ t.service.damperIce = s.route.dampers.ice ∧
        t.route.dampers = s.route.dampers ∧ t.route.valve.target = some t.service.valve ∧
        (s.route.valve.drive ≠ none → t.service.valve = .closed) ∧
        (∀ m, s.route.valve.drive = none → s.route.valve.move = some m → t.service.valve = m.target) ∧
        (∀ p, s.route.valve.drive = none → s.route.valve.move = none → s.route.valve.rest = some p →
          t.service.valve = p) ∧
        t.defrost.phase = .idle ∧ t.defrost.th = s.defrost.th ∧
        (s.defrost.phase = .idle → t.defrost.report = s.defrost.report) ∧
        (s.defrost.phase ≠ .idle → t.defrost.credit = 0 ∧ t.defrost.elapsed = 0 ∧ t.defrost.fanBlock = false) ∧
        (∀ c, s.defrost.phase ≠ .idle → s.defrost.context = some c →
          t.defrost.report =
            some ⟨c.cause, .abort, c.heatFor, c.dripFor, c.peak, c.creditAtStart, s.defrost.th⟩) ∧
        t.settings = s.settings ∧ t.sensing = s.sensing ∧ t.doors = s.doors ∧ t.bus = s.bus ∧ t.pending = s.pending)

/-- SERVICE_OUTPUT in SERVICE stores its eight values, brought into range, sets the timer back to 900 s and hands the damper
and valve targets and the speed to their blocks; its status is CLAMPED where a value was changed, and OK otherwise (R202).
Outside SERVICE it is refused. -/
def Obligations.ServiceOutput : Prop :=
  ∀ (p : List Byte) (s : State), s.taking 0x71 p = true → p.length = 9 →
    (s.mode.opState ≠ .service →
      exec (.serviceOutput p) s = .next (s.answer (replyFrame 0x71 .notNow (serviceOutputFields s)))) ∧
    (s.mode.opState = .service → (2 < u8At p 0 ∨ 1 < u8At p 6) →
      exec (.serviceOutput p) s = .next (s.answer (hostFrame 0xF1 [4]))) ∧
    (s.mode.opState = .service → u8At p 0 ≤ 2 → u8At p 6 ≤ 1 →
      ∃ t : State,
        exec (.serviceOutput p) s =
          .next
            (t.answer
              (replyFrame 0x71
                (if u8At p 1 ≤ 100 ∧ u8At p 2 ≤ 100 ∧ u8At p 3 ≤ 100 ∧ u8At p 4 ≤ 100 ∧ u8At p 5 ≤ 100 ∧
                  t.comp.serviceSpeed = u16At p 7 then .ok
                else .clamped)
                (serviceOutputFields t))) ∧
        t.service =
          ⟨if u8At p 0 = 0 then .closed else if u8At p 0 = 1 then .fr else .fz, min 100 (u8At p 1),
            min 100 (u8At p 2), min 100 (u8At p 3), min 100 (u8At p 4), min 100 (u8At p 5), u8At p 6 = 1⟩ ∧
        t.comp.serviceSpeed =
          (if u16At p 7 = 0 then 0
          else
            let n := max s.settings.comp.nMin (min s.settings.comp.nMax (u16At p 7))
            n - n % 50) ∧
        t.mode = { s.mode with serviceTimer := some (900 * 9600) } ∧
        t.route.dampers.flex = min 100 (u8At p 1) ∧ t.route.dampers.ice = min 100 (u8At p 2) ∧
        (s.route.valve.rehomeAsk = .none → t.route.valve.target = some t.service.valve) ∧
        t.settings = s.settings ∧ t.sensing = s.sensing ∧ t.doors = s.doors ∧ t.bus = s.bus ∧ t.pending = s.pending)

/-- SERVICE_EXIT and the expiry of the service timer leave SERVICE alike: RUN without a timer, the service settings cleared, a
running compressor stopped at once, whatever min-on says; the arbiter in REHOME unless a zone is granted at once, the damper
targets 0 and 0, and the valve rehomed to end at CLOSED (R203, R83). That a drive under way at the exit becomes that rehome, and
how a rehome begins, are the model's choice (notes/assumptions/14.md). -/
def Obligations.ServiceLeft : Prop :=
  ∀ s : State,
    (s.mode.opState ≠ .service → s.taking 0x72 [] = true →
      exec (.serviceExit []) s = .next (s.answer (hostFrame 0xF2 [5, BitVec.ofNat 8 s.mode.opState.byteCode]))) ∧
    (s.mode.opState = .service →
      ∃ t : State,
        (s.taking 0x72 [] = true → exec (.serviceExit []) s = .next (t.answer (hostFrame 0xF2 [0, 1]))) ∧
        (∀ left, s.mode.serviceTimer = some left → left ≤ 1 → exec .serviceTimerExpiry s = .next t) ∧
        t.mode = ⟨.run, s.mode.startCause, none⟩ ∧ t.service = ⟨.closed, 0, 0, 0, 0, 0, false⟩ ∧
        t.comp.serviceSpeed = 0 ∧
        (s.comp.state = .running → 0 < s.settings.comp.minOff → t.comp.state = .stopped ∧ t.comp.command = 0 ∧
          t.comp.stopFor = 0) ∧
        (s.arb.grant = none → s.route.valve.rehomeAsk = .none → s.defrost.phase = .idle →
          (s.route.valve.drive ≠ none → s.route.valve.homing = .rehome) →
          t.route.dampers.flex = 0 ∧ t.route.dampers.ice = 0 ∧ t.route.valve.target = some .closed ∧
          t.route.valve.rehoming = true ∧
          (s.route.valve.move = none → s.route.valve.homing = .none ∨ s.route.valve.drive ≠ none →
            t.route.valve.homing = .rehome ∧ t.route.valve.drive = some (s.route.valve.drive.getD 0) ∧
              t.route.valve.rehomeFinal = .closed) ∧
          (s.route.valve.move ≠ none → s.route.valve.drive = none → s.route.valve.homing ≠ .rehome →
            t.route.valve.move = s.route.valve.move ∧ t.route.valve.rehomeAsk = .toClosed) ∧
          (s.winner = none → t.arb.grant = none ∧ t.arb.idle = some .rehome) ∧
          (∀ z r, s.route.app = none → s.winner = some (z, r) →
            ∃ g, t.arb.grant = some g ∧ g.zone = z ∧ g.reason = r ∧ g.phase = .routing ∧ t.arb.idle = none)) ∧
        t.settings = s.settings ∧ t.sensing = s.sensing ∧ t.doors = s.doors ∧ t.bus = s.bus ∧ t.pending = s.pending)

/-! ## Zone table and sensing -/

/-- The demand state is decided from T and the state held (R40). -/
def Obligations.DemandStateRule : Prop :=
  ∀ (q : ZoneSettings) (t : Int) (held : Demand), 2 ≤ q.hu → 2 ≤ q.hd →
    (q.setpoint + q.hu ≤ t → demandOf q t held = .calling) ∧
      (t ≤ q.setpoint - q.hd → demandOf q t held = .satisfied) ∧
      (q.setpoint - q.hd < t → t < q.setpoint + q.hu → demandOf q t held = held) ∧
      ¬(q.setpoint + q.hu ≤ t ∧ t ≤ q.setpoint - q.hd) ∧ ZoneRec.reset.demand = .satisfied

/-- D from the state just decided; a CALLING zone with D = 0 is a member like any other and has the floor speed (R41). -/
def Obligations.DemandLevelRule : Prop :=
  ∀ (q : ZoneSettings) (t : Int) (held : Demand), 2 ≤ q.hu → 2 ≤ q.hd → 10 ≤ q.fs →
    let d := demandOf q t held
    let numerator := (t - q.setpoint + q.hd) * 100
    levelOf q t .satisfied = 0 ∧ levelOf q t d ≤ 100 ∧
      (d = .calling → (held = .calling ∨ q.setpoint + q.hu ≤ t) → q.setpoint - q.hd < t) ∧
      (numerator ≤ 0 → levelOf q t .calling = 0) ∧
      (0 < numerator → (levelOf q t .calling : Int) = min 100 (numerator / (q.hd + q.fs))) ∧
      (0 < numerator → numerator / (q.hd + q.fs) = Int.tdiv numerator (q.hd + q.fs)) ∧
      (q.hd + q.fs = 250 → t - q.setpoint + q.hd = 1 ∨ t - q.setpoint + q.hd = 2 → levelOf q t .calling = 0) ∧
      (∀ (s : State) (z : Zone) (n : Nat), (s.mapZone z fun r => { r with level := n }).member z = s.member z) ∧
      ∀ (c : CompParams) (cap a : Nat), c.ok → coolingTarget c cap 0 a = c.nMin

/-- A valid code between neighbouring breakpoints of Table 2-3 is converted by straight-line interpolation, rounded toward
the colder breakpoint; the result never reaches the warmer one (R23). -/
def Obligations.TemperatureInterpolates : Prop :=
  ∀ b ∈ ([(-400, 3936, -300, 3814), (-300, 3814, -200, 3627), (-200, 3627, -100, 3367), (-100, 3367, 0, 3037),
      (0, 3037, 100, 2654), (100, 2654, 200, 2248), (200, 2248, 300, 1854), (300, 1854, 400, 1497),
      (400, 1497, 500, 1191)] : List (Int × Int × Int × Int)),
    ∀ c : Int,
      temperature b.2.1 = b.1 ∧ temperature b.2.2.2 = b.2.2.1 ∧
        (b.2.2.2 < c → c ≤ b.2.1 →
          temperature c = b.1 + (b.2.1 - c) * 100 / (b.2.1 - b.2.2.2) ∧ b.1 ≤ temperature c ∧
            temperature c < b.2.2.1)

/-- Codes beyond the ends of the curve are valid readings held at its end temperatures; every valid reading lies within
-400..500, joins the window or the recovery run and does not count toward a fault (R24); SHORT and OPEN codes give none (R22). -/
def Obligations.TemperatureEnds : Prop :=
  ∀ code : Code,
    (3937 ≤ code.toNat → code.toNat ≤ 4050 → reading code = some (-400)) ∧
      (40 ≤ code.toNat → code.toNat ≤ 1190 → reading code = some 500) ∧
      (∀ t, reading code = some t → -400 ≤ t ∧ t ≤ 500 ∧
        ∀ r : ChannelRec, (r.take (some t)).1.invalid = 0 ∧ (r.take (some t)).1.state ≠ .fault ∧
          ((r.take (some t)).1.window.getLast? = some t ∨ (r.take (some t)).1.run.getLast? = some t)) ∧
      (reading code = none ↔ code.toNat < 40 ∨ 4050 < code.toNat)

/-- F is the mean of the window rounded to the nearest step, halves toward the warmer one, and lies between the window's
lowest and highest reading (R27). -/
def Obligations.FilterRounds : Prop :=
  ∀ (w : List Int), w ≠ [] →
    2 * (w.length : Int) * filterOf w ≤ 2 * w.sum + w.length ∧
      2 * w.sum + w.length < 2 * (w.length : Int) * (filterOf w + 1) ∧
      (∀ lo hi : Int, (∀ t ∈ w, lo ≤ t ∧ t ≤ hi) → lo ≤ filterOf w ∧ filterOf w ≤ hi)

/-- A channel's record at a reading, by its state (R25, R26, R28, R29, R31, R32). -/
def Obligations.ChannelTakesReading : Prop :=
  ∀ (r : ChannelRec) (t : Int),
    (r.state = .starting → r.window.length < 3 →
      r.take (some t) = (⟨.starting, r.window ++ [t], 0, [], none⟩, .nothing)) ∧
    (r.state = .starting → r.window.length = 3 →
      r.take (some t) =
        (⟨.valid, r.window ++ [t], 0, [], some (filterOf (r.window ++ [t]))⟩, .value (filterOf (r.window ++ [t])))) ∧
    (r.state = .valid → r.window.length < 8 →
      r.take (some t) =
        (⟨.valid, r.window ++ [t], 0, [], some (filterOf (r.window ++ [t]))⟩, .value (filterOf (r.window ++ [t])))) ∧
    (r.state = .valid → r.window.length = 8 →
      r.take (some t) =
        (⟨.valid, (r.window ++ [t]).drop 1, 0, [], some (filterOf ((r.window ++ [t]).drop 1))⟩,
          .value (filterOf ((r.window ++ [t]).drop 1)))) ∧
    (r.state = .starting ∨ r.state = .valid →
      (r.invalid < 2 → r.take none = ({ r with invalid := r.invalid + 1 }, .nothing)) ∧
        (2 ≤ r.invalid → r.take none = (⟨.fault, [], 0, [], none⟩, .fault))) ∧
    (r.state = .fault → r.take (some t) = (⟨.recovering, [], 0, [t], none⟩, .nothing) ∧ r.take none = (r, .nothing)) ∧
    (r.state = .recovering →
      (r.run.length < 3 → r.take (some t) = (⟨.recovering, [], 0, r.run ++ [t], none⟩, .nothing)) ∧
        (r.run.length = 3 →
          r.take (some t) =
            (⟨.valid, r.run ++ [t], 0, [], some (filterOf (r.run ++ [t]))⟩, .recovery (filterOf (r.run ++ [t])))) ∧
        r.take none = (⟨.fault, [], 0, [], none⟩, .nothing))

/-- SENSING_SWEEP_START begins with channel 1, which every variant has (R21); SENSOR_READING_ARRIVAL gives the reading to its
channel and to no other, and hands the result on. At a present zone's table: an evaluation and the warm comparison at a value
(R39, R52), the calling phase of blind duty at a fault declaration, with the warm timer cleared (R46, R54), the end of blind
duty at a recovery (R48). At the pre-chill record of a grant in COOLING: the comparison of the coil with the granted zone's air
(R108(a); that the arrival which makes a channel VALID is compared is the model's, notes/assumptions/32.md). At the defrost
controller, from the FZ coil: the peak (R145), the TEMP end of HEAT (R143(a)), the blind mark or TIME_BLIND end of a fault
declared in HEAT (R144), and fan release (R147(a), R148); with a drip time of 0 the end of HEAT enters RECOVER at once (R146, R147;
notes/assumptions/33.md). A zone that becomes SATISFIED loses its recovery mark, and the door monitor stands otherwise (R44(c),
R162). `u` is the state after the direct effects. -/
def Obligations.SensingCommands : Prop :=
  (∀ (s : State) (age : Ticks), s.sensing.sweepTimer = some age → 19199 ≤ age →
    exec .sensingSweepStart s =
      .next (finish { s with sensing := { s.sensing with next := some (.air .fresh), sweepTimer := some 0 } })) ∧
  ∀ (ch : Channel) (code : Code) (s : State), s.sensing.next = some ch →
    ∃ u t : State, exec (.sensorReadingArrival ch code) s = .next t ∧ t = finish u ∧
      t.sensing.get ch = ((s.sensing.get ch).take (reading code)).1 ∧
      (∀ ch', ch' ≠ ch → t.sensing.get ch' = s.sensing.get ch') ∧ t.sensing.next = s.sweepAfter ch ∧
      t.sensing.sweepTimer = s.sensing.sweepTimer ∧ t.settings = s.settings ∧ t.strap = s.strap ∧ t.bus = s.bus ∧
      t.service = s.service ∧ t.pending = s.pending ∧ State.doorsFollow s t ∧
      (∀ z, ch ≠ .air z →
        State.sameDemand s t z ∧ (t.zones.get z).blind = (s.zones.get z).blind ∧
          (t.zones.get z).warm = (s.zones.get z).warm) ∧
      (∀ z q, ch = .air z → q = s.settings.zone.get z →
        ∀ warmed : ZoneRec → Int → Prop,
          warmed =
            (fun r f =>
              if q.enabled = false then
                r.warmRunning = (s.zones.get z).warmRunning ∧ r.warmFor = (s.zones.get z).warmFor ∧
                  r.warm = (s.zones.get z).warm
              else
                ∀ w : Int, w = q.setpoint + (match z with | .fresh => 40 | .freeze => 80 | .flex => 50 | .ice => 80) →
                  if f < w - 10 then r.warmRunning = false ∧ r.warmFor = 0 ∧ r.warm = false
                  else
                    r.warmRunning = decide (w ≤ f) ∧ r.warmFor = (s.zones.get z).warmFor ∧
                      r.warm = (s.zones.get z).warm) →
          match ((s.sensing.get ch).take (reading code)).2 with
          | .nothing => State.sameZone s t z
          | .value f =>
            (t.zones.get z).demand = demandOf q f (s.zones.get z).demand ∧
              (t.zones.get z).level = levelOf q f (demandOf q f (s.zones.get z).demand) ∧
              (t.zones.get z).blind = (s.zones.get z).blind ∧ warmed (t.zones.get z) f
          | .fault =>
            (t.zones.get z).demand = .calling ∧ (t.zones.get z).level = 50 ∧
              (t.zones.get z).blind = some ⟨.calling, blindSecs z .calling * 9600⟩ ∧ (t.zones.get z).warm = false ∧
              (t.zones.get z).warmFor = 0 ∧ (t.zones.get z).warmRunning = false
          | .recovery f =>
            (t.zones.get z).demand = demandOf q f (s.zones.get z).demand ∧
              (t.zones.get z).level = levelOf q f (demandOf q f (s.zones.get z).demand) ∧
              (t.zones.get z).blind = none ∧ warmed (t.zones.get z) f) ∧
      (∀ g f, s.arb.grant = some g → g.phase = .cooling →
        ((s.sensing.get ch).take (reading code)).2 = .value f ∨
          ((s.sensing.get ch).take (reading code)).2 = .recovery f →
        (∀ e air, g.zone ≠ .fresh → s.route.preFreezer = .running e → (s.sensing.air.get g.zone).filtered = some air →
          ch = .fzCoil → u.route.preFreezer = if f ≤ air - 30 then .ended else .running e) ∧
        (∀ e coil, g.zone ≠ .fresh → s.route.preFreezer = .running e → s.sensing.fzCoil.filtered = some coil →
          ch = .air g.zone → u.route.preFreezer = if coil ≤ f - 30 then .ended else .running e) ∧
        (∀ e air, g.zone = .fresh → s.route.preFresh = .running e → s.sensing.air.fresh.filtered = some air →
          ch = .frCoil → u.route.preFresh = if f ≤ air - 30 then .ended else .running e) ∧
        (∀ e coil, g.zone = .fresh → s.route.preFresh = .running e → s.sensing.frCoil.filtered = some coil →
          ch = .air .fresh → u.route.preFresh = if coil ≤ f - 30 then .ended else .running e)) ∧
      (ch ≠ .fzCoil → u.defrost = s.defrost) ∧
      (∀ c f, ch = .fzCoil → s.defrost.context = some c →
        ((s.sensing.get ch).take (reading code)).2 = .value f ∨
          ((s.sensing.get ch).take (reading code)).2 = .recovery f →
        ∀ d, d = { c with peak := some (match c.peak with | some p => max p f | none => f) } →
        (s.defrost.phase = .heat → c.blind = true ∨ f < c.termTemp →
          u.defrost = { s.defrost with context := some d }) ∧
        (s.defrost.phase = .heat → c.blind = false → c.termTemp ≤ f →
          (c.drip ≠ 0 →
            u.defrost =
              { s.defrost with
                phase := .drip, phaseFor := 0, context := some { d with termination := some .temp } }) ∧
          (c.drip = 0 → State.recoverEntered s u { d with termination := some .temp })) ∧
        (s.defrost.phase = .drip → u.defrost = { s.defrost with context := some d }) ∧
        (s.defrost.phase = .recover → -100 < f → u.defrost = { s.defrost with context := some d }) ∧
        (∀ e, s.defrost.phase = .recover → f ≤ -100 → c.termination = some e → State.defrostCompleted s u d e)) ∧
      (∀ c, ch = .fzCoil → s.defrost.context = some c → s.defrost.phase = .heat →
        ((s.sensing.get ch).take (reading code)).2 = .fault →
        (c.heatFor < min 1200 (c.maxHeat * 60) * 9600 →
          u.defrost = { s.defrost with context := some { c with blind := true } }) ∧
        (min 1200 (c.maxHeat * 60) * 9600 ≤ c.heatFor →
          (c.drip ≠ 0 →
            u.defrost =
              { s.defrost with
                phase := .drip
                phaseFor := 0
                context := some { c with blind := true, termination := some .timeBlind } }) ∧
          (c.drip = 0 → State.recoverEntered s u { c with blind := true, termination := some .timeBlind })))

/-- ZONE_SET (R15): the checks in order, the four values brought into the ranges of Tables 1-4 and 1-6 (R5 to R7) and R6, stored
together, the demand evaluated at once where a
value has been delivered and the zone is not BLIND (R13, R39(c), R42, R49), with the recovery mark of a zone that becomes
SATISFIED (R44(c), R162), and nothing else of the settings changed. -/
def Obligations.ZoneSet : Prop :=
  ∀ (p : List Byte) (s : State), s.taking 0x10 p = true → p.length = 6 →
    (zoneOf p = none → exec (.zoneSet p) s = .next (s.answer (hostFrame 0x90 [4]))) ∧
    ∀ z, zoneOf p = some z →
      (s.present z = false → exec (.zoneSet p) s = .next (s.answer (hostFrame 0x90 [6]))) ∧
      (s.present z = true → u16At p 1 = 0x8000 → exec (.zoneSet p) s = .next (s.answer (hostFrame 0x90 [4]))) ∧
      (s.present z = true → u16At p 1 ≠ 0x8000 →
        ∀ range : Int × Int,
          range =
            (match z with
            | .fresh => (10, 70)
            | .freeze => (-240, -140)
            | .flex =>
              match s.settings.flexMode with
              | .fresh => (10, 60) | .chill => (-20, 10) | .soft => (-70, -30) | .freeze => (-220, -150)
            | .ice => (-220, -100)) →
        ∃ (t : State) (q : ZoneSettings),
          q =
            { s.settings.zone.get z with
              setpoint := max range.1 (min range.2 (s16At p 1))
              hu := max 2 (min 50 (u8At p 3))
              hd := max 2 (min 50 (u8At p 4))
              fs := max 10 (min 200 (u8At p 5)) } ∧
          exec (.zoneSet p) s =
            .next
              (t.answer
                (replyFrame 0x10
                  (if q.setpoint = s16At p 1 ∧ q.hu = u8At p 3 ∧ q.hd = u8At p 4 ∧ q.fs = u8At p 5 then .ok
                  else .clamped)
                  (putS16 q.setpoint ++ putU8 q.hu ++ putU8 q.hd ++ putU8 q.fs))) ∧
          t.settings = { s.settings with zone := s.settings.zone.set z q } ∧
          (∀ f, (s.sensing.air.get z).filtered = some f → s.blind z = false →
            (t.zones.get z).demand = demandOf q f (s.zones.get z).demand ∧
              (t.zones.get z).level = levelOf q f (demandOf q f (s.zones.get z).demand)) ∧
          ((s.sensing.air.get z).filtered = none ∨ s.blind z = true → State.sameDemand s t z) ∧
          (∀ z', z' ≠ z → State.sameDemand s t z') ∧
          (∀ z', (t.zones.get z').blind = (s.zones.get z').blind ∧
            (t.zones.get z').warmFor = (s.zones.get z').warmFor ∧
            (t.zones.get z').isolation = (s.zones.get z').isolation) ∧
          t.strap = s.strap ∧ t.sensing = s.sensing ∧ t.bus = s.bus ∧ t.service = s.service ∧ t.pending = s.pending ∧
          State.doorsFollow s t)

/-- ZONE_ENABLE (R16, R8): a zone number outside 1..4 or an enable value above 1 is refused with BAD_VALUE, and an absent
zone with NOT_PRESENT; an equal value changes nothing, an enable stores yes, a disable stores no and clears WARM and the warm
timer (R54(c)); the reply carries the field and the service mode after the request. -/
def Obligations.ZoneEnable : Prop :=
  (∀ (n v : Byte) (s : State), n.toNat = 0 ∨ 4 < n.toNat ∨ 1 < v.toNat → s.taking 0x12 [n, v] = true →
    exec (.zoneEnable [n, v]) s = .next (s.answer (hostFrame 0x92 [4]))) ∧
  ∀ (z : Zone) (on : Bool) (s : State),
    let p : List Byte := [BitVec.ofNat 8 z.number, BitVec.ofNat 8 on.toNat]
    s.taking 0x12 p = true →
      (s.present z = false → exec (.zoneEnable p) s = .next (s.answer (hostFrame 0x92 [6]))) ∧
      (s.present z = true →
        ∃ t : State,
          exec (.zoneEnable p) s =
            .next
              (t.answer
                (hostFrame 0x92 [0, BitVec.ofNat 8 on.toNat, BitVec.ofNat 8 (t.serviceMode z).byteCode])) ∧
          ((s.settings.zone.get z).enabled = on → t = s) ∧
          ((s.settings.zone.get z).enabled ≠ on →
            t.settings =
                { s.settings with
                  zone := s.settings.zone.set z { s.settings.zone.get z with enabled := on } } ∧
              (∀ z', State.sameDemand s t z' ∧ (t.zones.get z').blind = (s.zones.get z').blind ∧
                (t.zones.get z').isolation = (s.zones.get z').isolation) ∧
              (on = false → (t.zones.get z).warm = false ∧ (t.zones.get z).warmFor = 0 ∧
                (t.zones.get z).warmRunning = false) ∧
              (on = true → (t.zones.get z).warm = (s.zones.get z).warm) ∧
              t.strap = s.strap ∧ t.sensing = s.sensing ∧ t.doors = s.doors ∧ t.bus = s.bus ∧ t.service = s.service ∧
              t.pending = s.pending))

/-- FLEX_MODE (R17, Table 1-6): a mode code above 3 is refused with BAD_VALUE, and without FLEX every other with NOT_PRESENT;
the mode, its default setpoint, the no-progress count 0 and the evaluation, with the recovery mark of a zone that becomes
SATISFIED (R44(c), R162); the same mode changes nothing. -/
def Obligations.FlexModeSet : Prop :=
  (∀ (n : Byte) (s : State), 3 < n.toNat → s.taking 0x13 [n] = true →
    exec (.flexMode [n]) s = .next (s.answer (hostFrame 0x93 [4]))) ∧
  ∀ (m : FlexMode) (s : State),
    let p : List Byte := [BitVec.ofNat 8 m.byteCode]
    let q : ZoneSettings :=
      { s.settings.zone.flex with
        setpoint := match m with | .fresh => 30 | .chill => -10 | .soft => -50 | .freeze => -180 }
    s.taking 0x13 p = true →
      (s.present .flex = false → exec (.flexMode p) s = .next (s.answer (hostFrame 0x93 [6]))) ∧
      (s.present .flex = true → m = s.settings.flexMode →
        exec (.flexMode p) s = .next (s.answer (replyFrame 0x13 .ok (flexModeFields s)))) ∧
      (s.present .flex = true → m ≠ s.settings.flexMode →
        ∃ t : State,
          exec (.flexMode p) s = .next (t.answer (replyFrame 0x13 .ok (putU8 m.byteCode ++ putS16 q.setpoint))) ∧
          t.settings = { s.settings with flexMode := m, zone := { s.settings.zone with flex := q } } ∧
          t.zones.flex.noProgress = 0 ∧ t.zones.flex.isolation = s.zones.flex.isolation ∧
          t.zones.flex.blind = s.zones.flex.blind ∧ t.zones.flex.holdHarvest = s.zones.flex.holdHarvest ∧
          (∀ f, s.sensing.air.flex.filtered = some f → s.blind .flex = false →
            t.zones.flex.demand = demandOf q f s.zones.flex.demand ∧
              t.zones.flex.level = levelOf q f (demandOf q f s.zones.flex.demand)) ∧
          (s.sensing.air.flex.filtered = none ∨ s.blind .flex = true → State.sameDemand s t .flex) ∧
          (∀ z, z ≠ .flex → State.sameZone s t z) ∧ t.strap = s.strap ∧ t.sensing = s.sensing ∧ t.bus = s.bus ∧
          t.service = s.service ∧ t.pending = s.pending ∧ State.doorsFollow s t)

/-- The zone table's timers: a blind phase gives way to the other with its duration, demand state and D (R47, Table 3-2), and
the recovery mark goes with the transition to SATISFIED (R44(c), R162); the 3600th warm second makes WARM true (R53). -/
def Obligations.ZoneTimers : Prop :=
  ∀ (z : Zone) (s : State),
    (∀ b, (s.zones.get z).blind = some b → b.left ≤ 1 →
      ∃ t : State, exec (.blindPhaseExpiry z) s = .next t ∧
        (b.phase = .calling →
          (t.zones.get z).blind =
              some ⟨.satisfied, (match z with | .fresh => 1800 | .freeze => 1200 | .flex => 1800 | .ice => 1200) * 9600⟩ ∧
            (t.zones.get z).demand = .satisfied ∧ (t.zones.get z).level = 0) ∧
        (b.phase = .satisfied →
          (t.zones.get z).blind =
              some ⟨.calling, (match z with | .fresh => 600 | .freeze => 1200 | .flex => 600 | .ice => 600) * 9600⟩ ∧
            (t.zones.get z).demand = .calling ∧ (t.zones.get z).level = 50) ∧
        (∀ z', z' ≠ z → State.sameZone s t z') ∧ State.sameSetup s t ∧ t.bus = s.bus ∧ State.doorsFollow s t) ∧
    ((s.zones.get z).warmRunning = true → s.zoneDoorOpen z = false → (s.zones.get z).warm = false →
      3600 * 9600 ≤ (s.zones.get z).warmFor + 1 →
        exec (.warmTimerExpiry z) s =
          .next
            (finish
              { s with
                zones := s.zones.set z { s.zones.get z with warmFor := 3600 * 9600, warm := true } }))

/-! ## Cooling arbiter -/

/-- ZONE_TIMING (R86), ARB_SET (R87), DEFROST_SET (R153) and DOOR_SET (R164): the checks in order, the values brought into
range and stored together, and what follows a change of settings. -/
def Obligations.SettingsRequests : Prop :=
  ∀ (p : List Byte) (s : State),
    (s.taking 0x11 p = true → p.length = 5 →
      (zoneOf p = none → exec (.zoneTiming p) s = .next (s.answer (hostFrame 0x91 [4]))) ∧
      ∀ z v, zoneOf p = some z →
        v = ⟨max 1200 (min 5000 (u16At p 1)), max 1 (min 15 (u8At p 3)), max 5 (min 60 (u8At p 4))⟩ →
        (s.present z = false → exec (.zoneTiming p) s = .next (s.answer (hostFrame 0x91 [6]))) ∧
        (s.present z = true → v.maxDwell ≤ v.minDwell →
          exec (.zoneTiming p) s = .next (s.answer (hostFrame 0x91 [4]))) ∧
        (s.present z = true → v.minDwell < v.maxDwell →
          exec (.zoneTiming p) s =
            .next
              ((finish { s with settings := { s.settings with timing := s.settings.timing.set z v } }).answer
                (replyFrame 0x11 (if v = ⟨u16At p 1, u8At p 3, u8At p 4⟩ then .ok else .clamped)
                  (putU16 v.speedCap ++ putU8 v.minDwell ++ putU8 v.maxDwell))))) ∧
    (s.taking 0x30 p = true → p.length = 10 →
      ((1 < u8At p 0 ∨ 1 < u8At p 1 ∨ 1 < u8At p 2 ∨ 1 < u8At p 3 ∨ 1 < u8At p 7) →
        exec (.arbSet p) s = .next (s.answer (hostFrame 0xB0 [4]))) ∧
      (u8At p 0 ≤ 1 → u8At p 1 ≤ 1 → u8At p 2 ≤ 1 → u8At p 3 ≤ 1 → u8At p 7 ≤ 1 →
        ∀ (level : Nat → Level) (v w : ArbParams), level 0 = .l1 → level 1 = .group →
          w = ⟨u8At p 4, u16At p 5, if u8At p 7 = 0 then .close else .hold, u8At p 8, u8At p 9⟩ →
          v =
            ⟨max 10 (min 120 w.maxWait),
              if w.parkDelay = 0 then 0 else if w.parkDelay ≤ 30 then 30 else if w.parkDelay ≤ 120 then 120 else 480,
              w.parkMode, max 1 (min 30 w.progress), max 10 (min 240 w.isolationHold)⟩ →
          exec (.arbSet p) s =
            .next
              ((finish
                    { s with
                      settings :=
                        { s.settings with
                          arb := v
                          level :=
                            ⟨level (u8At p 0), level (u8At p 1), level (u8At p 2), level (u8At p 3)⟩ } }).answer
                (replyFrame 0x30 (if v = w then .ok else .clamped)
                  (putU8 (u8At p 0) ++ putU8 (u8At p 1) ++ putU8 (u8At p 2) ++ putU8 (u8At p 3) ++ putU8 v.maxWait ++
                    putU16 v.parkDelay ++ putU8 (u8At p 7) ++ putU8 v.progress ++ putU8 v.isolationHold))))) ∧
    (s.taking 0x40 p = true → p.length = 9 →
      ∀ (v w : DefrostParams) (th : Nat), w = ⟨u16At p 2, u8At p 4, s16At p 5, u8At p 7, u8At p 8⟩ →
        v =
          ⟨max 1440 (min 10080 w.eMax), min 30 w.w, max 30 (min 150 w.termTemp), max 10 (min 60 w.maxHeat),
            min 15 w.drip⟩ →
        th = max 240 (min 5760 (u16At p 0)) →
        ∀ t,
          t =
            finish
              { s with
                settings := { s.settings with defrost := v }
                defrost := { s.defrost with th := th } } →
          exec (.defrostSet p) s =
            .next
              (t.answer
                (replyFrame 0x40 (if v = w ∧ th = u16At p 0 then .ok else .clamped)
                  (putU16 t.defrost.th ++ putU16 v.eMax ++ putU8 v.w ++ putS16 v.termTemp ++ putU8 v.maxHeat ++
                    putU8 v.drip))) ∧
          (s.defrost.phase ≠ .pending → t.defrost.th = th)) ∧
    (s.taking 0x15 p = true → p.length = 3 →
      ∀ (t : State) (v : DoorParams), v = ⟨max 30 (min 600 (u16At p 0)), min 50 (u8At p 2)⟩ →
        t =
          finish
            { s with
              settings := { s.settings with door := v }
              doors :=
                { s.doors with
                  zone :=
                    s.doors.zone.map fun _ m =>
                      { m with ajar := m.ajar || (m.isOpen && decide (v.ajarDelay * 9600 ≤ m.openFor)) } } } →
        exec (.doorSet p) s =
          .next
            (t.answer
              (replyFrame 0x15 (if v = ⟨u16At p 0, u8At p 2⟩ then .ok else .clamped) (doorSetFields t))) ∧
        (doorSetFields t).length = 27)

/-- FORCE (R88) creates, replaces or removes the record; READMIT (R89) ends an isolation hold and clears the count. What
the change brings, a preemption or an arbitration, is what follows every event. -/
def Obligations.ForceAndReadmit : Prop :=
  ∀ (p : List Byte) (s : State),
    (s.taking 0x31 p = true → p.length = 3 →
      (zoneOf p = none → exec (.force p) s = .next (s.answer (hostFrame 0xB1 [4]))) ∧
      ∀ z, zoneOf p = some z →
        (s.present z = false → exec (.force p) s = .next (s.answer (hostFrame 0xB1 [6]))) ∧
        (s.present z = true → u16At p 1 = 0 →
          exec (.force p) s =
            .next
              ((finish { s with arb := { s.arb with forced := none } }).answer (hostFrame 0xB1 [0, 0, 0, 0]))) ∧
        (s.present z = true → 0 < u16At p 1 →
          exec (.force p) s =
            .next
              ((finish
                    { s with
                      arb := { s.arb with forced := some ⟨z, min 1440 (u16At p 1) * 60 * 9600⟩ } }).answer
                (replyFrame 0x31 (if u16At p 1 ≤ 1440 then .ok else .clamped)
                  (putU8 z.number ++ putU16 (min 1440 (u16At p 1))))))) ∧
    (s.taking 0x33 p = true → p.length = 1 →
      (zoneOf p = none → exec (.readmit p) s = .next (s.answer (hostFrame 0xB3 [4]))) ∧
      ∀ z, zoneOf p = some z →
        (s.present z = false → exec (.readmit p) s = .next (s.answer (hostFrame 0xB3 [6]))) ∧
        (s.present z = true → (s.zones.get z).isolation = none →
          exec (.readmit p) s = .next (s.answer (hostFrame 0xB3 [5, BitVec.ofNat 8 (s.serviceMode z).byteCode]))) ∧
        (s.present z = true → (s.zones.get z).isolation ≠ none →
          ∀ t,
            t = finish { s with zones := s.zones.set z { s.zones.get z with isolation := none, noProgress := 0 } } →
            exec (.readmit p) s =
              .next (t.answer (hostFrame 0xB3 [0, BitVec.ofNat 8 (t.serviceMode z).byteCode]))))

/-- The selection of R64 among waiting zones: recovery claim, forced zone, oldest aged entry, rotation; with the default
levels the rotation walks the rings of Table 4-2 from the entry after P1 and the zone after P2. The pointers are moved first
where a level change has left one in the other ring (R62; when: notes/assumptions/21.md). The winner of the selection that an
event in RUN without a grant makes is granted at that event: the record, the pointers of R61, the route as applied (R103), and
COOLING with its dwell and start temperature where it begins at once (R63(a), R69 to R71). -/
def Obligations.SelectionOrder : Prop :=
  ∀ s : State,
    (s.arb.claim = true → s.waitingSelectable .freeze = true → s.selection none = some (.freeze, .recovery)) ∧
    (s.arb.claim = false ∨ s.waitingSelectable .freeze = false →
      (∀ f, s.arb.forced = some f → s.waitingSelectable f.zone = true → s.selection none = some (f.zone, .forced)) ∧
      ((∀ f, s.arb.forced = some f → s.waitingSelectable f.zone = false) →
        (∀ before w after, s.arb.waiting = before ++ w :: after → s.aged w = true → s.selectable w.zone = true →
          (∀ b ∈ before, ¬(s.aged b = true ∧ s.selectable b.zone = true)) →
          s.selection none = some (w.zone, .aged)) ∧
        ((∀ w ∈ s.arb.waiting, ¬(s.aged w = true ∧ s.selectable w.zone = true)) →
          s.selection none = s.rotation.map (fun z => (z, .rotation)) ∧
            (s.rotation = none ↔ ∀ z, s.waitingSelectable z = false) ∧
            (∀ order, s.settings.level = ⟨.l1, .l1, .group, .group⟩ →
              (s.arb.p1 = none ∨ s.arb.p1 = some .group →
                order = [.fresh, .freeze] ++ (if s.arb.p2 = some .flex then [.ice, .flex] else [.flex, .ice]) →
                s.rotation = order.find? s.waitingSelectable) ∧
              (s.arb.p1 = some (.zone .fresh) →
                order =
                  [Zone.freeze] ++ (if s.arb.p2 = some .flex then [.ice, .flex] else [.flex, .ice]) ++ [.fresh] →
                s.rotation = order.find? s.waitingSelectable) ∧
              (s.arb.p1 = some (.zone .freeze) →
                order = (if s.arb.p2 = some .flex then [.ice, .flex] else [.flex, .ice]) ++ [.fresh, .freeze] →
                s.rotation = order.find? s.waitingSelectable))))) ∧
    (∀ w : Waiting, s.aged w = true ↔ s.settings.arb.maxWait * 60 ≤ w.waited / 9600) ∧
    (∀ (p1 : Option Turn) (p2 : Option Zone),
      p2 =
        (match s.arb.p2 with
        | some z => if s.settings.level.get z = .l1 then none else some z
        | none => none) →
      p1 =
        (match s.arb.p1, s.arb.p2 with
        | some .group, some z => if s.settings.level.get z = .l1 then some (.zone z) else some .group
        | p, _ => p) →
      normalise s =
        { s with
          arb :=
            (match p1 with
            | some (.zone z) =>
              if s.settings.level.get z = .group then { s.arb with p1 := some .group, p2 := some z }
              else { s.arb with p1 := p1, p2 := p2 }
            | _ => { s.arb with p1 := p1, p2 := p2 }) }) ∧
    (∀ z r, s.mode.opState = .run → s.arb.grant = none → s.defrost.phase ≠ .pending → s.winner = some (z, r) →
      State.grantMade s (finish s) z r)

/-- How an event ends the grant it finds in RUN with no defrost PENDING: COMP_UNAVAILABLE, INELIGIBLE and SATISFIED by
R72 to R74, the continuation before min dwell (R72(c)), and preemption by the recovery claim or the forced zone (R68). An end
is recorded, and a holder that is still a member joins the list at the newest end (R79); the selection's winner is granted at
that event, and without one RUNOUT or PARK_DELAY is entered (R80, R81, R106). A grant that goes on begins COOLING when its
route is in place and the compressor commanded on, with the dwell times and the start temperature of that moment, and its
pre-chill record RUNNING at 0 and compared at once (R70, R71, R103, R108). What is kept as the last route and the park mode in
use after an end are the model's readings (notes/assumptions/17.md, 31.md). -/
def Obligations.GrantEnds : Prop :=
  ∀ (s : State) (g : Grant), s.mode.opState = .run → s.arb.grant = some g → s.defrost.phase ≠ .pending →
    (s.compAvailable = false → (finish s).arb.lastEnd = some ⟨g.zone, .compUnavailable⟩ ∧
      State.idleEntered s (finish s)) ∧
    (∀ r,
      (endGrant r s).arb.grant = none ∧ (endGrant r s).arb.lastEnd = some ⟨g.zone, r⟩ ∧
        (endGrant r s).route = { s.route with app := none } ∧
        (s.relisted = s.arb.waiting →
          (endGrant r s).arb.waiting =
            s.arb.waiting ++ (if s.member g.zone = true then [⟨g.zone, 0⟩] else [])) ∧
      (s.endCause g = some r →
        (∀ z q, (endGrant r (relist s)).winner = some (z, q) →
          (finish s).arb.lastEnd = some ⟨g.zone, r⟩ ∧ State.grantMade s (finish s) z q) ∧
        ((endGrant r (relist s)).winner = none →
          (finish s).arb.lastEnd = some ⟨g.zone, r⟩ ∧ State.idleEntered s (finish s)))) ∧
    (s.endCause g =
      if s.compAvailable = false then some .compUnavailable
      else if (s.settings.zone.get g.zone).enabled = false ∨ s.held g.zone = true ∨ s.routeAvailable g.zone = false then
        some .ineligible
      else if (s.zones.get g.zone).demand = .satisfied ∧ (g.phase = .routing ∨ g.minLeft = 0) then some .satisfied
      else none) ∧
    (s.compAvailable = true →
      ((s.settings.zone.get g.zone).enabled = true → s.held g.zone = false → s.routeAvailable g.zone = true →
        ((s.zones.get g.zone).demand = .satisfied → g.phase = .cooling → g.minLeft ≠ 0 →
          (finish s).arb.grant = some { g with continuation := true }) ∧
        ((s.zones.get g.zone).demand = .calling → g.phase = .cooling → g.minLeft ≠ 0 →
          (finish s).arb.grant = some { g with continuation := false }) ∧
        ((s.zones.get g.zone).demand = .calling → g.phase = .routing ∨ g.minLeft = 0 →
          (s.arb.claim = true → s.waitingSelectable .freeze = true → g.zone ≠ .freeze →
            (finish s).arb.lastEnd = some ⟨g.zone, .preempted⟩ ∧ State.grantMade s (finish s) .freeze .recovery) ∧
          (s.arb.claim = false →
            ∀ f, s.arb.forced = some f → s.waitingSelectable f.zone = true → f.zone ≠ g.zone → g.reason ≠ .recovery →
              (finish s).arb.lastEnd = some ⟨g.zone, .preempted⟩ ∧ State.grantMade s (finish s) f.zone .forced) ∧
          (s.arb.claim = false → s.arb.forced = none →
            (finish s).arb.lastEnd = s.arb.lastEnd ∧
              ∃ h, (finish s).arb.grant = some h ∧ h.zone = g.zone ∧ h.reason = g.reason ∧
                (g.phase = .cooling → h = { g with continuation := false }) ∧
                (g.phase = .routing → 0 < s.settings.comp.nMin →
                  (h.phase = .cooling ↔
                    (∃ a, (finish s).route.app = some a ∧ a.inPlace = true) ∧ (finish s).comp.command ≠ 0) ∧
                  (h.phase = .routing → h = { g with continuation := false }) ∧
                  (h.phase = .cooling →
                    h =
                        { g with
                          phase := .cooling
                          minLeft := (s.settings.timing.get g.zone).minDwell * 60 * 9600
                          maxLeft := (s.settings.timing.get g.zone).maxDwell * 60 * 9600
                          startTemp := (s.sensing.air.get g.zone).filtered
                          continuation := false } ∧
                      State.preChillStarted s (finish s) g.zone
                        (if g.zone = .fresh then s.route.preFreezer else s.route.preFresh))) ∧
                (∀ a, s.route.app = some a →
                  (finish s).route.app =
                    some
                      { a with
                        inPlace :=
                          a.inPlace ||
                            ((finish s).route.valve.isAt (if a.zone = .fresh then .fr else .fz) &&
                              (finish s).dampersConfirmed a.zone) })))))

/-- The arbiter's timers at their last tick: min dwell met (R71), the end of an isolation hold (R85), the removal of the
forced-priority record (R66), the end of the park timer with the park mode in use since PARK_DELAY was entered (R81); the
outcome is what follows that change. What follows an event that finds RUNOUT with min-on met, the command at 0 or the
compressor unavailable is PARK_DELAY (R80, R81, R106), and one that finds PARKED with 100 outlet moves begins a rehome whose
final position is by the park mode in use (R82, R99). The model's choices here: the park mode of the rehome (notes/assumptions/31.md),
its drive's counter 0 (10.md), its target and rest position during the drive (14.md), and no last route in PARK_DELAY (17.md). -/
def Obligations.ArbiterTimers : Prop :=
  ∀ s : State,
    (∀ g, s.arb.grant = some g → g.phase = .cooling → g.minLeft = 1 →
      exec .minDwellMet s = .next (finish { s with arb := { s.arb with grant := some { g with minLeft := 0 } } })) ∧
    (∀ z left, (s.zones.get z).isolation = some left → left ≤ 1 →
      exec (.isolationHoldExpiry z) s =
        .next (finish { s with zones := s.zones.set z { s.zones.get z with isolation := none } })) ∧
    (∀ f, s.arb.forced = some f → f.left ≤ 1 →
      exec .forcedRecordExpiry s = .next (finish { s with arb := { s.arb with forced := none } })) ∧
    (∀ left, s.arb.parkTimer = some left → left ≤ 1 → s.arb.idle = some .parkDelay → s.route.valve.outletMoves < 100 →
      (s.arb.parkMode = .hold →
        exec .parkTimerExpiry s =
          .next (finish { s with arb := { s.arb with idle := some .parked, parkTimer := none } })) ∧
      (s.arb.parkMode = .close → s.route.valve.homing = .none → s.route.valve.rehomeAsk = .none →
        s.route.valve.homed = true → s.route.valve.move = none → s.route.valve.drive = none →
          exec .parkTimerExpiry s =
            .next
              (finish
                { s with
                  arb := { s.arb with idle := some .parked, parkTimer := none }
                  route :=
                    { s.route with
                      valve :=
                        { s.route.valve with
                          target := some .closed
                          move := if s.route.valve.counter = 16 then none else some ⟨.closed, 0⟩ } } }))) ∧
    (∀ left, s.arb.parkTimer = some left → left ≤ 1 → s.arb.idle = some .parkDelay → s.arb.grant = none →
      ∃ t : State, exec .parkTimerExpiry s = .next t ∧ t.arb.idle ≠ some .parkDelay) ∧
    (s.mode.opState = .run → s.arb.grant = none → s.defrost.phase ≠ .pending → s.winner = none →
      (s.arb.idle = some .runout → s.comp.command = 0 ∨ s.minOnMet = true ∨ s.compAvailable = false →
        s.settings.arb.parkDelay ≠ 0 → State.parkDelayEntered s (finish s)) ∧
      (s.arb.idle = some .parked → 100 ≤ s.route.valve.outletMoves → s.route.valve.rehoming = false →
        (finish s).arb.grant = none ∧ (finish s).arb.idle = some .rehome ∧
          (s.route.valve.move = none → s.route.valve.drive = none →
            ∀ final, final =
                (match s.arb.parkMode with | .close => .closed | .hold => s.route.valve.rest.getD .closed) →
              (finish s).route.valve =
                ⟨false, 0, some final, none, s.route.valve.rest, s.route.valve.outletMoves, .rehome, some 0, .none,
                  final⟩) ∧
          (∀ m, s.route.valve.move = some m →
            (finish s).route.valve =
              { s.route.valve with
                rehomeAsk := match s.arb.parkMode with | .close => .toClosed | .hold => .toHeld })))

/-- MAX_DWELL_EXPIRY: the no-progress check of R84, and the outcomes of R76 with nobody waiting (REGRANT, which moves the
pointers by R61 and leaves route and pre-chill as they are) and with one selectable zone waiting (the hand-over). -/
def Obligations.MaxDwellExpiry : Prop :=
  ∀ (s : State) (g : Grant), s.arb.grant = some g → g.phase = .cooling → g.maxLeft ≤ 1 →
    ∃ t : State, exec .maxDwellExpiry s = .next t ∧
      (∀ z, z ≠ g.zone → State.sameZone s t z) ∧
      (t.zones.get g.zone).demand = (s.zones.get g.zone).demand ∧
      (t.zones.get g.zone).level = (s.zones.get g.zone).level ∧
      (g.door = true ∨ g.reason = .recovery ∨ g.startTemp = none ∨ (s.sensing.air.get g.zone).filtered = none →
        State.sameZone s t g.zone) ∧
      (∀ a b, g.door = false → g.reason ≠ .recovery → g.startTemp = some a →
        (s.sensing.air.get g.zone).filtered = some b →
        ((s.settings.arb.progress : Int) ≤ a - b →
          (t.zones.get g.zone).noProgress = 0 ∧ (t.zones.get g.zone).isolation = (s.zones.get g.zone).isolation) ∧
        (a - b < (s.settings.arb.progress : Int) → (s.zones.get g.zone).noProgress < 2 →
          (t.zones.get g.zone).noProgress = (s.zones.get g.zone).noProgress + 1 ∧
            (t.zones.get g.zone).isolation = (s.zones.get g.zone).isolation) ∧
        (a - b < (s.settings.arb.progress : Int) → 2 ≤ (s.zones.get g.zone).noProgress →
          (t.zones.get g.zone).noProgress = 0 ∧
            (t.zones.get g.zone).isolation = some (s.settings.arb.isolationHold * 60 * 9600))) ∧
      (s.mode.opState = .run → s.defrost.phase ≠ .pending → s.arb.claim = false → s.arb.forced = none →
        (s.arb.waiting = [] → s.selectable g.zone = true → (t.zones.get g.zone).isolation = none →
          t.arb.lastEnd = some ⟨g.zone, .maxDwell⟩ ∧
            t.arb.grant =
              some
                ⟨g.zone, .regrant, .cooling, 0, 0, (s.settings.timing.get g.zone).maxDwell * 60 * 9600,
                  (s.sensing.air.get g.zone).filtered, s.zoneDoorOpen g.zone, false⟩ ∧
            (s.settings.level.get g.zone = .l1 →
              t.arb.p1 = some (.zone g.zone) ∧ t.arb.p2 = (normalise s).arb.p2) ∧
            (s.settings.level.get g.zone = .group → t.arb.p1 = some .group ∧ t.arb.p2 = some g.zone) ∧
            t.route.dampers = s.route.dampers ∧ t.route.preFreezer = s.route.preFreezer ∧
            t.route.preFresh = s.route.preFresh) ∧
        (∀ w, s.arb.waiting = [w] → s.selectable w.zone = true → w.zone ≠ g.zone →
          t.arb.lastEnd = some ⟨g.zone, .maxDwell⟩ ∧
            State.grantMade s t w.zone
              (if s.settings.arb.maxWait * 60 ≤ w.waited / 9600 then .aged else .rotation)))

/-! ## Route controller -/

/-- The route controller's timed events: the end of a valve move (R95, R96, Table 5-3), the end of the drive against the
stop, in INIT, RUN and SERVICE, where the valve then moves to the target that SERVICE holds (R98, R99, R201, R95), the route
timeout (R104), and pre-chill at 90 s (R108(b)). -/
def Obligations.RouteTimers : Prop :=
  ∀ s : State,
    let v := s.route.valve
    (∀ m, v.move = some m → 239 ≤ m.step → m.target.counter ≤ v.counter + 1 → v.counter ≤ m.target.counter + 1 →
      exec .valveMoveEnd s =
        .next
          (finish
            { s with
              route :=
                { s.route with
                  valve :=
                    { v with
                      counter := match m.target with | .closed => 16 | .fr => 64 | .fz => 112
                      move := none
                      rest := some m.target
                      outletMoves :=
                        if v.rest = none ∨ v.rest = some m.target then v.outletMoves else min 65535 (v.outletMoves + 1)
                      homing := if v.homing = .homing ∧ m.target = .closed then .none else v.homing } } })) ∧
    (∀ d, v.drive = some d → 44159 ≤ d →
      (s.mode.opState = .init → v.homing = .homing →
        exec .homingDriveEnd s =
          .next
            (finish
              { s with
                route :=
                  { s.route with
                    valve :=
                      { v with
                        homed := true, counter := 0, rest := none, outletMoves := 0, drive := none
                        target := some .closed } } })) ∧
      (s.mode.opState = .service → v.homing = .rehome →
        ∃ t : State,
          exec .homingDriveEnd s = .next t ∧
            t =
              finish
                { s with
                  route :=
                    { s.route with
                      valve :=
                        { v with
                          homed := true, counter := 0, rest := none, outletMoves := 0, drive := none
                          homing := .none } } } ∧
            ∀ p, v.target = some p → v.move = none → v.rehomeAsk = .none →
              t.route.valve = ⟨true, 0, some p, some ⟨p, 0⟩, none, 0, .none, none, .none, v.rehomeFinal⟩) ∧
      (s.mode.opState = .run → v.homing = .rehome → v.rehomeAsk = .none →
        (s.arb.grant = none →
          exec .homingDriveEnd s =
            .next
              (finish
                { s with
                  arb := { s.arb with idle := if s.arb.idle = some .rehome then some .parked else s.arb.idle }
                  route :=
                    { s.route with
                      valve :=
                        { v with
                          homed := true, counter := 0, rest := none, outletMoves := 0, drive := none, homing := .none
                          target := some v.rehomeFinal } } })) ∧
        (∀ g, s.arb.grant = some g →
          ∃ u : State, exec .homingDriveEnd s = .next (finish u) ∧ u.arb = s.arb ∧ u.zones = s.zones ∧
            u.settings = s.settings ∧ u.comp = s.comp ∧ u.route.valve.homed = true ∧ u.route.valve.counter = 0 ∧
            u.route.valve.rest = none ∧ u.route.valve.outletMoves = 0 ∧ u.route.valve.homing = .none ∧
            u.route.valve.target = some (if g.zone = .fresh then .fr else .fz) ∧
            (u.route.dampers.flex, u.route.dampers.ice) =
              (match g.zone with | .flex => (100, 0) | .ice => (0, 100) | _ => (0, 0)) ∧
            u.route.preFreezer = .absent ∧ u.route.preFresh = .absent ∧
            u.route.app =
              some
                ⟨g.zone, 0, false, decide (s.route.dampers.flex ≠ u.route.dampers.flex),
                  decide (s.route.dampers.ice ≠ u.route.dampers.ice)⟩))) ∧
    (∀ a g, s.route.app = some a → a.inPlace = false → 20 * 9600 ≤ a.timer + 1 → s.arb.grant = some g →
      ∃ t : State, exec .routeTimeout s = .next t ∧
        (∀ z, State.sameZone s t z) ∧ State.sameSetup s t ∧
        (s.mode.opState = .run → s.defrost.phase ≠ .pending → t.arb.lastEnd = some ⟨g.zone, .routeFault⟩)) ∧
    (∀ g e, s.arb.grant = some g → g.phase = .cooling → g.zone ≠ .fresh → s.route.preFreezer = .running e →
      90 * 9600 ≤ e + 1 →
      exec (.preChillTimeout .freezer) s = .next (finish { s with route := { s.route with preFreezer := .ended } })) ∧
    (∀ g e, s.arb.grant = some g → g.phase = .cooling → g.zone = .fresh → s.route.preFresh = .running e →
      90 * 9600 ≤ e + 1 →
      exec (.preChillTimeout .fresh) s = .next (finish { s with route := { s.route with preFresh := .ended } }))

/-- Tach pulses, stalls and rests of the three fans (R110 to R112). -/
def Obligations.FanCommands : Prop :=
  ∀ (f : Fan) (s : State),
    let r := s.route.fans.get f
    (r.rest ≠ none →
      exec (.tachPulse f) s = .next (finish s) ∧ ((finish s).route.fans.get f).stalled = r.stalled) ∧
    (r.rest = none →
      exec (.tachPulse f) s =
          .next
            (finish
              { s with
                route :=
                  { s.route with
                    fans := s.route.fans.set f { r with watch := 0, stalled := r.stalled && decide (r.output = 0) } } }) ∧
        ∀ t, exec (.tachPulse f) s = .next t → (t.route.fans.get f).stalled = (r.stalled && decide (r.output = 0)) ∧
          (t.route.fans.get f).watch = 0) ∧
    (r.rest = none → 20 ≤ r.output → 10 * 9600 ≤ r.watch + 1 →
      ∃ t : State, exec (.fanStall f) s = .next t ∧ (t.route.fans.get f).stalled = true ∧
        (t.route.fans.get f).rest = some 0 ∧ (t.route.fans.get f).output = 0 ∧ (t.route.fans.get f).watch = 0 ∧
        (∀ f', f' ≠ f → (t.route.fans.get f').stalled = (s.route.fans.get f').stalled ∧
          (t.route.fans.get f').rest = (s.route.fans.get f').rest) ∧
        State.sameSetup s t ∧ t.doors = s.doors ∧ t.bus = s.bus) ∧
    (∀ x, r.rest = some x → 50 * 9600 ≤ x + 1 →
      ∃ t : State, exec (.fanRestEnd f) s = .next t ∧ (t.route.fans.get f).stalled = r.stalled ∧
        (t.route.fans.get f).rest = none ∧
        (t.route.fans.get f).output = (t.route.fans.get f).commanded ∧ (t.route.fans.get f).watch = 0 ∧
        (∀ f', f' ≠ f → (t.route.fans.get f').stalled = (s.route.fans.get f').stalled ∧
          (t.route.fans.get f').rest = (s.route.fans.get f').rest) ∧
        State.sameSetup s t ∧ t.doors = s.doors ∧ t.bus = s.bus)

/-! ## Compressor controller -/

/-- The target speed in COOLING by its four steps; it lies within Nmin..Nmax and is a multiple of 50, a cap below Nmin acts
as Nmin, and a D_eff of 0 gives Nmin (R122). -/
def Obligations.TargetSpeed : Prop :=
  (∀ (c : CompParams) (cap d a : Nat), c.ok → d ≤ 100 →
    let raw := c.nMin + ((c.nMax - c.nMin) * d) / 100 + (if 0 < d then a else 0)
    let lowest := min raw (min cap c.nMax)
    let n := max (lowest - lowest % 50) c.nMin
    coolingTarget c cap d a = n ∧ (c.nMax - c.nMin) * d ≤ 3800 * 100 ∧ c.nMin ≤ n ∧ n ≤ c.nMax ∧ n % 50 = 0 ∧
      (cap ≤ c.nMin → n = c.nMin) ∧ (d = 0 → n = c.nMin)) ∧
  ∀ (s : State) (g : Grant) (d : Nat), s.mode.opState = .run → s.arb.grant = some g → g.phase = .cooling →
    s.dEff = some d →
    s.targetSpeed =
      coolingTarget s.settings.comp (s.settings.timing.get g.zone).speedCap d
        (if 250 < s.ambient then ((s.ambient - 250) * 4).toNat else 0)

/-- D_eff of the holder in the order of R50: D, the door boost, the forced floor of 80, and 0 in the continuation; Ta
with its offset A (R123), and the level of the condenser fan by Ta, 100 % while the ambient channel is not VALID (R132,
Table 6-4). -/
def Obligations.EffectiveDemandAndAmbient : Prop :=
  (∀ (s : State) (g : Grant), s.arb.grant = some g →
    (g.continuation = true → s.dEff = some 0) ∧
    (g.continuation = false →
      ∀ boosted, boosted =
          (if (s.doors.zone.get g.zone).recovery then min 100 ((s.zones.get g.zone).level + s.settings.door.boost)
          else (s.zones.get g.zone).level) →
        (∀ f, s.arb.forced = some f → f.zone = g.zone → s.dEff = some (max 80 boosted)) ∧
        ((∀ f, s.arb.forced = some f → f.zone ≠ g.zone) → s.dEff = some boosted))) ∧
  (∀ s : State,
    (∀ f, s.sensing.ambient.state = .valid → s.sensing.ambient.filtered = some f →
      s.ambient = min f 500 ∧
        (f ≤ 250 → s.condenserLevel = 40) ∧ (400 ≤ f → s.condenserLevel = 100) ∧
        (250 < f → f < 400 →
          (s.condenserLevel : Int) = 40 + ((f - 250) * 60) / 150 ∧ 40 ≤ s.condenserLevel ∧ s.condenserLevel < 100)) ∧
      (s.sensing.ambient.state ≠ .valid → s.ambient = 320 ∧ s.condenserLevel = 100)) ∧
  (∀ ta : Int, ta ≤ 500 →
    (250 < ta → (ambientOffset ta : Int) = (ta - 250) * 4) ∧ (ta ≤ 250 → ambientOffset ta = 0) ∧ ambientOffset ta ≤ 1000)

/-- COMP_SET (R133) and CLEAR_LOCKOUT (R135). -/
def Obligations.CompressorRequests : Prop :=
  ∀ (p : List Byte) (s : State),
    (s.taking 0x20 p = true → p.length = 10 →
      ∀ v w : CompParams, w = ⟨u16At p 0, u16At p 2, u16At p 4, u16At p 6, u16At p 8⟩ →
        v =
          ⟨(max 1200 (min 5000 w.nMin)) / 50 * 50, (max 1200 (min 5000 w.nMax)) / 50 * 50,
            (max 50 (min 1000 w.ramp)) / 50 * 50, max 60 (min 600 w.minOn), max 180 (min 900 w.minOff)⟩ →
        (v.nMax < v.nMin + 200 → exec (.compSet p) s = .next (s.answer (hostFrame 0xA0 [4]))) ∧
        (v.nMin + 200 ≤ v.nMax →
          v.ok ∧
          ∀ t,
            t =
              finish
                (recompute
                  { s with
                    settings := { s.settings with comp := v }
                    comp :=
                      { s.comp with
                        command := if s.comp.command = 0 then 0 else max v.nMin (min v.nMax s.comp.command) } }) →
            exec (.compSet p) s =
              .next
                (t.answer
                  (replyFrame 0x20 (if v = w then .ok else .clamped)
                    (putU16 v.nMin ++ putU16 v.nMax ++ putU16 v.ramp ++ putU16 v.minOn ++ putU16 v.minOff ++
                      putU16 t.comp.command))))) ∧
    (s.taking 0x22 [] = true →
      (s.comp.state ≠ .lockout →
        exec (.clearLockout []) s = .next (s.answer (hostFrame 0xA2 [5, BitVec.ofNat 8 s.comp.state.byteCode]))) ∧
      (s.comp.state = .lockout →
        ∀ t,
          t =
            finish
              { s with
                comp := { s.comp with state := if s.comp.lossMark then .invLost else .stopped, faults := [] } } →
          exec (.clearLockout []) s = .next (t.answer (hostFrame 0xA2 [0, BitVec.ofNat 8 t.comp.state.byteCode]))))

/-- A recomputation while RUNNING: an increase is limited by the ramp, a fall is taken at once, the speed period starts anew
and the condenser fan's level is decided; SPEED_PERIOD_EXPIRY makes one (R121, R124, R132). The other timers: min-off and
min-on reached (R119, R120), the fault hold's end (R130), the oldest entry's leaving (R129), the end of the post-run
(R132). -/
def Obligations.CompressorTimers : Prop :=
  ∀ s : State,
    (s.comp.state ≠ .running → recompute s = s) ∧
    (s.comp.state = .running →
      recompute s =
          { s with
            comp :=
              { s.comp with
                target := some s.targetSpeed
                command :=
                  if s.comp.command < s.targetSpeed then min s.targetSpeed (s.comp.command + s.settings.comp.ramp)
                  else s.targetSpeed
                speedTimer := some 0
                fanLevel := s.condenserLevel } } ∧
        (∀ x, s.comp.speedTimer = some x → 10 * 9600 ≤ x + 1 →
          exec .speedPeriodExpiry s = .next (finish (recompute s)))) ∧
    (s.comp.stopFor + 1 = s.settings.comp.minOff * 9600 →
      exec .minOffElapsed s = .next (finish { s with comp := { s.comp with stopFor := s.settings.comp.minOff * 9600 } })) ∧
    (s.comp.state = .running → s.comp.runFor + 1 = s.settings.comp.minOn * 9600 →
      exec .minOnMet s = .next (finish { s with comp := { s.comp with runFor := s.settings.comp.minOn * 9600 } })) ∧
    (∀ left, s.comp.state = .faultHold → s.comp.hold = some left → left ≤ 1 →
      exec .faultHoldExpiry s =
        .next
          (finish
            { s with
              comp := { s.comp with state := if s.comp.lossMark then .invLost else .stopped, hold := none } })) ∧
    (∀ e rest, s.comp.faults = e :: rest → s.comp.state ≠ .lockout → 3600 * 9600 ≤ e.age + 1 →
      exec .faultEntryAgeOut s = .next (finish { s with comp := { s.comp with faults := rest } })) ∧
    (∀ e rest, s.comp.faults = e :: rest → s.comp.state = .lockout → exec .faultEntryAgeOut s = .next s) ∧
    (∀ left, s.comp.postRun = some left → left ≤ 1 →
      exec .postRunExpiry s = .next (finish { s with comp := { s.comp with postRun := none } }))

/-- RUN_WATCH_EXPIRY takes a start failure (R127) with the steps of R128: command and stop seconds 0, the entry added,
FAULT_HOLD for 300 s or LOCKOUT at the third entry, and the end of a grant with COMP_UNAVAILABLE. That the run seconds stand as
they were is the model's reading, for which R128 gives no value (notes/assumptions/25.md). -/
def Obligations.StartFailure : Prop :=
  ∀ (s : State) (x : Ticks), s.comp.runWatch = some x → 30 * 9600 ≤ x + 1 → s.compAvailable = true →
    ∃ t : State, exec .runWatchExpiry s = .next t ∧ t.comp.command = 0 ∧ t.comp.stopFor = 0 ∧ t.comp.runWatch = none ∧
      t.comp.speedTimer = none ∧ t.comp.target = none ∧ t.comp.faults = s.comp.faults ++ [⟨0, .start, 0⟩] ∧
      (s.comp.faults.length < 2 → t.comp.state = .faultHold ∧ t.comp.hold = some (300 * 9600)) ∧
      (2 ≤ s.comp.faults.length → t.comp.state = .lockout ∧ t.comp.hold = none) ∧
      t.comp.postRun = (if s.comp.command = 0 then s.comp.postRun else some (60 * 9600)) ∧
      t.comp.serviceSpeed = (if s.mode.opState = .service then 0 else s.comp.serviceSpeed) ∧
      t.comp.runFor = s.comp.runFor ∧ t.comp.lastInv = s.comp.lastInv ∧ t.comp.lossMark = s.comp.lossMark ∧
      (∀ g, s.mode.opState = .run → s.arb.grant = some g →
        t.arb.grant = none ∧ t.arb.lastEnd = some ⟨g.zone, .compUnavailable⟩) ∧
      State.sameSetup s t ∧ t.doors = s.doors ∧ t.bus = s.bus ∧ ∀ z, State.sameZone s t z

/-! ## Defrost controller -/

/-- MINUTE_EVALUATION: C and E, the triggers in RUN, and a new minute otherwise (R138, R139). -/
def Obligations.MinuteEvaluation : Prop :=
  ∀ (s : State) (m : Minute), s.defrost.minute = some m → s.defrost.phase = .idle → 60 * 9600 ≤ m.elapsed + 1 →
    ∀ (c e seconds : Nat) (p : DefrostParams), p = s.settings.defrost →
      seconds = m.fzRun + (if m.unbroken = true ∧ s.fzRunning = true then 1 else 0) →
      c = min 65535 (s.defrost.credit + (if 30 ≤ seconds then 1 else 0) + (if m.door = true then p.w else 0)) →
      e = min 65535 (s.defrost.elapsed + 1) →
      (∀ cause,
        s.mode.opState = .run →
        (s.defrost.th ≤ c ∧ cause = .credit ∨ c < s.defrost.th ∧ p.eMax ≤ e ∧ cause = .elapsed) →
        exec .minuteEvaluation s =
          .next
            (finish
              { s with
                defrost :=
                  { s.defrost with
                    credit := c
                    elapsed := e
                    phase := .pending
                    phaseFor := 0
                    minute := none
                    context := some ⟨cause, c, p.termTemp, p.maxHeat, p.drip, 0, 0, none, false, none⟩ } })) ∧
      (s.mode.opState ≠ .run ∨ c < s.defrost.th ∧ e < p.eMax →
        exec .minuteEvaluation s =
          .next
            (finish
              { s with
                defrost :=
                  { s.defrost with
                    credit := c
                    elapsed := e
                    minute :=
                      some
                        ⟨0, 0, s.fzRunning,
                          decide ((s.doors.door.get .freeze).state = .isOpen) ||
                            (s.present .flex && decide ((s.doors.door.get .flex).state = .isOpen))⟩ } }))

/-- DEFROST_START (R154) and the entry to HEAT with the FZ outlet free: blind with the coil not VALID, else with its F as the peak,
and the TEMP end of a coil already warm (R139 to R141, R143, R144), which a drip time of 0 carries on to RECOVER (R146, R147).
PENDING waits while a grant of an FZ-outlet zone exists, or RUNOUT at the FZ outlet (R140). DEFROST_ABORT by phase (R150);
notes/assumptions/33.md for the release at the entry to RECOVER. -/
def Obligations.DefrostRequests : Prop :=
  ∀ s : State,
    (s.taking 0x41 [] = true →
      (¬(s.mode.opState = .run ∧ s.defrost.phase = .idle) →
        exec (.defrostStart []) s = .next (s.answer (hostFrame 0xC1 [5, BitVec.ofNat 8 s.defrost.phase.byteCode]))) ∧
      (s.mode.opState = .run → s.defrost.phase = .idle →
        ∃ t : State, exec (.defrostStart []) s =
            .next (t.answer (hostFrame 0xC1 [0, BitVec.ofNat 8 t.defrost.phase.byteCode])) ∧
          State.sameSetup s t ∧ t.doors = s.doors ∧ t.bus = s.bus ∧ (∀ z, State.sameDemand s t z) ∧
          ((∀ g, s.arb.grant = some g → g.zone = .fresh) → (∀ a, s.route.app = some a → a.zone = .fresh) →
            (s.arb.idle = some .runout → ∀ z, s.arb.lastRoute = some z → z = .fresh) →
            ∀ (p : DefrostParams) (began : DefrostPhase → Option Termination → Bool → Option Int → Prop),
            p = s.settings.defrost →
            began =
              (fun phase ended blind peak =>
                t.defrost.phase = phase ∧ t.defrost.phaseFor = 0 ∧ t.defrost.minute = none ∧ t.defrost.fanBlock = true ∧
                  t.defrost.credit = s.defrost.credit ∧ t.defrost.elapsed = s.defrost.elapsed ∧
                  t.defrost.th = s.defrost.th ∧ t.defrost.report = s.defrost.report ∧
                  t.defrost.context =
                    some ⟨.host, s.defrost.credit, p.termTemp, p.maxHeat, p.drip, 0, 0, ended, blind, peak⟩ ∧
                  ∀ z, z ≠ .fresh → (t.zones.get z).holdDefrost = (s.present z && decide (phase ≠ .recover))) →
            (s.sensing.fzCoil.state ≠ .valid → began .heat none true none) ∧
            (∀ f, s.sensing.fzCoil.state = .valid → s.sensing.fzCoil.filtered = some f →
              (f < p.termTemp → began .heat none false (some f)) ∧
              (p.termTemp ≤ f → p.drip ≠ 0 → began .drip (some .temp) false (some f)) ∧
              (p.termTemp ≤ f → p.drip = 0 → -100 < f → began .recover (some .temp) false (some f) ∧
                (s.settings.zone.freeze.enabled = true →
                  t.arb.claim = true ∨ ∃ g, t.arb.grant = some g ∧ g.zone = .freeze ∧ g.reason = .recovery)))))) ∧
    (s.defrost.phase = .pending → s.mode.opState = .run →
      (∀ g, s.arb.grant = some g → g.zone ≠ .fresh → s.endCause g = none → s.arb.claim = false → s.arb.forced = none →
        0 < s.settings.comp.nMin →
        (finish s).defrost.phase = .pending ∧ (finish s).defrost.context = s.defrost.context ∧
          ∃ h, (finish s).arb.grant = some h ∧ h.zone = g.zone) ∧
      (∀ z, s.arb.grant = none → s.arb.idle = some .runout → s.arb.lastRoute = some z → z ≠ .fresh → s.winner = none →
        s.comp.state = .running → s.comp.command ≠ 0 → s.minOnMet = false →
        (finish s).defrost.phase = .pending ∧ (finish s).defrost.context = s.defrost.context ∧
          (finish s).arb.grant = none ∧ (finish s).arb.idle = some .runout ∧ (finish s).arb.lastRoute = some z) ∧
      ((finish s).defrost.phase = .pending → 0 < s.settings.comp.nMin → (s.comp.command ≠ 0 → s.comp.state = .running) →
        (∃ g, (finish s).arb.grant = some g ∧ g.zone ≠ .fresh) ∨
          (finish s).arb.idle = some .runout ∧ ∃ z, (finish s).arb.lastRoute = some z ∧ z ≠ .fresh)) ∧
    (s.taking 0x42 [] = true →
      (s.defrost.phase ≠ .pending → s.defrost.phase ≠ .heat →
        exec (.defrostAbort []) s = .next (s.answer (hostFrame 0xC2 [5, BitVec.ofNat 8 s.defrost.phase.byteCode]))) ∧
      (∀ c, s.defrost.phase = .pending → s.defrost.context = some c →
        ∃ t : State, exec (.defrostAbort []) s = .next (t.answer (hostFrame 0xC2 [0, 0])) ∧
          t.defrost.phase = .idle ∧ t.defrost.phaseFor = 0 ∧ t.defrost.credit = 0 ∧ t.defrost.elapsed = 0 ∧
          t.defrost.th = s.defrost.th ∧ t.defrost.context = none ∧ t.defrost.minute.isSome = true ∧
          t.defrost.report =
            some ⟨c.cause, .abort, c.heatFor, c.dripFor, c.peak, c.creditAtStart, s.defrost.th⟩ ∧
          State.sameSetup s t) ∧
      (∀ c, s.defrost.phase = .heat → s.defrost.context = some c → c.drip ≠ 0 →
        ∃ t : State, exec (.defrostAbort []) s = .next (t.answer (hostFrame 0xC2 [0, 3])) ∧
          t.defrost =
            { s.defrost with
              phase := .drip
              phaseFor := 0
              heater := t.defrost.heater
              minute := t.defrost.minute
              context := some { c with termination := some .abort } } ∧
          State.sameSetup s t) ∧
      (∀ c, s.defrost.phase = .heat → s.defrost.context = some c → c.drip = 0 →
        ∃ u : State,
          exec (.defrostAbort []) s =
              .next
                ((finish u).answer (hostFrame 0xC2 [0, BitVec.ofNat 8 (finish u).defrost.phase.byteCode])) ∧
            State.recoverEntered s u { c with termination := some .abort } ∧
            u = { s with zones := u.zones, arb := u.arb, defrost := u.defrost }))

/-- The ends of HEAT by time (R143(b), R144), with the entry to DRIP, which a drip time of 0 ends at once (R146); of DRIP
(R146), with the entry to RECOVER and its release test on a VALID coil (R147; notes/assumptions/33.md); and of RECOVER by time,
with the adaptation of Th and the report (R147 to R149, R152). `u` is the state before what follows the event. -/
def Obligations.DefrostPhases : Prop :=
  ∀ (s : State) (c : DefrostContext), s.defrost.context = some c →
    ∀ within : State → Prop, within = (fun u => u = { s with zones := u.zones, arb := u.arb, defrost := u.defrost }) →
    (s.defrost.phase = .heat →
      ∀ (i : Instr) (limit : Nat) (e : Termination),
        i = .maxHeatExpiry ∧ c.blind = false ∧ limit = c.maxHeat * 60 ∧ e = .time ∨
          i = .timeBlindExpiry ∧ c.blind = true ∧ limit = min 1200 (c.maxHeat * 60) ∧ e = .timeBlind →
        (c.heatFor + 1 < limit * 9600 → exec i s = .next s) ∧
        ∀ d, limit * 9600 = c.heatFor + 1 → d = { c with heatFor := c.heatFor + 1, termination := some e } →
          (c.drip ≠ 0 →
            ∃ t : State, exec i s = .next t ∧ t.defrost.phase = .drip ∧ t.defrost.phaseFor = 0 ∧
              t.defrost.fanBlock = s.defrost.fanBlock ∧ t.defrost.th = s.defrost.th ∧ t.defrost.context = some d ∧
              State.sameSetup s t ∧ ∀ z, State.sameDemand s t z) ∧
          (c.drip = 0 → ∃ u : State, exec i s = .next (finish u) ∧ State.recoverEntered s u d ∧ within u)) ∧
    (s.defrost.phase = .drip → c.drip * 60 * 9600 = c.dripFor + 1 →
      ∃ u t : State, exec .dripEnd s = .next t ∧ t = finish u ∧ within u ∧
        State.recoverEntered s u { c with dripFor := c.dripFor + 1 } ∧
        (∀ z, z ≠ .fresh → (t.zones.get z).holdDefrost = false) ∧
        ((s.sensing.fzCoil.state = .valid → ∀ f, s.sensing.fzCoil.filtered = some f → -100 < f) →
          t.defrost.phase = .recover ∧ t.defrost.phaseFor = 0 ∧ t.defrost.fanBlock = s.defrost.fanBlock ∧
            t.defrost.context = some { c with dripFor := c.dripFor + 1 } ∧
            (s.settings.zone.freeze.enabled = true →
              t.arb.claim = true ∨ ∃ g, t.arb.grant = some g ∧ g.zone = .freeze ∧ g.reason = .recovery)) ∧
        State.sameSetup s t ∧ ∀ z, State.sameDemand s t z) ∧
    (∀ e, s.defrost.phase = .recover → 240 * 9600 ≤ s.defrost.phaseFor + 1 → c.termination = some e →
      ∃ u t : State, exec .fanReleaseTimeout s = .next t ∧ t = finish u ∧ within u ∧ u.zones = s.zones ∧
        State.defrostCompleted s u c e ∧ t.defrost.phase = .idle ∧ t.defrost.credit = 0 ∧
        t.defrost.elapsed = 0 ∧ t.defrost.fanBlock = false ∧ t.defrost.context = none ∧ t.defrost.phaseFor = 0 ∧
        t.defrost.minute.isSome = true ∧ t.arb.claim = false ∧
        t.defrost.report = some ⟨c.cause, e, c.heatFor, c.dripFor, c.peak, c.creditAtStart, t.defrost.th⟩ ∧
        (e = .time → t.defrost.th = max 240 (s.defrost.th / 2)) ∧
        (e = .temp → c.heatFor < 720 * 9600 → t.defrost.th = min 5760 (s.defrost.th + s.defrost.th / 4)) ∧
        (e = .temp → 720 * 9600 ≤ c.heatFor → t.defrost.th = s.defrost.th) ∧
        (e = .timeBlind ∨ e = .abort → t.defrost.th = s.defrost.th) ∧
        State.sameSetup s t ∧ ∀ z, State.sameDemand s t z)

/-! ## Door monitor -/

/-- Openings, closings and first readings (R158 to R160, R162, R138(b)), and the ajar flag (R161). An event takes place with
the input stable for 100 ms, in the door state it leaves; before that the command only brings the pin's level, and another
level restarts the count (R158, R165). The count advances with each tick, and the tick that completes it raises the event; that
the commands carry the pin's level is the model's (notes/assumptions/12.md). `u` is the state after the direct effects. -/
def Obligations.DoorCommands : Prop :=
  ∀ (d : Door) (s : State) (r : DoorRec), r = s.doors.door.get d →
    (s.doors.sampling = true → r.state = .closed → r.sample = true → 959 ≤ r.stable →
      ∃ u : State, exec (.doorOpening d) s = .next (finish u) ∧ u.doors.door.get d = ⟨.isOpen, true, 960, 0⟩ ∧
        u.doors.input = s.doors.input.set d true ∧ u.doors.sampling = true ∧
        (∀ d', d' ≠ d → u.doors.door.get d' = s.doors.door.get d') ∧
        (∀ z, s.present z = true → d ∈ z.doors →
          u.doors.zone.get z =
            { s.doors.zone.get z with
              isOpen := true
              openFor := if (s.doors.zone.get z).isOpen then (s.doors.zone.get z).openFor else 0 }) ∧
        (∀ z, s.present z = false ∨ d ∉ z.doors → u.doors.zone.get z = s.doors.zone.get z) ∧
        u.arb =
          { s.arb with grant := s.arb.grant.map fun g => { g with door := g.door || decide (d ∈ g.zone.doors) } } ∧
        u.defrost =
          { s.defrost with
            minute :=
              s.defrost.minute.map fun m =>
                { m with door := m.door || decide (d = .freeze) || (decide (d = .flex) && s.present .flex) } } ∧
        u.zones = s.zones ∧ u.comp = s.comp ∧ u.route = s.route ∧ State.sameSetup s u) ∧
    (s.doors.sampling = true → r.state = .isOpen → r.sample = false → 959 ≤ r.stable →
      ∃ u : State, exec (.doorClosing d) s = .next (finish u) ∧ u.doors.door.get d = ⟨.closed, false, 960, 0⟩ ∧
        u.doors.input = s.doors.input.set d false ∧ u.doors.sampling = true ∧
        (∀ d', d' ≠ d → u.doors.door.get d' = s.doors.door.get d') ∧
        (∀ z, s.present z = true → d ∈ z.doors →
          ((∃ d' ∈ z.doors, d' ≠ d ∧ (s.doors.door.get d').state = .isOpen) → (s.doors.zone.get z).isOpen = true →
            u.doors.zone.get z = s.doors.zone.get z) ∧
          ((∀ d' ∈ z.doors, d' ≠ d → (s.doors.door.get d').state ≠ .isOpen) → (s.doors.zone.get z).isOpen = true →
            u.doors.zone.get z =
              ⟨false, 0, false,
                (s.doors.zone.get z).recovery || decide (30 * 9600 ≤ (s.doors.zone.get z).openFor)⟩)) ∧
        (∀ z, s.present z = false ∨ d ∉ z.doors → u.doors.zone.get z = s.doors.zone.get z) ∧
        u = { s with doors := u.doors }) ∧
    (∀ isOpen : Bool, s.doors.sampling = true → r.state = .unread → r.sample = isOpen → 959 ≤ r.stable →
      ∃ u : State, exec (.doorFirstReading d isOpen) s = .next (finish u) ∧
        u.doors.door.get d = ⟨if isOpen then .isOpen else .closed, isOpen, 960, 0⟩ ∧
        u.doors.input = s.doors.input.set d isOpen ∧ u.doors.sampling = true ∧
        (∀ d', d' ≠ d → u.doors.door.get d' = s.doors.door.get d') ∧
        (isOpen = true → ∀ z, s.present z = true → d ∈ z.doors → (u.doors.zone.get z).isOpen = true) ∧
        (∀ z, s.present z = false ∨ d ∉ z.doors → u.doors.zone.get z = s.doors.zone.get z) ∧
        u = { s with doors := u.doors }) ∧
    (∀ (c : Instr) (level : Bool) (leaves : DoorState),
      c = .doorOpening d ∧ level = true ∧ leaves = .closed ∨ c = .doorClosing d ∧ level = false ∧ leaves = .isOpen ∨
        c = .doorFirstReading d level ∧ leaves = .unread →
      (s.doors.sampling = false →
        exec c s = .next { s with doors := { s.doors with input := s.doors.input.set d level } }) ∧
      (s.doors.sampling = true → r.sample ≠ level ∨ r.stable < 959 ∨ r.state ≠ leaves →
        exec c s =
          .next
            { s with
              doors :=
                { s.doors with
                  input := s.doors.input.set d level
                  door :=
                    s.doors.door.set d
                      (if r.sample = level then r else { r with sample := level, stable := 0 }) } })) ∧
    ((tick s).doors.door.get d).stable = (if s.doors.sampling = true then min (r.stable + 1) 960 else r.stable) ∧
    (∀ due : Prop, due = (s.doors.sampling = true ∧ 959 ≤ r.stable) →
      (∀ level, Instr.doorFirstReading d level ∈ (tick s).pending ↔ due ∧ r.state = .unread ∧ r.sample = level) ∧
      (Instr.doorOpening d ∈ (tick s).pending ↔ due ∧ r.state = .closed ∧ r.sample = true) ∧
      (Instr.doorClosing d ∈ (tick s).pending ↔ due ∧ r.state = .isOpen ∧ r.sample = false)) ∧
    (∀ z, (s.doors.zone.get z).isOpen = true → (s.doors.zone.get z).ajar = false →
      s.settings.door.ajarDelay * 9600 = (s.doors.zone.get z).openFor + 1 →
      exec (.ajarDelayReached z) s =
        .next
          (finish
            { s with
              doors :=
                { s.doors with
                  zone :=
                    s.doors.zone.set z
                      { s.doors.zone.get z with
                        ajar := true, openFor := (s.doors.zone.get z).openFor + 1 } } }))

/-! ## Unit bus controller -/

/-- The bits of an exchange: the idle check, break, delimiter and characters of the header and of a SET frame (R167, R168,
R171), and a tick's level on the line (that a line nobody pulls low reads as meant: notes/assumptions/8.md). The schedule: the
next slot with its exchange, built from the owners (R168, R172, R206), the skip of FAULT (R179), the deferred stop, alone or
with its opening (R180); the success of a SET exchange with its last stop bit and not before (R169, R101), the levels heard
that a command brings (notes/assumptions/24.md), the discarded end of a SET exchange under a deferred stop (R180), and the FAULT
check, on the levels of the line's last 10 bit times (R179; that they come with the command: notes/assumptions/35.md). -/
def Obligations.BusSlots : Prop :=
  ∀ s : State,
    (∀ (e : Exchange) (char : Byte → List Bool) (bytes : List Byte),
      char =
        (fun b =>
          [false, b.getLsbD 0, b.getLsbD 1, b.getLsbD 2, b.getLsbD 3, b.getLsbD 4, b.getLsbD 5, b.getLsbD 6, b.getLsbD 7,
            true]) →
      bytes =
        (match e.slot with
        | .s1 => [0x31, 0xCE] ++ e.data ++ [e.data.foldl (fun a b => a ^^^ b) 0x31 ^^^ 0x5A]
        | .s2 => [0x32, 0xCD]
        | .s3 => [0x41, 0xBE] ++ e.data ++ [e.data.foldl (fun a b => a ^^^ b) 0x41 ^^^ 0x5A]
        | .s4 => [0x42, 0xBD]
        | .s5 => [0x52, 0xAD]
        | .s6 => [0x32, 0xCD]) →
      e.ownBits = [true, true] ++ List.replicate 13 false ++ [true] ++ bytes.flatMap char) ∧
    (∀ e, s.bus.mode ≠ .stopped → s.bus.exchange = some e → e.heard.length = s.bus.slotFor →
      (tick s).bus.exchange = some { e with heard := e.heard ++ [(e.ownBits[s.bus.slotFor]?).getD true] } ∧
        (s.bus.slotFor < 383 → (tick s).bus.slotFor = s.bus.slotFor + 1)) ∧
    (∀ p, 383 ≤ s.bus.slotFor → s.bus.position = some p → s.bus.deferred = .none →
      (s.bus.mode = .active →
        exec .slotBoundary s =
          .next
            (finish
              { s with
                bus :=
                  { s.bus with
                    position := some p.next
                    slotFor := 0
                    exchange :=
                      if (s.bus.unit.get p.next.unit).state = .absent then none
                      else some ⟨p.next, s.setData p.next, []⟩ } })) ∧
      (s.bus.mode = .fault →
        ∃ t : State, exec .slotBoundary s = .next t ∧ t.bus.mode = .fault ∧ t.bus.position = some p.next ∧
          t.bus.slotFor = 0 ∧ t.bus.exchange = none ∧
          (∀ u, u ≠ p.next.unit ∨ (s.bus.unit.get u).state = .absent → t.bus.unit.get u = s.bus.unit.get u) ∧
          (∀ u, u = p.next.unit → (s.bus.unit.get u).state ≠ .absent →
            t.bus.unit.get u = (s.bus.unit.get u).fail .line))) ∧
    (383 ≤ s.bus.slotFor → s.bus.mode = .active →
      (s.bus.deferred = .stop →
        ∃ t : State, exec .slotBoundary s = .next t ∧ t.bus.mode = .stopped ∧ t.bus.position = none ∧
          t.bus.exchange = none ∧ t.bus.deferred = .none ∧ t.bus.unit = s.bus.unit) ∧
      (s.bus.deferred = .stopThenOpen →
        ∃ t : State, exec .slotBoundary s = .next t ∧ t.bus.mode = .active ∧ t.bus.position = some .s1 ∧
          t.bus.slotFor = 0 ∧ t.bus.deferred = .none ∧ t.bus.unit = s.bus.unit)) ∧
    (s.setData .s3 = [BitVec.ofNat 8 s.route.dampers.flex, BitVec.ofNat 8 s.route.dampers.ice] ∧
      (s.comp.command = 0 → s.setData .s1 = [0, 0, 0]) ∧
      (s.comp.command ≠ 0 → s.setData .s1 = 1 :: putU16 (s.comp.command / 10))) ∧
    (∀ e, s.bus.exchange = some e → e.slot.isSet = true → e.heard.length = s.bus.slotFor →
      (e.heard ++ [true] = e.ownBits →
        (e.slot = .s1 → exec .setExchangeSuccess s = .next { s with bus := { s.bus with exchange := none } }) ∧
        (s.bus.deferred ≠ .none → exec .setExchangeSuccess s = .next { s with bus := { s.bus with exchange := none } }) ∧
        (e.slot = .s3 → s.bus.deferred = .none →
          exec .setExchangeSuccess s =
            .next
              { s with
                bus := { s.bus with exchange := none }
                route :=
                  { s.route with
                    dampers :=
                      { s.route.dampers with
                        setMark := s.route.dampers.setMark || decide (e.data = s.setData .s3) } } })) ∧
      (e.heard.length + 1 < e.ownBits.length → exec .setExchangeSuccess s = .next s)) ∧
    (∀ e heard, s.bus.exchange = some e →
      (heard.length < s.bus.slotFor ∨ s.bus.slotFor + 1 < heard.length →
        exec (.statusExchangeSuccess heard) s = .next s ∧ exec (.exchangeFailure heard) s = .next s ∧
          exec (.responseLimitExpiry heard) s = .next s) ∧
      (s.bus.slotFor ≤ heard.length → heard.length ≤ s.bus.slotFor + 1 → heard.length < e.ownBits.length →
        heard = e.ownBits.take heard.length →
        exec (.statusExchangeSuccess heard) s =
            .next { s with bus := { s.bus with exchange := some { e with heard := heard } } } ∧
          exec (.exchangeFailure heard) s =
            .next { s with bus := { s.bus with exchange := some { e with heard := heard } } } ∧
          exec (.responseLimitExpiry heard) s =
            .next { s with bus := { s.bus with exchange := some { e with heard := heard } } })) ∧
    (∀ line, s.bus.mode ≠ .fault ∨ line.length ≠ 10 → exec (.faultCheckExpiry line) s = .next s) ∧
    ∀ line x, s.bus.mode = .fault → line.length = 10 → s.bus.checkTimer = some x →
      (x + 1 < 9600 → exec (.faultCheckExpiry line) s = .next { s with bus := { s.bus with line := line } }) ∧
      (9600 ≤ x + 1 → false ∈ line →
        exec (.faultCheckExpiry line) s =
          .next (finish { s with bus := { s.bus with checkTimer := some 0, line := line } })) ∧
      (9600 ≤ x + 1 → line = List.replicate 10 true →
        exec (.faultCheckExpiry line) s =
          .next
            (finish
              { s with
                bus :=
                  { s.bus with
                    mode := .active
                    checkTimer := none
                    line := []
                    deferred := .none
                    position := some .s1
                    slotFor := 0
                    exchange :=
                      if s.bus.unit.inverter.state = .absent then none else some ⟨.s1, s.setData .s1, []⟩ } }))

/-- A STATUS exchange that succeeds: the header read back as sent and the response's characters on the line with any pauses
between them, complete within the response limit (R167, R170, R171). It makes the unit's entry (R175(b), R176) and brings the
payload to its consumer: the inverter's interpretation, with INV_LOST left for STOPPED and the loss mark cleared (R126, R131),
the damper's confirmation and stall (R102, R105), HARVEST (R9). The return of a unit that was LOST is presented first: `r` is
the state its payload finds, and that all the return brings takes effect before it is the model's reading (R176,
notes/assumptions/16.md). With a stop deferred the outcome is discarded (R180). That the command carries the line's levels is
the model's (24.md). -/
def Obligations.StatusExchange : Prop :=
  ∀ (s : State) (e : Exchange) (data : List Byte) (check : Byte), s.bus.exchange = some e → e.slot.isSet = false →
    data.length = e.slot.dataBytes → check = data.foldl (fun a b => a ^^^ b) e.slot.code ^^^ 0x5A →
    (e.slot = .s2 ∨ e.slot = .s6 → u8At data 0 ≤ 3) → (e.slot = .s4 → u8At data 0 ≤ 100 ∧ u8At data 1 ≤ 100) →
    ∀ (pauses : List Nat) (response : List Bool) b, pauses.length = data.length + 1 →
      response =
        e.ownBits ++
          (pauses.zip (data ++ [check])).flatMap (fun x => List.replicate x.1 true ++ charBits x.2) →
      response.length ≤ 36 + 20 + 16 * (data.length + 1) → s.bus.slotFor ≤ response.length →
      response.length ≤ s.bus.slotFor + 1 →
      ∀ (r : State) (stalled : Prop),
      b =
        { s.bus with
          exchange := none
          unit :=
            s.bus.unit.set e.slot.unit
              { s.bus.unit.get e.slot.unit with state := .online, failures := 0, payload := some data } } →
      r = (if (s.bus.unit.get e.slot.unit).state = .lost then react { s with bus := b } else { s with bus := b }) →
      stalled =
        (∃ g a, r.arb.grant = some g ∧ g.phase = .routing ∧ r.route.app = some a ∧ a.inPlace = false ∧
          r.route.dampers.setMark = true ∧
          (a.changedFlex = true ∧ (data.getD 3 0).getLsbD 0 = true ∨
            a.changedIce = true ∧ (data.getD 3 0).getLsbD 1 = true)) →
      (s.bus.deferred ≠ .none →
        exec (.statusExchangeSuccess response) s = .next (finish { s with bus := { s.bus with exchange := none } })) ∧
      (s.bus.deferred = .none →
      (∃ t : State, exec (.statusExchangeSuccess response) s = .next t ∧ t.bus = b ∧
        (e.slot.unit = .damper → t.routeAvailable .flex = true ∧ t.routeAvailable .ice = true)) ∧
      (e.slot = .s5 →
        exec (.statusExchangeSuccess response) s =
          .next
            (finish
              { r with
                zones :=
                  { r.zones with
                    ice :=
                      { r.zones.ice with holdHarvest := (data.getD 0 0).getLsbD 0 && r.present .ice } } })) ∧
      (e.slot = .s4 → ¬stalled →
        exec (.statusExchangeSuccess response) s =
          .next
            (finish
              { r with
                route :=
                  { r.route with
                    dampers :=
                      { r.route.dampers with
                        confirmed :=
                          if r.route.dampers.setMark = true then
                            decide
                              (u8At data 0 ≤ r.route.dampers.flex + 5 ∧ r.route.dampers.flex ≤ u8At data 0 + 5 ∧
                                u8At data 1 ≤ r.route.dampers.ice + 5 ∧ r.route.dampers.ice ≤ u8At data 1 + 5 ∧
                                (data.getD 2 0).getLsbD 0 = false ∧ (data.getD 2 0).getLsbD 1 = false)
                          else r.route.dampers.confirmed } } })) ∧
      (∀ g, e.slot = .s4 → stalled → r.arb.grant = some g → r.mode.opState = .run →
        r.defrost.phase ≠ .pending →
        ∃ t : State, exec (.statusExchangeSuccess response) s = .next t ∧ t.bus = b ∧
          t.arb.lastEnd = some ⟨g.zone, .routeFault⟩) ∧
      (∀ st : InvStatus, (e.slot = .s2 ∨ e.slot = .s6) → st = invStatusOf data → 0 < s.settings.comp.minOff →
        ∃ t : State, exec (.statusExchangeSuccess response) s = .next t ∧ t.bus = b ∧ t.comp.lastInv = some st ∧
          t.comp.lossMark = false ∧
          (st.state = .fault → s.comp.state = .stopped ∨ s.comp.state = .running ∨ s.comp.state = .invLost →
            (∀ l, s.comp.lastInv = some l → l.state ≠ .fault) →
            t.comp.faults = s.comp.faults ++ [⟨0, .inverter, st.code⟩] ∧ t.comp.command = 0 ∧ t.comp.stopFor = 0 ∧
              t.comp.state = (if s.comp.faults.length < 2 then .faultHold else .lockout)) ∧
          (st.state = .fault → ∀ l, s.comp.lastInv = some l → l.state = .fault → t.comp.faults = s.comp.faults) ∧
          (st.state = .fault → s.comp.state = .faultHold ∨ s.comp.state = .lockout →
            t.comp.faults = s.comp.faults ∧ t.comp.state = s.comp.state) ∧
          (st.state ≠ .fault →
            t.comp.faults = s.comp.faults ∧
              (s.comp.state = .faultHold ∨ s.comp.state = .lockout → t.comp.state = s.comp.state) ∧
              t.comp.state ≠ .invLost) ∧
          (st.state ≠ .fault → s.comp.state = .invLost →
            (s.comp.stopFor < s.settings.comp.minOff * 9600 ∨ t.runRequest = false →
              t.comp.state = .stopped ∧ t.comp.command = s.comp.command ∧ t.comp.stopFor = s.comp.stopFor) ∧
            (s.settings.comp.minOff * 9600 ≤ s.comp.stopFor → t.runRequest = true →
              t.comp.state = .running ∧ t.comp.runFor = 0 ∧ t.comp.runWatch = some 0)) ∧
          (st.state = .running → s.comp.state = .running → t.comp.state = .running → t.comp.runWatch = none) ∧
          (st.state = .stopped ∨ st.state = .starting → s.comp.state = .running → t.comp.state = .running →
            t.comp.runWatch = some (s.comp.runWatch.getD 0))))

/-- Failed exchanges (R167, R173 to R175). EXCHANGE_FAILURE with the line's levels: LINE at the first own bit of the idle
check, break or delimiter read other than meant, ECHO at the end of the character of the first own data bit read so, FRAMING at
a low stop bit of the response, CHECK at the end of a response whose check byte or values are wrong. RESPONSE_LIMIT_EXPIRY,
with the line's levels too: NO_RESPONSE with no start bit by the limit, TIMEOUT with a response begun and incomplete (R170).
Each counts one failure against the unit of the slot; the eighth makes it LOST with what that brings (R177, R131, R9); LINE
puts the bus in FAULT, with the line's last levels held (R179). With a stop deferred the outcome is discarded (R180). The
commands' split and operands are the model's (notes/assumptions/24.md). A run that a service speed goes on requesting at the
loss of the inverter keeps its target, and without a request there is none (R115(c), R117(c); 25.md). -/
def Obligations.FailedExchange : Prop :=
  ∀ (s : State) (e : Exchange) (c : Instr) (k : ErrorKind), s.bus.exchange = some e →
    ∀ (chars : List Nat → List Byte → List Bool) (limit : Nat),
    chars = (fun pauses bytes => (pauses.zip bytes).flatMap fun x => List.replicate x.1 true ++ charBits x.2) →
    limit = 36 + 20 + 16 * (e.slot.dataBytes + 1) →
    ((∃ heard, c = .exchangeFailure heard ∧ s.bus.slotFor ≤ heard.length ∧ heard.length ≤ s.bus.slotFor + 1 ∧
        ((∃ i own, i < 16 ∧ heard.take i = e.ownBits.take i ∧ e.ownBits[i]? = some own ∧ heard[i]? = some (!own) ∧
            k = .line) ∨
          (∃ i own, 16 ≤ i ∧ heard.take i = e.ownBits.take i ∧ e.ownBits[i]? = some own ∧ heard[i]? = some (!own) ∧
            16 + 10 * ((i - 16) / 10 + 1) ≤ heard.length ∧ k = .echo) ∨
          (e.slot.isSet = false ∧ heard.length ≤ limit ∧
            ((∃ (pauses : List Nat) (bytes : List Byte) (pause : Nat) (bits : List Bool),
                pauses.length = bytes.length ∧ bytes.length ≤ e.slot.dataBytes ∧ bits.length = 8 ∧
                  heard =
                    e.ownBits ++ chars pauses bytes ++ List.replicate pause true ++ [false] ++ bits ++ [false] ∧
                  k = .framing) ∨
              (∃ (pauses : List Nat) (data : List Byte) (check : Byte),
                pauses.length = data.length + 1 ∧ data.length = e.slot.dataBytes ∧
                  (check ≠ data.foldl (fun a b => a ^^^ b) e.slot.code ^^^ 0x5A ∨
                    (e.slot = .s2 ∨ e.slot = .s6) ∧ 3 < u8At data 0 ∨
                    e.slot = .s4 ∧ (100 < u8At data 0 ∨ 100 < u8At data 1)) ∧
                  heard = e.ownBits ++ chars pauses (data ++ [check]) ∧
                  k = .check))))) ∨
      (∃ heard, c = .responseLimitExpiry heard ∧ e.slot.isSet = false ∧ s.bus.slotFor ≤ heard.length ∧
        heard.length ≤ s.bus.slotFor + 1 ∧ heard.length = limit ∧
        ∃ (pauses : List Nat) (bytes : List Byte) (pause : Nat) (bits : List Bool),
          pauses.length = bytes.length ∧ bytes.length ≤ e.slot.dataBytes ∧
            (bits = [] ∨ ∃ more, bits = false :: more ∧ more.length ≤ 8) ∧
            heard = e.ownBits ++ chars pauses bytes ++ List.replicate pause true ++ bits ∧
            k = (if bytes = [] ∧ bits = [] then .noResponse else .timeout))) →
    (s.bus.deferred ≠ .none → exec c s = .next (finish { s with bus := { s.bus with exchange := none } })) ∧
    (s.bus.deferred = .none → (s.bus.unit.get e.slot.unit).state ≠ .absent →
    ∃ t : State, exec c s = .next t ∧ t.bus.exchange = none ∧ t.bus.position = s.bus.position ∧
      t.bus.slotFor = s.bus.slotFor ∧
      (k = .line → t.bus.mode = .fault ∧ t.bus.checkTimer = some 0 ∧
        ∀ heard, c = .exchangeFailure heard → t.bus.line = heard.drop (heard.length - 10)) ∧
      (k ≠ .line →
        t.bus.mode = s.bus.mode ∧ t.bus.checkTimer = s.bus.checkTimer ∧ t.bus.line = s.bus.line) ∧
      (∀ u, u ≠ e.slot.unit → t.bus.unit.get u = s.bus.unit.get u) ∧
      (∀ u r n, u = e.slot.unit → r = s.bus.unit.get u → n = min 255 (r.failures + 1) →
        t.bus.unit.get u =
          ⟨if 8 ≤ n ∨ r.state = .lost then .lost else .suspect, n, k, r.payload⟩ ∧
        (r.state ≠ .lost → 8 ≤ n →
          (u = .inverter → t.comp.lastInv = none ∧ t.comp.stopFor = 0 ∧ t.comp.command = (if s.compAvailable then 0 else s.comp.command) ∧
            (s.compAvailable = true → t.comp.state = .invLost) ∧
            (s.comp.state = .running → s.mode.opState = .service → s.comp.serviceSpeed ≠ 0 →
              t.comp.target = some (s.comp.target.getD s.settings.comp.nMin)) ∧
            (s.compAvailable = true → t.runRequest = false → t.comp.target = none) ∧
            (s.comp.state = .faultHold ∨ s.comp.state = .lockout →
              t.comp.state = s.comp.state ∧ t.comp.lossMark = true)) ∧
          (u = .damper → t.routeAvailable .flex = false ∧ t.routeAvailable .ice = false) ∧
          (u = .ice → t.zones.ice.holdHarvest = false))))
end

