-- ==== Sys2Proof/Laws/State.lean ====
section
/-!
SUPPORT. One lemma per field and update of the state, and the laws of reading and writing one zone, door, fan, unit or
channel.
-/
namespace Sys2Proof.Machine

/-! ## One zone, door, fan, unit or channel -/

@[simp] theorem PerZone.get_set_self {α : Type} (p : PerZone α) (z : Zone) (a : α) : (p.set z a).get z = a := by
  cases z <;> rfl

theorem PerZone.get_set_other {α : Type} (p : PerZone α) {z z' : Zone} (h : z' ≠ z) (a : α) :
    (p.set z a).get z' = p.get z' := by
  cases z <;> cases z' <;> first | rfl | exact absurd rfl h

@[simp] theorem PerZone.set_get_self {α : Type} (p : PerZone α) (z : Zone) : p.set z (p.get z) = p := by
  cases z <;> rfl

@[simp] theorem PerZone.set_set {α : Type} (p : PerZone α) (z : Zone) (a b : α) : (p.set z a).set z b = p.set z b := by
  cases z <;> rfl

@[simp] theorem PerDoor.get_set_self {α : Type} (p : PerDoor α) (d : Door) (a : α) : (p.set d a).get d = a := by
  cases d <;> rfl

theorem PerDoor.get_set_other {α : Type} (p : PerDoor α) {d d' : Door} (h : d' ≠ d) (a : α) :
    (p.set d a).get d' = p.get d' := by
  cases d <;> cases d' <;> first | rfl | exact absurd rfl h

@[simp] theorem PerDoor.set_get_self {α : Type} (p : PerDoor α) (d : Door) : p.set d (p.get d) = p := by
  cases d <;> rfl

@[simp] theorem PerDoor.set_set {α : Type} (p : PerDoor α) (d : Door) (a b : α) : (p.set d a).set d b = p.set d b := by
  cases d <;> rfl

@[simp] theorem PerFan.get_set_self {α : Type} (p : PerFan α) (f : Fan) (a : α) : (p.set f a).get f = a := by
  cases f <;> rfl

theorem PerFan.get_set_other {α : Type} (p : PerFan α) {f f' : Fan} (h : f' ≠ f) (a : α) :
    (p.set f a).get f' = p.get f' := by
  cases f <;> cases f' <;> first | rfl | exact absurd rfl h

@[simp] theorem PerFan.set_get_self {α : Type} (p : PerFan α) (f : Fan) : p.set f (p.get f) = p := by
  cases f <;> rfl

@[simp] theorem PerFan.set_set {α : Type} (p : PerFan α) (f : Fan) (a b : α) : (p.set f a).set f b = p.set f b := by
  cases f <;> rfl

@[simp] theorem PerUnit.get_set_self {α : Type} (p : PerUnit α) (u : BusUnit) (a : α) : (p.set u a).get u = a := by
  cases u <;> rfl

theorem PerUnit.get_set_other {α : Type} (p : PerUnit α) {u u' : BusUnit} (h : u' ≠ u) (a : α) :
    (p.set u a).get u' = p.get u' := by
  cases u <;> cases u' <;> first | rfl | exact absurd rfl h

@[simp] theorem PerUnit.set_get_self {α : Type} (p : PerUnit α) (u : BusUnit) : p.set u (p.get u) = p := by
  cases u <;> rfl

@[simp] theorem PerUnit.set_set {α : Type} (p : PerUnit α) (u : BusUnit) (a b : α) : (p.set u a).set u b = p.set u b := by
  cases u <;> rfl

@[simp] theorem PerZone.get_map {α β : Type} (f : Zone → α → β) (p : PerZone α) (z : Zone) :
    (p.map f).get z = f z (p.get z) := by
  cases z <;> rfl

@[simp] theorem PerZone.get_all {α : Type} (a : α) (z : Zone) : (PerZone.all a).get z = a := by
  cases z <;> rfl

/-- Two values for every zone agree where they agree at each zone. -/
theorem PerZone.ext_get {α : Type} {p q : PerZone α} (h : ∀ z, p.get z = q.get z) : p = q := by
  have h1 := h .fresh
  have h2 := h .freeze
  have h3 := h .flex
  have h4 := h .ice
  cases p
  cases q
  simp_all [PerZone.get]

@[simp] theorem Sensing.get_set_self (n : Sensing) (ch : Channel) (r : ChannelRec) : (n.set ch r).get ch = r := by
  cases ch with
  | air z => simp [Sensing.get, Sensing.set]
  | _ => rfl

theorem Sensing.get_set_other (n : Sensing) {ch ch' : Channel} (h : ch' ≠ ch) (r : ChannelRec) :
    (n.set ch r).get ch' = n.get ch' := by
  cases ch with
  | air z =>
    cases ch' with
    | air z' =>
      have hz : z' ≠ z := fun e => h (by rw [e])
      simp [Sensing.get, Sensing.set, PerZone.get_set_other _ hz]
    | _ => rfl
  | _ =>
    cases ch' <;> first | rfl | exact absurd rfl h

/-! ## Updates of the state -/

@[simp] theorem State.mapZone_mode (s : State) (z : Zone) (f : ZoneRec → ZoneRec) : (s.mapZone z f).mode = s.mode := rfl
@[simp] theorem State.mapZone_strap (s : State) (z : Zone) (f : ZoneRec → ZoneRec) : (s.mapZone z f).strap = s.strap := rfl
@[simp] theorem State.mapZone_settings (s : State) (z : Zone) (f : ZoneRec → ZoneRec) : (s.mapZone z f).settings = s.settings := rfl
@[simp] theorem State.mapZone_sensing (s : State) (z : Zone) (f : ZoneRec → ZoneRec) : (s.mapZone z f).sensing = s.sensing := rfl
@[simp] theorem State.mapZone_doors (s : State) (z : Zone) (f : ZoneRec → ZoneRec) : (s.mapZone z f).doors = s.doors := rfl
@[simp] theorem State.mapZone_arb (s : State) (z : Zone) (f : ZoneRec → ZoneRec) : (s.mapZone z f).arb = s.arb := rfl
@[simp] theorem State.mapZone_route (s : State) (z : Zone) (f : ZoneRec → ZoneRec) : (s.mapZone z f).route = s.route := rfl
@[simp] theorem State.mapZone_comp (s : State) (z : Zone) (f : ZoneRec → ZoneRec) : (s.mapZone z f).comp = s.comp := rfl
@[simp] theorem State.mapZone_defrost (s : State) (z : Zone) (f : ZoneRec → ZoneRec) : (s.mapZone z f).defrost = s.defrost := rfl
@[simp] theorem State.mapZone_bus (s : State) (z : Zone) (f : ZoneRec → ZoneRec) : (s.mapZone z f).bus = s.bus := rfl
@[simp] theorem State.mapZone_link (s : State) (z : Zone) (f : ZoneRec → ZoneRec) : (s.mapZone z f).link = s.link := rfl
@[simp] theorem State.mapZone_events (s : State) (z : Zone) (f : ZoneRec → ZoneRec) : (s.mapZone z f).events = s.events := rfl
@[simp] theorem State.mapZone_service (s : State) (z : Zone) (f : ZoneRec → ZoneRec) : (s.mapZone z f).service = s.service := rfl
@[simp] theorem State.mapZone_pending (s : State) (z : Zone) (f : ZoneRec → ZoneRec) : (s.mapZone z f).pending = s.pending := rfl

@[simp] theorem State.mapZone_zones (s : State) (z : Zone) (f : ZoneRec → ZoneRec) :
    (s.mapZone z f).zones = s.zones.set z (f (s.zones.get z)) := rfl

@[simp] theorem State.mapGrant_mode (s : State) (f : Grant → Grant) : (s.mapGrant f).mode = s.mode := rfl
@[simp] theorem State.mapGrant_strap (s : State) (f : Grant → Grant) : (s.mapGrant f).strap = s.strap := rfl
@[simp] theorem State.mapGrant_settings (s : State) (f : Grant → Grant) : (s.mapGrant f).settings = s.settings := rfl
@[simp] theorem State.mapGrant_sensing (s : State) (f : Grant → Grant) : (s.mapGrant f).sensing = s.sensing := rfl
@[simp] theorem State.mapGrant_doors (s : State) (f : Grant → Grant) : (s.mapGrant f).doors = s.doors := rfl
@[simp] theorem State.mapGrant_zones (s : State) (f : Grant → Grant) : (s.mapGrant f).zones = s.zones := rfl
@[simp] theorem State.mapGrant_route (s : State) (f : Grant → Grant) : (s.mapGrant f).route = s.route := rfl
@[simp] theorem State.mapGrant_comp (s : State) (f : Grant → Grant) : (s.mapGrant f).comp = s.comp := rfl
@[simp] theorem State.mapGrant_defrost (s : State) (f : Grant → Grant) : (s.mapGrant f).defrost = s.defrost := rfl
@[simp] theorem State.mapGrant_bus (s : State) (f : Grant → Grant) : (s.mapGrant f).bus = s.bus := rfl
@[simp] theorem State.mapGrant_link (s : State) (f : Grant → Grant) : (s.mapGrant f).link = s.link := rfl
@[simp] theorem State.mapGrant_events (s : State) (f : Grant → Grant) : (s.mapGrant f).events = s.events := rfl
@[simp] theorem State.mapGrant_service (s : State) (f : Grant → Grant) : (s.mapGrant f).service = s.service := rfl
@[simp] theorem State.mapGrant_pending (s : State) (f : Grant → Grant) : (s.mapGrant f).pending = s.pending := rfl

@[simp] theorem State.mapGrant_grant (s : State) (f : Grant → Grant) : (s.mapGrant f).arb.grant = s.arb.grant.map f := rfl

@[simp] theorem State.mapFan_mode (s : State) (f : Fan) (g : FanRec → FanRec) : (s.mapFan f g).mode = s.mode := rfl
@[simp] theorem State.mapFan_strap (s : State) (f : Fan) (g : FanRec → FanRec) : (s.mapFan f g).strap = s.strap := rfl
@[simp] theorem State.mapFan_settings (s : State) (f : Fan) (g : FanRec → FanRec) : (s.mapFan f g).settings = s.settings := rfl
@[simp] theorem State.mapFan_sensing (s : State) (f : Fan) (g : FanRec → FanRec) : (s.mapFan f g).sensing = s.sensing := rfl
@[simp] theorem State.mapFan_doors (s : State) (f : Fan) (g : FanRec → FanRec) : (s.mapFan f g).doors = s.doors := rfl
@[simp] theorem State.mapFan_zones (s : State) (f : Fan) (g : FanRec → FanRec) : (s.mapFan f g).zones = s.zones := rfl
@[simp] theorem State.mapFan_arb (s : State) (f : Fan) (g : FanRec → FanRec) : (s.mapFan f g).arb = s.arb := rfl
@[simp] theorem State.mapFan_comp (s : State) (f : Fan) (g : FanRec → FanRec) : (s.mapFan f g).comp = s.comp := rfl
@[simp] theorem State.mapFan_defrost (s : State) (f : Fan) (g : FanRec → FanRec) : (s.mapFan f g).defrost = s.defrost := rfl
@[simp] theorem State.mapFan_bus (s : State) (f : Fan) (g : FanRec → FanRec) : (s.mapFan f g).bus = s.bus := rfl
@[simp] theorem State.mapFan_link (s : State) (f : Fan) (g : FanRec → FanRec) : (s.mapFan f g).link = s.link := rfl
@[simp] theorem State.mapFan_events (s : State) (f : Fan) (g : FanRec → FanRec) : (s.mapFan f g).events = s.events := rfl
@[simp] theorem State.mapFan_service (s : State) (f : Fan) (g : FanRec → FanRec) : (s.mapFan f g).service = s.service := rfl
@[simp] theorem State.mapFan_pending (s : State) (f : Fan) (g : FanRec → FanRec) : (s.mapFan f g).pending = s.pending := rfl

@[simp] theorem State.mapFan_valve (s : State) (f : Fan) (g : FanRec → FanRec) :
    (s.mapFan f g).route.valve = s.route.valve := rfl

@[simp] theorem State.setComp_mode (s : State) (c : Compressor) : (s.setComp c).mode = s.mode := rfl
@[simp] theorem State.setComp_strap (s : State) (c : Compressor) : (s.setComp c).strap = s.strap := rfl
@[simp] theorem State.setComp_settings (s : State) (c : Compressor) : (s.setComp c).settings = s.settings := rfl
@[simp] theorem State.setComp_sensing (s : State) (c : Compressor) : (s.setComp c).sensing = s.sensing := rfl
@[simp] theorem State.setComp_doors (s : State) (c : Compressor) : (s.setComp c).doors = s.doors := rfl
@[simp] theorem State.setComp_zones (s : State) (c : Compressor) : (s.setComp c).zones = s.zones := rfl
@[simp] theorem State.setComp_arb (s : State) (c : Compressor) : (s.setComp c).arb = s.arb := rfl
@[simp] theorem State.setComp_route (s : State) (c : Compressor) : (s.setComp c).route = s.route := rfl
@[simp] theorem State.setComp_defrost (s : State) (c : Compressor) : (s.setComp c).defrost = s.defrost := rfl
@[simp] theorem State.setComp_bus (s : State) (c : Compressor) : (s.setComp c).bus = s.bus := rfl
@[simp] theorem State.setComp_link (s : State) (c : Compressor) : (s.setComp c).link = s.link := rfl
@[simp] theorem State.setComp_events (s : State) (c : Compressor) : (s.setComp c).events = s.events := rfl
@[simp] theorem State.setComp_service (s : State) (c : Compressor) : (s.setComp c).service = s.service := rfl
@[simp] theorem State.setComp_pending (s : State) (c : Compressor) : (s.setComp c).pending = s.pending := rfl

@[simp] theorem State.setComp_comp (s : State) (c : Compressor) : (s.setComp c).comp = c := rfl

@[simp] theorem State.mapValve_mode (s : State) (f : Valve → Valve) : (s.mapValve f).mode = s.mode := rfl
@[simp] theorem State.mapValve_strap (s : State) (f : Valve → Valve) : (s.mapValve f).strap = s.strap := rfl
@[simp] theorem State.mapValve_settings (s : State) (f : Valve → Valve) : (s.mapValve f).settings = s.settings := rfl
@[simp] theorem State.mapValve_sensing (s : State) (f : Valve → Valve) : (s.mapValve f).sensing = s.sensing := rfl
@[simp] theorem State.mapValve_doors (s : State) (f : Valve → Valve) : (s.mapValve f).doors = s.doors := rfl
@[simp] theorem State.mapValve_zones (s : State) (f : Valve → Valve) : (s.mapValve f).zones = s.zones := rfl
@[simp] theorem State.mapValve_arb (s : State) (f : Valve → Valve) : (s.mapValve f).arb = s.arb := rfl
@[simp] theorem State.mapValve_comp (s : State) (f : Valve → Valve) : (s.mapValve f).comp = s.comp := rfl
@[simp] theorem State.mapValve_defrost (s : State) (f : Valve → Valve) : (s.mapValve f).defrost = s.defrost := rfl
@[simp] theorem State.mapValve_bus (s : State) (f : Valve → Valve) : (s.mapValve f).bus = s.bus := rfl
@[simp] theorem State.mapValve_link (s : State) (f : Valve → Valve) : (s.mapValve f).link = s.link := rfl
@[simp] theorem State.mapValve_events (s : State) (f : Valve → Valve) : (s.mapValve f).events = s.events := rfl
@[simp] theorem State.mapValve_service (s : State) (f : Valve → Valve) : (s.mapValve f).service = s.service := rfl
@[simp] theorem State.mapValve_pending (s : State) (f : Valve → Valve) : (s.mapValve f).pending = s.pending := rfl

@[simp] theorem State.mapValve_valve (s : State) (f : Valve → Valve) : (s.mapValve f).route.valve = f s.route.valve := rfl

@[simp] theorem State.mapDefrost_mode (s : State) (f : Defrost → Defrost) : (s.mapDefrost f).mode = s.mode := rfl
@[simp] theorem State.mapDefrost_strap (s : State) (f : Defrost → Defrost) : (s.mapDefrost f).strap = s.strap := rfl
@[simp] theorem State.mapDefrost_settings (s : State) (f : Defrost → Defrost) : (s.mapDefrost f).settings = s.settings := rfl
@[simp] theorem State.mapDefrost_sensing (s : State) (f : Defrost → Defrost) : (s.mapDefrost f).sensing = s.sensing := rfl
@[simp] theorem State.mapDefrost_doors (s : State) (f : Defrost → Defrost) : (s.mapDefrost f).doors = s.doors := rfl
@[simp] theorem State.mapDefrost_zones (s : State) (f : Defrost → Defrost) : (s.mapDefrost f).zones = s.zones := rfl
@[simp] theorem State.mapDefrost_arb (s : State) (f : Defrost → Defrost) : (s.mapDefrost f).arb = s.arb := rfl
@[simp] theorem State.mapDefrost_route (s : State) (f : Defrost → Defrost) : (s.mapDefrost f).route = s.route := rfl
@[simp] theorem State.mapDefrost_comp (s : State) (f : Defrost → Defrost) : (s.mapDefrost f).comp = s.comp := rfl
@[simp] theorem State.mapDefrost_bus (s : State) (f : Defrost → Defrost) : (s.mapDefrost f).bus = s.bus := rfl
@[simp] theorem State.mapDefrost_link (s : State) (f : Defrost → Defrost) : (s.mapDefrost f).link = s.link := rfl
@[simp] theorem State.mapDefrost_events (s : State) (f : Defrost → Defrost) : (s.mapDefrost f).events = s.events := rfl
@[simp] theorem State.mapDefrost_service (s : State) (f : Defrost → Defrost) : (s.mapDefrost f).service = s.service := rfl
@[simp] theorem State.mapDefrost_pending (s : State) (f : Defrost → Defrost) : (s.mapDefrost f).pending = s.pending := rfl

@[simp] theorem State.mapDefrost_defrost (s : State) (f : Defrost → Defrost) : (s.mapDefrost f).defrost = f s.defrost := rfl

@[simp] theorem State.mapContext_mode (s : State) (f : DefrostContext → DefrostContext) : (s.mapContext f).mode = s.mode := rfl
@[simp] theorem State.mapContext_strap (s : State) (f : DefrostContext → DefrostContext) : (s.mapContext f).strap = s.strap := rfl
@[simp] theorem State.mapContext_settings (s : State) (f : DefrostContext → DefrostContext) : (s.mapContext f).settings = s.settings := rfl
@[simp] theorem State.mapContext_sensing (s : State) (f : DefrostContext → DefrostContext) : (s.mapContext f).sensing = s.sensing := rfl
@[simp] theorem State.mapContext_doors (s : State) (f : DefrostContext → DefrostContext) : (s.mapContext f).doors = s.doors := rfl
@[simp] theorem State.mapContext_zones (s : State) (f : DefrostContext → DefrostContext) : (s.mapContext f).zones = s.zones := rfl
@[simp] theorem State.mapContext_arb (s : State) (f : DefrostContext → DefrostContext) : (s.mapContext f).arb = s.arb := rfl
@[simp] theorem State.mapContext_route (s : State) (f : DefrostContext → DefrostContext) : (s.mapContext f).route = s.route := rfl
@[simp] theorem State.mapContext_comp (s : State) (f : DefrostContext → DefrostContext) : (s.mapContext f).comp = s.comp := rfl
@[simp] theorem State.mapContext_bus (s : State) (f : DefrostContext → DefrostContext) : (s.mapContext f).bus = s.bus := rfl
@[simp] theorem State.mapContext_link (s : State) (f : DefrostContext → DefrostContext) : (s.mapContext f).link = s.link := rfl
@[simp] theorem State.mapContext_events (s : State) (f : DefrostContext → DefrostContext) : (s.mapContext f).events = s.events := rfl
@[simp] theorem State.mapContext_service (s : State) (f : DefrostContext → DefrostContext) : (s.mapContext f).service = s.service := rfl
@[simp] theorem State.mapContext_pending (s : State) (f : DefrostContext → DefrostContext) : (s.mapContext f).pending = s.pending := rfl

@[simp] theorem State.mapContext_context (s : State) (f : DefrostContext → DefrostContext) :
    (s.mapContext f).defrost.context = s.defrost.context.map f := rfl

@[simp] theorem State.mapUnit_mode (s : State) (u : BusUnit) (f : UnitRec → UnitRec) : (s.mapUnit u f).mode = s.mode := rfl
@[simp] theorem State.mapUnit_strap (s : State) (u : BusUnit) (f : UnitRec → UnitRec) : (s.mapUnit u f).strap = s.strap := rfl
@[simp] theorem State.mapUnit_settings (s : State) (u : BusUnit) (f : UnitRec → UnitRec) : (s.mapUnit u f).settings = s.settings := rfl
@[simp] theorem State.mapUnit_sensing (s : State) (u : BusUnit) (f : UnitRec → UnitRec) : (s.mapUnit u f).sensing = s.sensing := rfl
@[simp] theorem State.mapUnit_doors (s : State) (u : BusUnit) (f : UnitRec → UnitRec) : (s.mapUnit u f).doors = s.doors := rfl
@[simp] theorem State.mapUnit_zones (s : State) (u : BusUnit) (f : UnitRec → UnitRec) : (s.mapUnit u f).zones = s.zones := rfl
@[simp] theorem State.mapUnit_arb (s : State) (u : BusUnit) (f : UnitRec → UnitRec) : (s.mapUnit u f).arb = s.arb := rfl
@[simp] theorem State.mapUnit_route (s : State) (u : BusUnit) (f : UnitRec → UnitRec) : (s.mapUnit u f).route = s.route := rfl
@[simp] theorem State.mapUnit_comp (s : State) (u : BusUnit) (f : UnitRec → UnitRec) : (s.mapUnit u f).comp = s.comp := rfl
@[simp] theorem State.mapUnit_defrost (s : State) (u : BusUnit) (f : UnitRec → UnitRec) : (s.mapUnit u f).defrost = s.defrost := rfl
@[simp] theorem State.mapUnit_link (s : State) (u : BusUnit) (f : UnitRec → UnitRec) : (s.mapUnit u f).link = s.link := rfl
@[simp] theorem State.mapUnit_events (s : State) (u : BusUnit) (f : UnitRec → UnitRec) : (s.mapUnit u f).events = s.events := rfl
@[simp] theorem State.mapUnit_service (s : State) (u : BusUnit) (f : UnitRec → UnitRec) : (s.mapUnit u f).service = s.service := rfl
@[simp] theorem State.mapUnit_pending (s : State) (u : BusUnit) (f : UnitRec → UnitRec) : (s.mapUnit u f).pending = s.pending := rfl

@[simp] theorem State.mapUnit_unit (s : State) (u : BusUnit) (f : UnitRec → UnitRec) :
    (s.mapUnit u f).bus.unit = s.bus.unit.set u (f (s.bus.unit.get u)) := rfl

@[simp] theorem State.mapLink_mode (s : State) (f : Link → Link) : (s.mapLink f).mode = s.mode := rfl
@[simp] theorem State.mapLink_strap (s : State) (f : Link → Link) : (s.mapLink f).strap = s.strap := rfl
@[simp] theorem State.mapLink_settings (s : State) (f : Link → Link) : (s.mapLink f).settings = s.settings := rfl
@[simp] theorem State.mapLink_sensing (s : State) (f : Link → Link) : (s.mapLink f).sensing = s.sensing := rfl
@[simp] theorem State.mapLink_doors (s : State) (f : Link → Link) : (s.mapLink f).doors = s.doors := rfl
@[simp] theorem State.mapLink_zones (s : State) (f : Link → Link) : (s.mapLink f).zones = s.zones := rfl
@[simp] theorem State.mapLink_arb (s : State) (f : Link → Link) : (s.mapLink f).arb = s.arb := rfl
@[simp] theorem State.mapLink_route (s : State) (f : Link → Link) : (s.mapLink f).route = s.route := rfl
@[simp] theorem State.mapLink_comp (s : State) (f : Link → Link) : (s.mapLink f).comp = s.comp := rfl
@[simp] theorem State.mapLink_defrost (s : State) (f : Link → Link) : (s.mapLink f).defrost = s.defrost := rfl
@[simp] theorem State.mapLink_bus (s : State) (f : Link → Link) : (s.mapLink f).bus = s.bus := rfl
@[simp] theorem State.mapLink_events (s : State) (f : Link → Link) : (s.mapLink f).events = s.events := rfl
@[simp] theorem State.mapLink_service (s : State) (f : Link → Link) : (s.mapLink f).service = s.service := rfl
@[simp] theorem State.mapLink_pending (s : State) (f : Link → Link) : (s.mapLink f).pending = s.pending := rfl

@[simp] theorem State.mapLink_link (s : State) (f : Link → Link) : (s.mapLink f).link = f s.link := rfl

@[simp] theorem State.mapDoor_mode (s : State) (d : Door) (f : DoorRec → DoorRec) : (s.mapDoor d f).mode = s.mode := rfl
@[simp] theorem State.mapDoor_strap (s : State) (d : Door) (f : DoorRec → DoorRec) : (s.mapDoor d f).strap = s.strap := rfl
@[simp] theorem State.mapDoor_settings (s : State) (d : Door) (f : DoorRec → DoorRec) : (s.mapDoor d f).settings = s.settings := rfl
@[simp] theorem State.mapDoor_sensing (s : State) (d : Door) (f : DoorRec → DoorRec) : (s.mapDoor d f).sensing = s.sensing := rfl
@[simp] theorem State.mapDoor_zones (s : State) (d : Door) (f : DoorRec → DoorRec) : (s.mapDoor d f).zones = s.zones := rfl
@[simp] theorem State.mapDoor_arb (s : State) (d : Door) (f : DoorRec → DoorRec) : (s.mapDoor d f).arb = s.arb := rfl
@[simp] theorem State.mapDoor_route (s : State) (d : Door) (f : DoorRec → DoorRec) : (s.mapDoor d f).route = s.route := rfl
@[simp] theorem State.mapDoor_comp (s : State) (d : Door) (f : DoorRec → DoorRec) : (s.mapDoor d f).comp = s.comp := rfl
@[simp] theorem State.mapDoor_defrost (s : State) (d : Door) (f : DoorRec → DoorRec) : (s.mapDoor d f).defrost = s.defrost := rfl
@[simp] theorem State.mapDoor_bus (s : State) (d : Door) (f : DoorRec → DoorRec) : (s.mapDoor d f).bus = s.bus := rfl
@[simp] theorem State.mapDoor_link (s : State) (d : Door) (f : DoorRec → DoorRec) : (s.mapDoor d f).link = s.link := rfl
@[simp] theorem State.mapDoor_events (s : State) (d : Door) (f : DoorRec → DoorRec) : (s.mapDoor d f).events = s.events := rfl
@[simp] theorem State.mapDoor_service (s : State) (d : Door) (f : DoorRec → DoorRec) : (s.mapDoor d f).service = s.service := rfl
@[simp] theorem State.mapDoor_pending (s : State) (d : Door) (f : DoorRec → DoorRec) : (s.mapDoor d f).pending = s.pending := rfl

@[simp] theorem State.mapZoneDoor_mode (s : State) (z : Zone) (f : ZoneDoor → ZoneDoor) : (s.mapZoneDoor z f).mode = s.mode := rfl
@[simp] theorem State.mapZoneDoor_strap (s : State) (z : Zone) (f : ZoneDoor → ZoneDoor) : (s.mapZoneDoor z f).strap = s.strap := rfl
@[simp] theorem State.mapZoneDoor_settings (s : State) (z : Zone) (f : ZoneDoor → ZoneDoor) : (s.mapZoneDoor z f).settings = s.settings := rfl
@[simp] theorem State.mapZoneDoor_sensing (s : State) (z : Zone) (f : ZoneDoor → ZoneDoor) : (s.mapZoneDoor z f).sensing = s.sensing := rfl
@[simp] theorem State.mapZoneDoor_zones (s : State) (z : Zone) (f : ZoneDoor → ZoneDoor) : (s.mapZoneDoor z f).zones = s.zones := rfl
@[simp] theorem State.mapZoneDoor_arb (s : State) (z : Zone) (f : ZoneDoor → ZoneDoor) : (s.mapZoneDoor z f).arb = s.arb := rfl
@[simp] theorem State.mapZoneDoor_route (s : State) (z : Zone) (f : ZoneDoor → ZoneDoor) : (s.mapZoneDoor z f).route = s.route := rfl
@[simp] theorem State.mapZoneDoor_comp (s : State) (z : Zone) (f : ZoneDoor → ZoneDoor) : (s.mapZoneDoor z f).comp = s.comp := rfl
@[simp] theorem State.mapZoneDoor_defrost (s : State) (z : Zone) (f : ZoneDoor → ZoneDoor) : (s.mapZoneDoor z f).defrost = s.defrost := rfl
@[simp] theorem State.mapZoneDoor_bus (s : State) (z : Zone) (f : ZoneDoor → ZoneDoor) : (s.mapZoneDoor z f).bus = s.bus := rfl
@[simp] theorem State.mapZoneDoor_link (s : State) (z : Zone) (f : ZoneDoor → ZoneDoor) : (s.mapZoneDoor z f).link = s.link := rfl
@[simp] theorem State.mapZoneDoor_events (s : State) (z : Zone) (f : ZoneDoor → ZoneDoor) : (s.mapZoneDoor z f).events = s.events := rfl
@[simp] theorem State.mapZoneDoor_service (s : State) (z : Zone) (f : ZoneDoor → ZoneDoor) : (s.mapZoneDoor z f).service = s.service := rfl
@[simp] theorem State.mapZoneDoor_pending (s : State) (z : Zone) (f : ZoneDoor → ZoneDoor) : (s.mapZoneDoor z f).pending = s.pending := rfl

@[simp] theorem State.mapZoneSettings_mode (s : State) (z : Zone) (f : ZoneSettings → ZoneSettings) : (s.mapZoneSettings z f).mode = s.mode := rfl
@[simp] theorem State.mapZoneSettings_strap (s : State) (z : Zone) (f : ZoneSettings → ZoneSettings) : (s.mapZoneSettings z f).strap = s.strap := rfl
@[simp] theorem State.mapZoneSettings_sensing (s : State) (z : Zone) (f : ZoneSettings → ZoneSettings) : (s.mapZoneSettings z f).sensing = s.sensing := rfl
@[simp] theorem State.mapZoneSettings_doors (s : State) (z : Zone) (f : ZoneSettings → ZoneSettings) : (s.mapZoneSettings z f).doors = s.doors := rfl
@[simp] theorem State.mapZoneSettings_zones (s : State) (z : Zone) (f : ZoneSettings → ZoneSettings) : (s.mapZoneSettings z f).zones = s.zones := rfl
@[simp] theorem State.mapZoneSettings_arb (s : State) (z : Zone) (f : ZoneSettings → ZoneSettings) : (s.mapZoneSettings z f).arb = s.arb := rfl
@[simp] theorem State.mapZoneSettings_route (s : State) (z : Zone) (f : ZoneSettings → ZoneSettings) : (s.mapZoneSettings z f).route = s.route := rfl
@[simp] theorem State.mapZoneSettings_comp (s : State) (z : Zone) (f : ZoneSettings → ZoneSettings) : (s.mapZoneSettings z f).comp = s.comp := rfl
@[simp] theorem State.mapZoneSettings_defrost (s : State) (z : Zone) (f : ZoneSettings → ZoneSettings) : (s.mapZoneSettings z f).defrost = s.defrost := rfl
@[simp] theorem State.mapZoneSettings_bus (s : State) (z : Zone) (f : ZoneSettings → ZoneSettings) : (s.mapZoneSettings z f).bus = s.bus := rfl
@[simp] theorem State.mapZoneSettings_link (s : State) (z : Zone) (f : ZoneSettings → ZoneSettings) : (s.mapZoneSettings z f).link = s.link := rfl
@[simp] theorem State.mapZoneSettings_events (s : State) (z : Zone) (f : ZoneSettings → ZoneSettings) : (s.mapZoneSettings z f).events = s.events := rfl
@[simp] theorem State.mapZoneSettings_service (s : State) (z : Zone) (f : ZoneSettings → ZoneSettings) : (s.mapZoneSettings z f).service = s.service := rfl
@[simp] theorem State.mapZoneSettings_pending (s : State) (z : Zone) (f : ZoneSettings → ZoneSettings) : (s.mapZoneSettings z f).pending = s.pending := rfl

@[simp] theorem State.mapZoneSettings_zone (s : State) (z : Zone) (f : ZoneSettings → ZoneSettings) :
    (s.mapZoneSettings z f).settings.zone = s.settings.zone.set z (f (s.settings.zone.get z)) := rfl

/-! ## What follows an event -/

@[simp] theorem State.doorPin_mode (s : State) (d : Door) (b : Bool) : (s.doorPin d b).mode = s.mode := rfl
@[simp] theorem State.doorPin_strap (s : State) (d : Door) (b : Bool) : (s.doorPin d b).strap = s.strap := rfl
@[simp] theorem State.doorPin_settings (s : State) (d : Door) (b : Bool) : (s.doorPin d b).settings = s.settings := rfl
@[simp] theorem State.doorPin_sensing (s : State) (d : Door) (b : Bool) : (s.doorPin d b).sensing = s.sensing := rfl
@[simp] theorem State.doorPin_zones (s : State) (d : Door) (b : Bool) : (s.doorPin d b).zones = s.zones := rfl
@[simp] theorem State.doorPin_arb (s : State) (d : Door) (b : Bool) : (s.doorPin d b).arb = s.arb := rfl
@[simp] theorem State.doorPin_route (s : State) (d : Door) (b : Bool) : (s.doorPin d b).route = s.route := rfl
@[simp] theorem State.doorPin_comp (s : State) (d : Door) (b : Bool) : (s.doorPin d b).comp = s.comp := rfl
@[simp] theorem State.doorPin_defrost (s : State) (d : Door) (b : Bool) : (s.doorPin d b).defrost = s.defrost := rfl
@[simp] theorem State.doorPin_bus (s : State) (d : Door) (b : Bool) : (s.doorPin d b).bus = s.bus := rfl
@[simp] theorem State.doorPin_link (s : State) (d : Door) (b : Bool) : (s.doorPin d b).link = s.link := rfl
@[simp] theorem State.doorPin_events (s : State) (d : Door) (b : Bool) : (s.doorPin d b).events = s.events := rfl
@[simp] theorem State.doorPin_service (s : State) (d : Door) (b : Bool) : (s.doorPin d b).service = s.service := rfl
@[simp] theorem State.doorPin_pending (s : State) (d : Door) (b : Bool) : (s.doorPin d b).pending = s.pending := rfl
@[simp] theorem State.doorPin_input (s : State) (d : Door) (b : Bool) : (s.doorPin d b).doors.input = s.doors.input.set d b := rfl
@[simp] theorem State.doorPin_sampling (s : State) (d : Door) (b : Bool) : (s.doorPin d b).doors.sampling = s.doors.sampling := rfl
@[simp] theorem State.doorPin_zone (s : State) (d : Door) (b : Bool) : (s.doorPin d b).doors.zone = s.doors.zone := rfl

@[simp] theorem hear_mode (e : Exchange) (s : State) : (hear e s).mode = s.mode := rfl
@[simp] theorem hear_strap (e : Exchange) (s : State) : (hear e s).strap = s.strap := rfl
@[simp] theorem hear_settings (e : Exchange) (s : State) : (hear e s).settings = s.settings := rfl
@[simp] theorem hear_sensing (e : Exchange) (s : State) : (hear e s).sensing = s.sensing := rfl
@[simp] theorem hear_doors (e : Exchange) (s : State) : (hear e s).doors = s.doors := rfl
@[simp] theorem hear_zones (e : Exchange) (s : State) : (hear e s).zones = s.zones := rfl
@[simp] theorem hear_arb (e : Exchange) (s : State) : (hear e s).arb = s.arb := rfl
@[simp] theorem hear_route (e : Exchange) (s : State) : (hear e s).route = s.route := rfl
@[simp] theorem hear_comp (e : Exchange) (s : State) : (hear e s).comp = s.comp := rfl
@[simp] theorem hear_defrost (e : Exchange) (s : State) : (hear e s).defrost = s.defrost := rfl
@[simp] theorem hear_link (e : Exchange) (s : State) : (hear e s).link = s.link := rfl
@[simp] theorem hear_events (e : Exchange) (s : State) : (hear e s).events = s.events := rfl
@[simp] theorem hear_service (e : Exchange) (s : State) : (hear e s).service = s.service := rfl
@[simp] theorem hear_pending (e : Exchange) (s : State) : (hear e s).pending = s.pending := rfl
@[simp] theorem hear_bus (e : Exchange) (s : State) : (hear e s).bus = { s.bus with exchange := some e } := rfl

@[simp] theorem endExchange_mode (s : State) : (endExchange s).mode = s.mode := rfl
@[simp] theorem endExchange_strap (s : State) : (endExchange s).strap = s.strap := rfl
@[simp] theorem endExchange_settings (s : State) : (endExchange s).settings = s.settings := rfl
@[simp] theorem endExchange_sensing (s : State) : (endExchange s).sensing = s.sensing := rfl
@[simp] theorem endExchange_doors (s : State) : (endExchange s).doors = s.doors := rfl
@[simp] theorem endExchange_zones (s : State) : (endExchange s).zones = s.zones := rfl
@[simp] theorem endExchange_arb (s : State) : (endExchange s).arb = s.arb := rfl
@[simp] theorem endExchange_route (s : State) : (endExchange s).route = s.route := rfl
@[simp] theorem endExchange_comp (s : State) : (endExchange s).comp = s.comp := rfl
@[simp] theorem endExchange_defrost (s : State) : (endExchange s).defrost = s.defrost := rfl
@[simp] theorem endExchange_link (s : State) : (endExchange s).link = s.link := rfl
@[simp] theorem endExchange_events (s : State) : (endExchange s).events = s.events := rfl
@[simp] theorem endExchange_service (s : State) : (endExchange s).service = s.service := rfl
@[simp] theorem endExchange_pending (s : State) : (endExchange s).pending = s.pending := rfl
@[simp] theorem endExchange_bus (s : State) : (endExchange s).bus = { s.bus with exchange := none } := rfl

@[simp] theorem stopBus_mode (s : State) : (stopBus s).mode = s.mode := rfl
@[simp] theorem stopBus_strap (s : State) : (stopBus s).strap = s.strap := rfl
@[simp] theorem stopBus_settings (s : State) : (stopBus s).settings = s.settings := rfl
@[simp] theorem stopBus_sensing (s : State) : (stopBus s).sensing = s.sensing := rfl
@[simp] theorem stopBus_doors (s : State) : (stopBus s).doors = s.doors := rfl
@[simp] theorem stopBus_zones (s : State) : (stopBus s).zones = s.zones := rfl
@[simp] theorem stopBus_arb (s : State) : (stopBus s).arb = s.arb := rfl
@[simp] theorem stopBus_route (s : State) : (stopBus s).route = s.route := rfl
@[simp] theorem stopBus_comp (s : State) : (stopBus s).comp = s.comp := rfl
@[simp] theorem stopBus_defrost (s : State) : (stopBus s).defrost = s.defrost := rfl
@[simp] theorem stopBus_link (s : State) : (stopBus s).link = s.link := rfl
@[simp] theorem stopBus_events (s : State) : (stopBus s).events = s.events := rfl
@[simp] theorem stopBus_service (s : State) : (stopBus s).service = s.service := rfl
@[simp] theorem stopBus_pending (s : State) : (stopBus s).pending = s.pending := rfl
@[simp] theorem stopBus_unit (s : State) : (stopBus s).bus.unit = s.bus.unit := rfl
@[simp] theorem stopBus_busMode (s : State) : (stopBus s).bus.mode = .stopped := rfl

@[simp] theorem react_strap (s : State) : (react s).strap = s.strap := by simp only [react]
@[simp] theorem react_settings (s : State) : (react s).settings = s.settings := by simp only [react]
@[simp] theorem react_sensing (s : State) : (react s).sensing = s.sensing := by simp only [react]
@[simp] theorem react_doors (s : State) : (react s).doors = s.doors := by simp only [react]
@[simp] theorem react_bus (s : State) : (react s).bus = s.bus := by simp only [react]
@[simp] theorem react_link (s : State) : (react s).link = s.link := by simp only [react]
@[simp] theorem react_events (s : State) : (react s).events = s.events := by simp only [react]
@[simp] theorem react_service (s : State) : (react s).service = s.service := by simp only [react]
@[simp] theorem react_pending (s : State) : (react s).pending = s.pending := by simp only [react]

@[simp] theorem publish_mode (s : State) : (publish s).mode = s.mode := rfl
@[simp] theorem publish_strap (s : State) : (publish s).strap = s.strap := rfl
@[simp] theorem publish_settings (s : State) : (publish s).settings = s.settings := rfl
@[simp] theorem publish_sensing (s : State) : (publish s).sensing = s.sensing := rfl
@[simp] theorem publish_doors (s : State) : (publish s).doors = s.doors := rfl
@[simp] theorem publish_zones (s : State) : (publish s).zones = s.zones := rfl
@[simp] theorem publish_arb (s : State) : (publish s).arb = s.arb := rfl
@[simp] theorem publish_bus (s : State) : (publish s).bus = s.bus := rfl
@[simp] theorem publish_service (s : State) : (publish s).service = s.service := rfl
@[simp] theorem publish_pending (s : State) : (publish s).pending = s.pending := rfl

@[simp] theorem finish_strap (s : State) : (finish s).strap = s.strap := by
  simp only [finish, publish_strap, react_strap]
@[simp] theorem finish_settings (s : State) : (finish s).settings = s.settings := by
  simp only [finish, publish_settings, react_settings]
@[simp] theorem finish_sensing (s : State) : (finish s).sensing = s.sensing := by
  simp only [finish, publish_sensing, react_sensing]
@[simp] theorem finish_doors (s : State) : (finish s).doors = s.doors := by
  simp only [finish, publish_doors, react_doors]
@[simp] theorem finish_bus (s : State) : (finish s).bus = s.bus := by
  simp only [finish, publish_bus, react_bus]
@[simp] theorem finish_service (s : State) : (finish s).service = s.service := by
  simp only [finish, publish_service, react_service]
@[simp] theorem finish_pending (s : State) : (finish s).pending = s.pending := by
  simp only [finish, publish_pending, react_pending]

/-- The outputs and the presentation of conditions leave mode control, the zone table and the arbiter as they are. -/
@[simp] theorem finish_mode (s : State) : (finish s).mode = (react s).mode := by simp only [finish, publish_mode]
@[simp] theorem finish_zones (s : State) : (finish s).zones = (react s).zones := by simp only [finish, publish_zones]
@[simp] theorem finish_arb (s : State) : (finish s).arb = (react s).arb := by simp only [finish, publish_arb]

@[simp] theorem publish_valve (s : State) : (publish s).route.valve = s.route.valve := rfl
@[simp] theorem publish_dampers (s : State) : (publish s).route.dampers = s.route.dampers := rfl
@[simp] theorem publish_app (s : State) : (publish s).route.app = s.route.app := rfl
@[simp] theorem publish_compState (s : State) : (publish s).comp.state = s.comp.state := rfl
@[simp] theorem publish_command (s : State) : (publish s).comp.command = s.comp.command := rfl
@[simp] theorem publish_runFor (s : State) : (publish s).comp.runFor = s.comp.runFor := rfl
@[simp] theorem publish_stopFor (s : State) : (publish s).comp.stopFor = s.comp.stopFor := rfl
@[simp] theorem publish_faults (s : State) : (publish s).comp.faults = s.comp.faults := rfl
@[simp] theorem publish_serviceSpeed (s : State) : (publish s).comp.serviceSpeed = s.comp.serviceSpeed := rfl
@[simp] theorem publish_phase (s : State) : (publish s).defrost.phase = s.defrost.phase := rfl
@[simp] theorem publish_th (s : State) : (publish s).defrost.th = s.defrost.th := rfl
@[simp] theorem publish_context (s : State) : (publish s).defrost.context = s.defrost.context := rfl
@[simp] theorem publish_heater (s : State) : (publish s).defrost.heater = s.heaterRule := rfl
@[simp] theorem publish_fans (s : State) : (publish s).route.fans = s.drivenFans := rfl

/-- The link after a presentation differs from the link before it in the notice-pending flag only (R193). -/
theorem publish_link (s : State) :
    (publish s).link = { s.link with noticePending := (publish s).link.noticePending } := rfl

theorem finish_link (s : State) :
    (finish s).link = { s.link with noticePending := (finish s).link.noticePending } := by
  have h := publish_link (react s)
  rwa [react_link] at h

/-- A presentation changes the live and latched parts of a set only (R190). -/
@[simp] theorem EventSet.present_rise (e : EventSet) (b : Byte) : (e.present b).rise = e.rise := rfl
@[simp] theorem EventSet.present_fall (e : EventSet) (b : Byte) : (e.present b).fall = e.fall := rfl
@[simp] theorem EventSet.present_live (e : EventSet) (b : Byte) : (e.present b).live = b := rfl

theorem publish_device (s : State) : (publish s).events.device = s.events.device.present (drive s).deviceConditions := rfl

theorem publish_zoneSet (s : State) (z : Zone) :
    ((publish s).events.zone.get z) = (s.events.zone.get z).present ((drive s).zoneConditions z) := by
  cases z <;> rfl

end Sys2Proof.Machine
end

