-- ==== Sys2Proof/Laws/React.lean ====
section
/-!
SUPPORT. What each shared operation of the reaction can change: the arbiter, the route controller and the compressor
controller (ArcOnly), and, where HEAT begins or ends, the DEFROST hold causes, the claim and the defrost controller.
-/
namespace Sys2Proof.Machine

/-- `t` differs from `s` in the arbiter, the route controller and the compressor controller only. -/
abbrev ArcOnly (s t : State) : Prop := t = { s with arb := t.arb, route := t.route, comp := t.comp }

theorem ArcOnly.refl (s : State) : ArcOnly s s := rfl

theorem ArcOnly.trans {s t u : State} (h : ArcOnly s t) (k : ArcOnly t u) : ArcOnly s u := by
  unfold ArcOnly at *
  rw [k, h]

theorem ArcOnly.mode {s t : State} (h : ArcOnly s t) : t.mode = s.mode := by rw [h]
theorem ArcOnly.settings {s t : State} (h : ArcOnly s t) : t.settings = s.settings := by rw [h]
theorem ArcOnly.strap {s t : State} (h : ArcOnly s t) : t.strap = s.strap := by rw [h]
theorem ArcOnly.sensing {s t : State} (h : ArcOnly s t) : t.sensing = s.sensing := by rw [h]
theorem ArcOnly.doors {s t : State} (h : ArcOnly s t) : t.doors = s.doors := by rw [h]
theorem ArcOnly.zones {s t : State} (h : ArcOnly s t) : t.zones = s.zones := by rw [h]
theorem ArcOnly.defrost {s t : State} (h : ArcOnly s t) : t.defrost = s.defrost := by rw [h]
theorem ArcOnly.bus {s t : State} (h : ArcOnly s t) : t.bus = s.bus := by rw [h]
theorem ArcOnly.link {s t : State} (h : ArcOnly s t) : t.link = s.link := by rw [h]
theorem ArcOnly.events {s t : State} (h : ArcOnly s t) : t.events = s.events := by rw [h]
theorem ArcOnly.service {s t : State} (h : ArcOnly s t) : t.service = s.service := by rw [h]
theorem ArcOnly.pending {s t : State} (h : ArcOnly s t) : t.pending = s.pending := by rw [h]

/-! ## Compressor controller -/

theorem recompute_arc (s : State) : ArcOnly s (recompute s) := by
  unfold recompute; split <;> rfl

theorem dropCommand_arc (s : State) : ArcOnly s (dropCommand s) := rfl
theorem startComp_arc (s : State) : ArcOnly s (startComp s) := rfl
theorem stopComp_arc (s : State) : ArcOnly s (stopComp s) := rfl

theorem compReact_arc (s : State) : ArcOnly s (compReact s) := by
  unfold compReact; split
  · exact startComp_arc s
  · split
    · exact stopComp_arc s
    · exact ArcOnly.refl s

theorem takeFault_arc (source : FaultSource) (code : Byte) (s : State) : ArcOnly s (takeFault source code s) := by
  unfold takeFault; split <;> rfl

theorem inverterLost_arc (s : State) : ArcOnly s (inverterLost s) := by
  unfold inverterLost; split
  · rfl
  · split <;> rfl

theorem interpretStatus_arc (before : Option InvStatus) (st : InvStatus) (s : State) :
    ArcOnly s (interpretStatus before st s) := by
  unfold interpretStatus
  split
  · split
    · split
      · exact ArcOnly.refl s
      · exact takeFault_arc _ _ s
    · exact takeFault_arc _ _ s
  · rfl
  · split <;> rfl

theorem applyInvStatus_arc (st : InvStatus) (s : State) : ArcOnly s (applyInvStatus st s) := by
  unfold applyInvStatus
  exact ArcOnly.trans (by rfl) (interpretStatus_arc _ _ _)

/-! ## Route controller -/

theorem mapValve_arc (s : State) (f : Valve → Valve) : ArcOnly s (s.mapValve f) := rfl
theorem setValveTarget_arc (p : ValvePos) (s : State) : ArcOnly s (setValveTarget p s) := rfl
theorem holdValve_arc (s : State) : ArcOnly s (holdValve s) := rfl
theorem kickValve_arc (s : State) : ArcOnly s (kickValve s) := rfl
theorem changeDampers_arc (a b : Nat) (s : State) : ArcOnly s (changeDampers a b s) := rfl
theorem clearPreChill_arc (s : State) : ArcOnly s (clearPreChill s) := rfl

theorem applyRoute_arc (z : Zone) (s : State) : ArcOnly s (applyRoute z s) := by
  unfold applyRoute; split <;> rfl

theorem inPlaceTest_arc (s : State) : ArcOnly s (inPlaceTest s) := by
  unfold inPlaceTest; split
  · split <;> rfl
  · rfl

theorem preChillCompare_arc (f : EvapFan) (s : State) : ArcOnly s (preChillCompare f s) := by
  unfold preChillCompare
  split
  · split
    · split
      · split <;> rfl
      · rfl
    · rfl
  · rfl

theorem startPreChill_arc (z : Zone) (s : State) : ArcOnly s (startPreChill z s) := by
  unfold startPreChill
  exact ArcOnly.trans (by rfl) (preChillCompare_arc _ _)

/-! ## Arbiter -/

theorem relist_arc (s : State) : ArcOnly s (relist s) := rfl

theorem normalise_arc (s : State) : ArcOnly s (normalise s) := by
  have h2 : ∀ s, ArcOnly s (normaliseP2 s) := by
    intro s; unfold normaliseP2; split
    · split <;> rfl
    · rfl
  have h1 : ∀ s, ArcOnly s (normaliseP1 s) := by
    intro s; unfold normaliseP1; split
    · split <;> rfl
    · rfl
  exact (h2 s).trans (h1 _)

theorem movePointers_arc (z : Zone) (s : State) : ArcOnly s (movePointers z s) := by
  unfold movePointers; split <;> rfl

theorem createGrant_arc (z : Zone) (r : GrantReason) (s : State) : ArcOnly s (createGrant z r s) := by
  unfold createGrant
  refine ArcOnly.trans (movePointers_arc z s) ?_
  refine ArcOnly.trans ?_ (recompute_arc _)
  refine ArcOnly.trans ?_ (applyRoute_arc z _)
  exact ArcOnly.trans (by rfl) (clearPreChill_arc _)

theorem regrant_arc (z : Zone) (s : State) : ArcOnly s (regrant z s) := by
  unfold regrant
  refine ArcOnly.trans (movePointers_arc z s) ?_
  exact ArcOnly.trans (by rfl) (recompute_arc _)

theorem endGrant_arc (r : EndReason) (s : State) : ArcOnly s (endGrant r s) := by
  unfold endGrant; split
  · exact ArcOnly.trans (by rfl) (relist_arc _)
  · rfl

theorem rehomeTest_arc (s : State) : ArcOnly s (rehomeTest s) := by
  unfold rehomeTest; split
  · exact ArcOnly.trans (by rfl) (kickValve_arc _)
  · rfl

theorem enterParked_arc (s : State) : ArcOnly s (enterParked s) := by
  unfold enterParked
  refine ArcOnly.trans ?_ (rehomeTest_arc _)
  split <;> rfl

theorem enterParkDelay_arc (s : State) : ArcOnly s (enterParkDelay s) := by
  unfold enterParkDelay
  split
  · exact ArcOnly.trans (by rfl) (enterParked_arc _)
  · rfl

theorem enterIdle_arc (s : State) : ArcOnly s (enterIdle s) := by
  unfold enterIdle
  refine ArcOnly.trans ?_ (recompute_arc _)
  split
  · rfl
  · exact enterParkDelay_arc s

theorem runoutEnd_arc (s : State) : ArcOnly s (runoutEnd s) := by
  unfold runoutEnd; split
  · exact enterParkDelay_arc s
  · rfl

theorem afterEnd_arc (s : State) : ArcOnly s (afterEnd s) := by
  unfold afterEnd
  refine (normalise_arc s).trans ?_
  dsimp only
  split
  · exact createGrant_arc _ _ _
  · exact enterIdle_arc _

theorem markContinuation_arc (s : State) : ArcOnly s (markContinuation s) := rfl

theorem heldGrant_arc (g : Grant) (s : State) : ArcOnly s (heldGrant g s) := by
  unfold heldGrant
  split
  · exact (endGrant_arc _ s).trans (afterEnd_arc _)
  · refine (markContinuation_arc s).trans ?_
    dsimp only
    split
    · split
      · exact ((endGrant_arc _ _).trans (normalise_arc _)).trans (createGrant_arc _ _ _)
      · rfl
    · rfl

theorem noGrant_arc (s : State) : ArcOnly s (noGrant s) := by
  unfold noGrant
  dsimp only
  split
  · exact (normalise_arc s).trans (createGrant_arc _ _ _)
  · exact (runoutEnd_arc s).trans (rehomeTest_arc _)

theorem arbitrate_arc (s : State) : ArcOnly s (arbitrate s) := by
  unfold arbitrate
  refine (relist_arc s).trans ?_
  dsimp only
  split
  · split
    · exact heldGrant_arc _ _
    · exact noGrant_arc _
  · rfl

theorem coolingStart_arc (s : State) : ArcOnly s (coolingStart s) := by
  unfold coolingStart
  split
  · split
    · refine ArcOnly.trans ?_ (startPreChill_arc _ _)
      exact ArcOnly.trans (by rfl) (recompute_arc _)
    · rfl
  · rfl

/-- One pass of the arbiter, the compressor controller and the route controller changes nothing else. -/
theorem settle_arc (s : State) : ArcOnly s (settle s) := by
  unfold settle
  exact ((((arbitrate_arc s).trans (kickValve_arc _)).trans (compReact_arc _)).trans (inPlaceTest_arc _)).trans
    (coolingStart_arc _)

/-! ## The zone table in the reaction -/

/-- A zone record differs in its DEFROST hold cause only. -/
abbrev ZoneRec.holdOnly (r t : ZoneRec) : Prop := t = { r with holdDefrost := t.holdDefrost }

theorem holdDefrost_holdOnly (on : Bool) (s : State) (z : Zone) :
    (s.zones.get z).holdOnly ((holdDefrost on s).zones.get z) := by
  cases z <;> rfl

theorem endDefrost_zones (t : Termination) (th : Nat) (s : State) : (endDefrost t th s).zones = s.zones := rfl

theorem completeDefrost_zones (s : State) : (completeDefrost s).zones = s.zones := by
  unfold completeDefrost; split <;> rfl

theorem fanReleaseTest_zones (s : State) : (fanReleaseTest s).zones = s.zones := by
  unfold fanReleaseTest
  split
  · split
    · exact completeDefrost_zones s
    · rfl
  · rfl

theorem enterRecover_holdOnly (s : State) (z : Zone) : (s.zones.get z).holdOnly ((enterRecover s).zones.get z) := by
  unfold enterRecover
  dsimp only
  rw [fanReleaseTest_zones]
  split <;> exact holdDefrost_holdOnly false (s.mapDefrost _) z

theorem endHeat_holdOnly (t : Termination) (s : State) (z : Zone) :
    (s.zones.get z).holdOnly ((endHeat t s).zones.get z) := by
  unfold endHeat
  dsimp only
  split
  · split
    · exact enterRecover_holdOnly _ z
    · rfl
  · rfl

theorem ZoneRec.holdOnly_trans {r t u : ZoneRec} (h : r.holdOnly t) (k : t.holdOnly u) : r.holdOnly u := by
  unfold ZoneRec.holdOnly at *
  rw [k, h]

theorem enterHeat_holdOnly (s : State) (z : Zone) : (s.zones.get z).holdOnly ((enterHeat s).zones.get z) := by
  unfold enterHeat
  dsimp only
  split
  · split
    · exact ZoneRec.holdOnly_trans (holdDefrost_holdOnly true s z) (endHeat_holdOnly _ _ z)
    · exact holdDefrost_holdOnly true s z
  · exact holdDefrost_holdOnly true s z

theorem pendingTest_holdOnly (s : State) (z : Zone) : (s.zones.get z).holdOnly ((pendingTest s).zones.get z) := by
  unfold pendingTest
  split
  · exact enterHeat_holdOnly s z
  · rfl

theorem initEnd_zones (s : State) : (initEnd s).zones = s.zones := by
  unfold initEnd
  split
  · rw [(normalise_arc _).zones]
  · rfl

/-- The reaction changes a zone record in its DEFROST hold cause only: demand, blind and warm timers, no-progress count,
isolation hold and HARVEST are the direct effect's. -/
theorem react_holdOnly (s : State) (z : Zone) : (s.zones.get z).holdOnly ((react s).zones.get z) := by
  have h : (react s).zones = (reaction s).zones := by simp only [react]
  rw [h]
  unfold reaction
  rw [(settle_arc _).zones]
  have k := pendingTest_holdOnly (settle (initEnd s)) z
  rwa [(settle_arc _).zones, initEnd_zones] at k

theorem finish_holdOnly (s : State) (z : Zone) : (s.zones.get z).holdOnly ((finish s).zones.get z) := by
  rw [finish_zones]
  exact react_holdOnly s z

theorem finish_demand (s : State) (z : Zone) : ((finish s).zones.get z).demand = (s.zones.get z).demand := by
  rw [finish_holdOnly s z]

theorem finish_level (s : State) (z : Zone) : ((finish s).zones.get z).level = (s.zones.get z).level := by
  rw [finish_holdOnly s z]

theorem finish_blind (s : State) (z : Zone) : ((finish s).zones.get z).blind = (s.zones.get z).blind := by
  rw [finish_holdOnly s z]

theorem finish_warm (s : State) (z : Zone) : ((finish s).zones.get z).warm = (s.zones.get z).warm := by
  rw [finish_holdOnly s z]

theorem finish_isolation (s : State) (z : Zone) : ((finish s).zones.get z).isolation = (s.zones.get z).isolation := by
  rw [finish_holdOnly s z]

/-! ## Mode control in the reaction -/

/-- The reaction changes mode control at the end of INIT only (R198). -/
theorem initEnd_mode (s : State) :
    (initEnd s).mode = s.mode ∨
      (s.mode.opState = .init ∧ (initEnd s).mode = { s.mode with opState := .run }) := by
  unfold initEnd
  split
  · rename_i h
    right
    refine ⟨?_, by rw [(normalise_arc _).mode]⟩
    simp only [Bool.and_eq_true, decide_eq_true_eq] at h
    exact h.1.1
  · exact Or.inl rfl

end Sys2Proof.Machine
end

