-- ==== Sys2Proof/Laws/Commands.lean ====
section
/-!
SUPPORT. What the shared operations under the commands can do, said once each: timers, the taking of a request, the reply,
the receiver, the unit table, slots, the waiting list, demand, the target speed, the creation and the end of a grant.
-/
namespace Sys2Proof.Machine

/-! ## Timers -/

theorem countUp_eq (limit t : Ticks) : countUp limit t = t ∧ limit ≤ t + 1 ∨ countUp limit t = t + 1 ∧ t + 1 < limit := by
  unfold countUp; split <;> simp_all

theorem countDown_eq (t : Ticks) : countDown t = t ∧ t ≤ 1 ∨ countDown t = t - 1 ∧ 1 < t := by
  unfold countDown; split <;> simp_all

theorem satUp_le (t : Ticks) : satUp t ≤ satTicks := Nat.min_le_right _ _

theorem Strap.readDue_iff (r : Strap) : r.readDue = true ↔ ∃ t, r.reading = some t ∧ strapTicks ≤ t + 1 := by
  unfold Strap.readDue; cases r.reading <;> simp [dueUp]

/-! ## The line in FAULT (R179) -/

theorem lastLevels_length (levels : List Bool) : (lastLevels levels).length ≤ lineBits := by
  unfold lastLevels; rw [List.length_drop]; omega

theorem Bus.lineHigh_iff (b : Bus) : b.lineHigh = true ↔ b.line = List.replicate 10 true := by
  rw [List.eq_replicate_iff, Bus.lineHigh, Bool.and_eq_true]
  exact and_congr decide_eq_true_iff (by simp)

/-- The FAULT check enters ACTIVE or restarts its timer, by the line. -/
theorem faultCheck_cases (s : State) :
    s.bus.line = List.replicate 10 true ∧ faultCheck s = enterActive s ∨
      s.bus.line ≠ List.replicate 10 true ∧ faultCheck s = { s with bus := { s.bus with checkTimer := some 0 } } := by
  unfold faultCheck
  split
  · exact .inl ⟨s.bus.lineHigh_iff.mp ‹_›, rfl⟩
  · exact .inr ⟨fun h => ‹¬_› (s.bus.lineHigh_iff.mpr h), rfl⟩

/-! ## The release test of RECOVER (R147) -/

/-- The release test completes the defrost on a VALID FZ coil at -100 or below in RECOVER, and else does nothing. -/
theorem fanReleaseTest_cases (s : State) :
    fanReleaseTest s = s ∨
      (∃ f, s.fzCoil = some f ∧ f ≤ -100 ∧ s.defrost.phase = .recover) ∧ fanReleaseTest s = completeDefrost s := by
  unfold fanReleaseTest
  split
  · rename_i f h
    split
    · rename_i hc
      simp only [Bool.and_eq_true, decide_eq_true_eq] at hc
      exact .inr ⟨⟨f, h, hc.2, hc.1⟩, rfl⟩
    · exact .inl rfl
  · exact .inl rfl

/-! ## Requests -/

/-- A request is taken in one of three ways: not at all, refused for its length, or acted on by its owner. -/
theorem takeRequest_cases (type : Byte) (p : List Byte) (n : Nat) (owner : State → Status × State)
    (fields : State → List Byte) (s : State) :
    s.taking type p = false ∧ takeRequest type p n owner fields s = s ∨
      s.taking type p = true ∧ p.length ≠ n ∧
        takeRequest type p n owner fields s = { s with link := s.link.ready (replyFrame type .badLength []) } ∨
      s.taking type p = true ∧ p.length = n ∧
        takeRequest type p n owner fields s =
          { (owner s).2 with
            link := (owner s).2.link.ready (replyFrame type (owner s).1 (fields (owner s).2)) } := by
  unfold takeRequest
  cases h : s.taking type p
  · simp
  · by_cases hn : p.length = n <;> simp [hn]

/-- What holds of the state and of its owner's state, and does not look at the link, holds after the taking. -/
theorem takeRequest_keeps (Q : State → Prop) (type : Byte) (p : List Byte) (n : Nat) (owner : State → Status × State)
    (fields : State → List Byte) (s : State) (hs : Q s) (howner : Q (owner s).2)
    (hlink : ∀ (t : State) (l : Link), Q t → Q { t with link := l }) : Q (takeRequest type p n owner fields s) := by
  rcases takeRequest_cases type p n owner fields s with ⟨-, h⟩ | ⟨-, -, h⟩ | ⟨-, -, h⟩ <;> rw [h]
  · exact hs
  · exact hlink _ _ hs
  · exact hlink _ _ howner

/-- The owner keeps the queue, so the taking does. -/
theorem takeRequest_pending (type : Byte) (p : List Byte) (n : Nat) (owner : State → Status × State)
    (fields : State → List Byte) (s : State) (h : (owner s).2.pending = s.pending) :
    (takeRequest type p n owner fields s).pending = s.pending :=
  takeRequest_keeps (fun t => t.pending = s.pending) type p n owner fields s rfl h (fun _ _ h => h)

theorem taking_iff (s : State) (type : Byte) (p : List Byte) :
    s.taking type p = true ↔ s.link.handling = true ∧ s.link.reply = none ∧ s.link.buffer = type :: p := by
  simp [State.taking, and_assoc]

/-- A reply that is ready is sent at once by an idle transmitter and waits for a NOTICE otherwise (R194). -/
theorem Link.ready_cases (l : Link) (frame : List Byte) :
    l.transmitter = .idle ∧
        l.ready frame =
          { l with reply := some frame, transmitter := .sendingReply, sending := frame, sendLeft := 5 * frame.length } ∨
      l.transmitter ≠ .idle ∧ l.ready frame = { l with reply := some frame } := by
  unfold Link.ready sendTime
  cases h : l.transmitter <;> simp

/-! ## The receiver -/

/-- A closed link, and a link in handling, take no character (R187, R195). -/
theorem Link.receive_deaf (l : Link) (c : RxChar) (h : l.isOpen = false ∨ l.handling = true) : l.receive c = l := by
  unfold Link.receive
  rcases h with h | h <;> simp [h]

/-- The receiver changes nothing but its own four fields and the handling flag. -/
theorem Link.receive_frame (l : Link) (c : RxChar) :
    l.receive c =
      { l with
        receiver := (l.receive c).receiver, len := (l.receive c).len, buffer := (l.receive c).buffer
        gap := (l.receive c).gap, handling := (l.receive c).handling } := by
  unfold Link.receive Link.drop
  split
  · rfl
  · split
    · split <;> rfl
    · split
      · unfold Link.inHunt; split <;> rfl
      · unfold Link.inLength Link.drop; split <;> rfl
      · rfl
      · unfold Link.inCheck Link.drop; split <;> rfl

/-! ## Unit bus -/

/-- A slot that begins stands at time 0, with an exchange unless its unit is ABSENT (R172). -/
theorem beginSlot_bus (p : Slot) (s : State) :
    (beginSlot p s).bus =
      { s.bus with
        position := some p
        slotFor := 0
        exchange := if (s.bus.unit.get p.unit).state = .absent then none else some ⟨p, s.setData p, []⟩ } := rfl

/-- An opening asked acts in STOPPED, waits behind a deferred stop, and otherwise changes nothing (R178, R180). -/
theorem askOpening_cases (s : State) :
    s.bus.mode = .stopped ∧ askOpening s = enterActive s ∨
      s.bus.mode ≠ .stopped ∧ s.bus.deferred = .none ∧ askOpening s = s ∨
      s.bus.mode ≠ .stopped ∧ s.bus.deferred ≠ .none ∧
        askOpening s = { s with bus := { s.bus with deferred := .stopThenOpen } } := by
  unfold askOpening
  by_cases h : s.bus.mode = .stopped <;> by_cases k : s.bus.deferred = .none <;> simp [h, k]

/-- A stop asked waits for the end of the slot in ACTIVE and acts at once otherwise (R180). -/
theorem askStop_cases (s : State) :
    s.bus.mode = .active ∧ askStop s = { s with bus := { s.bus with deferred := .stop } } ∨
      s.bus.mode ≠ .active ∧ askStop s = stopBus s := by
  unfold askStop
  by_cases h : s.bus.mode = .active <;> simp [h]

theorem upToNow_iff (b : Bus) (heard : List Bool) :
    b.upToNow heard = true ↔ b.slotFor ≤ heard.length ∧ heard.length ≤ b.slotFor + 1 := by
  simp [Bus.upToNow]

/-- Levels that a command brings do nothing without an exchange or out of the slot's time, end the exchange as the command
says, or are heard (R167, R173). -/
theorem levels_cases (heard : List Bool) (ends : Exchange → ExchangeEnd → State → Option State) (s : State) :
    levels heard ends s = s ∨
      ∃ e, s.bus.exchange = some e ∧ s.bus.upToNow heard = true ∧
        ((∃ x t, Exchange.outcome { e with heard := heard } = some x ∧ ends { e with heard := heard } x s = some t ∧
            levels heard ends s = t) ∨
          levels heard ends s = hear { e with heard := heard } s) := by
  unfold levels
  cases he : s.bus.exchange with
  | none => simp
  | some e =>
    cases hu : s.bus.upToNow heard with
    | false => simp
    | true =>
      cases ho : Exchange.outcome { e with heard := heard } with
      | none => simp [ho]
      | some x => cases hx : ends { e with heard := heard } x s <;> simp [ho, hx]

/-- A bit time that passes adds one level where none was reported yet, and changes nothing else of the exchange (R167). -/
theorem Exchange.advance_spec (slotFor : Ticks) (e : Exchange) :
    (e.advance slotFor).slot = e.slot ∧ (e.advance slotFor).data = e.data ∧
      (e.heard.length ≤ slotFor → (e.advance slotFor).heard.length = e.heard.length + 1) ∧
      (slotFor < e.heard.length → e.advance slotFor = e) := by
  unfold Exchange.advance
  by_cases h : e.heard.length ≤ slotFor <;> simp [h]

/-- Two bit sequences without a mismatch agree as far as both go (R167). -/
theorem firstMismatch_none (own heard : List Bool) :
    firstMismatch own heard = none ↔ own.take heard.length = heard.take own.length := by
  induction own generalizing heard with
  | nil => simp [firstMismatch]
  | cons a own ih =>
    cases heard with
    | nil => simp [firstMismatch]
    | cons b heard => by_cases h : a = b <;> simp [firstMismatch, h, ih]

/-- The first mismatch is a bit time whose level differs, all before it agreeing (R167). -/
theorem firstMismatch_some (own heard : List Bool) (i : Nat) (h : firstMismatch own heard = some i) :
    i < own.length ∧ i < heard.length ∧ own.take i = heard.take i ∧ own[i]? ≠ heard[i]? := by
  induction own generalizing heard i with
  | nil => simp [firstMismatch] at h
  | cons a own ih =>
    cases heard with
    | nil => simp [firstMismatch] at h
    | cons b heard =>
      by_cases hab : a = b
      · simp only [firstMismatch, hab, if_true, Option.map_eq_some_iff] at h
        obtain ⟨j, hj, rfl⟩ := h
        obtain ⟨h1, h2, h3, h4⟩ := ih heard j hj
        exact ⟨by simpa using h1, by simpa using h2, by simp [hab, h3], by simpa using h4⟩
      · simp only [firstMismatch, hab, if_false, Option.some.injEq] at h
        subst h
        simp [hab]

/-- A failure: one more, held at 255, the last error, and SUSPECT or LOST (R175(a)). -/
theorem UnitRec.fail_eq (r : UnitRec) (k : ErrorKind) :
    (r.fail k).failures = min 255 (r.failures + 1) ∧ (r.fail k).lastError = k ∧ (r.fail k).payload = r.payload ∧
      ((r.fail k).state = .lost ↔ 8 ≤ min 255 (r.failures + 1) ∨ r.state = .lost) ∧
      ((r.fail k).state = .lost ∨ (r.fail k).state = .suspect) := by
  unfold UnitRec.fail lostLimit
  refine ⟨rfl, rfl, rfl, ?_, ?_⟩
  · by_cases h : 8 ≤ min 255 (r.failures + 1) <;> by_cases k : r.state = .lost <;> simp [h, k]
  · by_cases h : 8 ≤ min 255 (r.failures + 1) <;> by_cases k : r.state = .lost <;> simp [h, k]

/-! ## Doors -/

/-- A door command changes the debounce record of its door and its pin alone, or takes the event with them (R158). -/
theorem doorEvent_cases (d : Door) (level : Bool) (leaves : DoorState) (effect : State → State) (s : State) :
    s.doors.sampling = true ∧ (s.doors.door.get d).state = leaves ∧ (s.doors.door.get d).sample = level ∧
        959 ≤ (s.doors.door.get d).stable ∧
        doorEvent d level leaves effect s = finish (effect ((s.doorPin d level).mapDoor d fun r => r.take level)) ∨
      doorEvent d level leaves effect s = s.doorPin d level := by
  unfold doorEvent
  by_cases hs : s.doors.sampling = true
  · by_cases hl : (s.doors.door.get d).sample = level
    · by_cases hst : (s.doors.door.get d).state = leaves <;> by_cases hn : 959 ≤ (s.doors.door.get d).stable <;>
        simp [State.doorPin, DoorRec.read, DoorRec.settled, dueUp, debounceTicks, hs, hl, hst, hn]
    · simp [State.doorPin, DoorRec.read, DoorRec.settled, dueUp, debounceTicks, hs, hl]
  · simp [hs]

/-! ## The waiting list -/

theorem State.holds_false_iff (s : State) (z : Zone) :
    s.holds z = false ↔ ∀ g, s.arb.grant = some g → g.zone ≠ z := by
  unfold State.holds; cases s.arb.grant <;> simp

theorem State.onList_iff (s : State) (z : Zone) : s.onList z = true ↔ ∃ w ∈ s.arb.waiting, w.zone = z := by
  simp [State.onList]

theorem State.member_iff (s : State) (z : Zone) :
    s.member z = true ↔
      (s.zones.get z).demand = .calling ∧ s.present z = true ∧ (s.settings.zone.get z).enabled = true ∧
        (s.zones.get z).isolation = none := by
  simp [State.member, State.isolated, and_assoc]

/-- The list is exact when the arbiter's own tests say so of every zone (R56). -/
theorem State.listExact_iff (s : State) : s.listExact ↔ ∀ z, s.onList z = (s.member z && !s.holds z) := by
  refine forall_congr' fun z => ?_
  have bools : s.onList z = (s.member z && !s.holds z) ↔
      (s.onList z = true ↔ s.member z = true ∧ s.holds z = false) := by
    cases s.onList z <;> cases s.member z <;> cases s.holds z <;> simp
  rw [bools, s.onList_iff z, s.member_iff z, s.holds_false_iff z]
  simp only [and_assoc]

theorem mem_allZones (z : Zone) : z ∈ Zone.all := by cases z <;> decide

/-- The list after its recomputation is exact, whatever it was (R56). -/
theorem relist_exact (s : State) : (relist s).listExact := by
  have member : ∀ z, (relist s).member z = s.member z := fun z => rfl
  have holds : ∀ z, (relist s).holds z = s.holds z := fun z => rfl
  rw [State.listExact_iff]
  intro z
  rw [member, holds, Bool.eq_iff_iff]
  simp only [State.onList_iff, relist, State.relisted, List.mem_append, List.mem_filter, List.mem_map, mem_allZones]
  constructor
  · rintro ⟨w, ⟨-, h⟩ | ⟨y, ⟨-, h⟩, rfl⟩, rfl⟩ <;> simp_all
  · intro h
    cases on : s.onList z
    · exact ⟨⟨z, 0⟩, .inr ⟨z, by simp_all, rfl⟩, rfl⟩
    · obtain ⟨w, hw, rfl⟩ := (s.onList_iff z).mp on
      exact ⟨w, .inl ⟨hw, h⟩, rfl⟩

/-! ## Target speed and demand -/

/-- N after an event, by the compressor state (R115(c), R121). -/
theorem State.shownTarget_cases (s : State) :
    s.comp.state = .running ∧ s.shownTarget = s.comp.target ∨
      s.comp.state ≠ .running ∧ s.runRequest = false ∧ s.shownTarget = none ∨
        s.comp.state = .stopped ∧ s.runRequest = true ∧ s.shownTarget = some s.settings.comp.nMin ∨
          s.comp.state ≠ .running ∧ s.comp.state ≠ .stopped ∧ s.runRequest = true ∧
            s.shownTarget = some (s.comp.target.getD s.settings.comp.nMin) := by
  unfold State.shownTarget
  cases s.comp.state <;> cases s.runRequest <;> simp

/-- What the replacement of a zone's demand does to the door monitor (R44(c)). -/
theorem setDemand_doors (z : Zone) (d : Demand) (level : Nat) (s : State) :
    (setDemand z d level s).doors =
      if (s.zones.get z).demand = .calling ∧ d = .satisfied then
        { s.doors with zone := s.doors.zone.set z { s.doors.zone.get z with recovery := false } }
      else s.doors := by
  unfold setDemand
  by_cases h : (s.zones.get z).demand = .calling ∧ d = .satisfied
  · simp [h.1, h.2, State.mapZone]
  · rw [if_neg h, if_neg (by simpa using h)]; rfl

/-! ## Grants -/

/-- A grant end that leaves no grant enters RUNOUT or PARK_DELAY, and recomputes (R80, R121). -/
theorem enterIdle_cases (s : State) :
    s.commandedOn = true ∧ s.minOnMet = false ∧
        enterIdle s = recompute { s with arb := { s.arb with idle := some .runout } } ∨
      (s.commandedOn = false ∨ s.minOnMet = true) ∧ enterIdle s = recompute (enterParkDelay s) := by
  unfold enterIdle
  cases s.commandedOn <;> cases s.minOnMet <;> simp

theorem recompute_arb (s : State) : (recompute s).arb = s.arb := by
  unfold recompute; split <;> rfl

theorem applyRoute_arb (z : Zone) (s : State) : (applyRoute z s).arb = s.arb := by
  unfold applyRoute; split <;> rfl

theorem movePointers_grant (z : Zone) (s : State) : (movePointers z s).newGrant = s.newGrant := by
  unfold movePointers; split <;> rfl

/-- A grant that is created holds the compressor with its zone and reason, and the zone is off the list (R69). -/
theorem createGrant_grant (z : Zone) (r : GrantReason) (s : State) :
    (createGrant z r s).arb.grant = some (s.newGrant z r) ∧ (createGrant z r s).arb.idle = none ∧
      ∀ w ∈ (createGrant z r s).arb.waiting, w.zone ≠ z := by
  unfold createGrant
  refine ⟨?_, ?_, ?_⟩
  · simp only [recompute_arb, applyRoute_arb]; rfl
  · simp only [recompute_arb, applyRoute_arb]; rfl
  · intro w hw
    simp only [recompute_arb, applyRoute_arb, clearPreChill, List.mem_filter] at hw
    simpa using hw.2

/-- After a grant's end no grant exists, and the end is recorded (R79). -/
theorem endGrant_spec (r : EndReason) (s : State) :
    (endGrant r s).arb.grant = none ∧ ∀ g, s.arb.grant = some g → (endGrant r s).arb.lastEnd = some ⟨g.zone, r⟩ := by
  unfold endGrant
  cases h : s.arb.grant with
  | none => simp [h]
  | some g => simp [relist]

end Sys2Proof.Machine
end

