-- ==== Sys2Proof/Tests/Slice0.lean ====
section
/-!
SUPPORT. Tests. Well-formedness on ill-formed terms; worked examples of spec/ with the results spec/ prints; and for every
statement with hypotheses a witness, `witness_<Name>`: concrete states and operands that meet the hypotheses of its clauses,
at boundary values of their ranges.
-/
namespace Sys2Proof.Tests
open Sys2Proof.Machine

/-! ## Well-formedness: ill-formed terms are refused -/

theorem test_wellFormed_payload_too_long : (Instr.zoneSet (List.replicate 61 0)).wellFormed = false := by decide
theorem test_wellFormed_payload_longest : (Instr.zoneSet (List.replicate 60 0)).wellFormed = true := by decide
theorem test_wellFormed_unknown_request_known_type : (Instr.unknownRequest 0x10 []).wellFormed = false := by decide
theorem test_wellFormed_frame_too_long :
    (Instr.hostFrameReceived (List.replicate 65 ⟨0, true⟩)).wellFormed = false := by decide
theorem test_wellFormed_levels_past_the_slot (heard : List Bool) (h : 384 < heard.length) :
    (Instr.statusExchangeSuccess heard).wellFormed = false ∧ (Instr.exchangeFailure heard).wellFormed = false ∧
      (Instr.responseLimitExpiry heard).wellFormed = false := by
  have k : decide (heard.length ≤ 384) = false := decide_eq_false (Nat.not_le.mpr h)
  exact ⟨k, k, k⟩

theorem test_wellFormed_line_of_nine : (Instr.faultCheckExpiry (List.replicate 9 true)).wellFormed = false := by decide

/-! ## Small states -/

/-- A class D cabinet in RUN, parked, after its strap read. -/
def demo : State :=
  { State.reset with
    mode := ⟨.run, .hardReset, none⟩
    strap := ⟨none, .d, .d, false⟩
    arb := { Arbiter.reset with idle := some .parked }
    bus := { Bus.reset with mode := .active, position := some .s1, unit := unitTable .d }
    doors := { Doors.reset with sampling := true }
    link := { Link.reset with isOpen := true } }

/-- `s` in SERVICE. -/
def inService (s : State) : State := { s with mode := ⟨.service, .hardReset, some 1⟩ }

/-- `s` with a request whose frame has been received. -/
def asking (s : State) (type : Byte) (p : List Byte) : State :=
  { s with link := { s.link with handling := true, buffer := type :: p } }

/-- A zone CALLING at level 40. -/
def calling (s : State) (z : Zone) : State := s.mapZone z fun r => { r with demand := .calling, level := 40 }

/-- A grant with the least fields. -/
def grantOf (z : Zone) (phase : GrantPhase) (minLeft maxLeft : Ticks) : Grant :=
  ⟨z, .rotation, phase, 0, minLeft, maxLeft, some (-150), false, false⟩

/-- A CALLING zone that holds the grant. -/
def granted (z : Zone) (phase : GrantPhase) (minLeft maxLeft : Ticks) : State :=
  let s := calling demo z;
  { s with arb := { s.arb with grant := some (grantOf z phase minLeft maxLeft), idle := none } }

/-- A running compressor at a speed. -/
def running (s : State) (n : Nat) : State := s.setComp { s.comp with state := .running, command := n, speedTimer := some 95999 }

/-- A compressor in another state. -/
def compIn (s : State) (c : CompState) (faults : List FaultEntry) : State :=
  s.setComp { s.comp with state := c, faults := faults, hold := some 1 }

/-- A channel VALID with a full window at one temperature. -/
def validAt (t : Int) : ChannelRec := ⟨.valid, List.replicate 8 t, 0, [], some t⟩

/-- A defrost context. -/
def ctx : DefrostContext := ⟨.host, 100, 80, 40, 5, 0, 0, some .time, false, none⟩

/-- `s` in a defrost phase. -/
def inPhase (s : State) (p : DefrostPhase) (c : DefrostContext) : State :=
  s.mapDefrost fun d => { d with phase := p, context := some c, fanBlock := p ≠ .pending, heater := p = .heat }

/-- A minute of IDLE with its last tick left. -/
def minuteOver (s : State) (credit : Nat) : State :=
  s.mapDefrost fun d => { d with credit := credit, minute := some ⟨575999, 30, false, true⟩ }

/-- The levels of a line no other device pulls low in the first bit times of an exchange. -/
def quiet (e : Exchange) (t : Nat) : List Bool := (e.ownBits ++ List.replicate t true).take t

/-- The bus in a slot with its exchange in flight, on a line no other device has pulled low. -/
def inSlot (s : State) (p : Slot) (t : Ticks) : State :=
  let e : Exchange := ⟨p, s.setData p, []⟩
  { s with bus := { s.bus with position := some p, slotFor := t, exchange := some { e with heard := quiet e t } } }

/-- The levels of an exchange with characters after its own bits, each after a pause. -/
def answered (e : Exchange) (pauses : List Nat) (bytes : List Byte) : List Bool :=
  e.ownBits ++ (pauses.zip bytes).flatMap fun x => List.replicate x.1 true ++ charBits x.2

/-- The levels of an exchange whose own bit is read wrong, and n bit times more. -/
def spoilt (e : Exchange) (bit n : Nat) : List Bool :=
  e.ownBits.take bit ++ [!(e.ownBits.getD bit true)] ++ List.replicate n true

/-- `s` with a VALID FZ coil at one temperature. -/
def coilAt (s : State) (f : Int) : State := { s with sensing := { s.sensing with fzCoil := validAt f } }

/-- A context whose drip time is 0. -/
def dry : DefrostContext := { ctx with drip := 0 }

/-- `demo` with ICE enabled. -/
def withIce : State := demo.mapZoneSettings .ice fun q => { q with enabled := true }

/-- `s` with another bus record. -/
def withBus (s : State) (f : Bus → Bus) : State := { s with bus := f s.bus }

/-- The bus in FAULT, with the FAULT check due. -/
def busFault (s : State) : State :=
  { s with bus := { s.bus with mode := .fault, slotFor := 383, checkTimer := some 9599 } }

/-- A unit one failure short of LOST. -/
def nearlyLost (s : State) (u : BusUnit) : State := s.mapUnit u fun r => { r with state := .suspect, failures := 7 }

/-- `s` with another link record. -/
def link (f : Link → Link) : State := demo.mapLink f

/-! ## Worked examples of spec/ -/

/- Table 2-4's conversions. -/
theorem test_conversion_between_breakpoints : temperature 3100 = -20 := by decide
theorem test_conversion_rounds_to_colder : temperature 2100 = 237 := by decide

/- Section 1.2: one classification that disagrees makes ERROR and class A. -/
theorem test_strap_disagreement : strapResult 3700 3700 3700 3900 = .error ∧ variantOf .error = .a := by decide

/- R2: the read takes 100 ms; a tick short of it the command changes nothing. -/
theorem test_strap_read_takes_100_ms :
    ({ State.reset.strap with reading := some 959 }).readDue = true ∧
      ({ State.reset.strap with reading := some 958 }).readDue = false ∧ 960 = 4 * (9600 / 40) := by decide

/- R179: the check returns to ACTIVE with the line high for the last 10 bit times, and not with one of them low. -/
theorem test_fault_check_line :
    (faultCheck { busFault demo with bus := { (busFault demo).bus with line := List.replicate 10 true } }).bus.mode =
        .active ∧
      (faultCheck
        { busFault demo with bus := { (busFault demo).bus with line := false :: List.replicate 9 true } }).bus.mode =
        .fault := by decide

/- R108: a COOLING that begins with the coil 3.0 degrees below the zone's air ends pre-chill at once. -/
theorem test_pre_chill_at_start :
    (startPreChill .freeze
        { coilAt (granted .freeze .cooling 0 9) (-180) with
          sensing := { (coilAt demo (-180)).sensing with air := PerZone.all (validAt (-150)) } }).route.preFreezer =
        .ended ∧
      (startPreChill .freeze
        { coilAt (granted .freeze .cooling 0 9) (-179) with
          sensing := { (coilAt demo (-179)).sensing with air := PerZone.all (validAt (-150)) } }).route.preFreezer =
        .running 0 := by decide

/- Section 6.3.1, case 1 and the FLEX row of Table 6-3. -/
theorem test_target_case_1 : coolingTarget Settings.reset.comp 4500 52 (ambientOffset 305) = 3300 := by decide
theorem test_target_cap_below_nmin : coolingTarget Settings.reset.comp 1200 80 (ambientOffset 240) = 1600 := by decide

/- The note of R171: SPEED_SET for 3300 rpm, and ICE_STATUS with HARVEST. -/
theorem test_speed_set_check : checkByte 0x31 [1, 0x4A, 0x01] = 0x21 := by decide
theorem test_speed_set_data : (running demo 3300).setData .s1 = [1, 0x4A, 0x01] := by decide
theorem test_ice_status_check : checkByte 0x52 [0x01] = 0x09 := by decide

/- Table 7-2. -/
theorem test_adapt_temp : adaptTh 1440 .temp 540 = 1800 ∧ adaptTh 5000 .temp 540 = 5760 := by decide
theorem test_adapt_time : adaptTh 1440 .time 2400 = 720 ∧ adaptTh 300 .time 2400 = 240 := by decide

/- Table 6-4. -/
theorem test_condenser_level :
    ({ demo with sensing := { demo.sensing with ambient := validAt 305 } }).condenserLevel = 62 ∧
      demo.condenserLevel = 100 := by decide

/- Section 6.9, steps 1 and 6: a first fault holds, a third locks out. -/
theorem test_fault_then_lockout :
    (takeFault .inverter 17 (running demo 2800)).comp.state = .faultHold ∧
      (takeFault .inverter 17
        ((running demo 2800).setComp
          { (running demo 2800).comp with faults := [⟨0, .inverter, 17⟩, ⟨0, .start, 0⟩] })).comp.state = .lockout := by decide

/- Section 8.7, steps 1 and 3: FRESH_L opens FRESH and ICE; a closing at 25 s leaves recovery pending clear. -/
theorem test_fresh_l_opens_two_zones :
    ((recomputeZones .freshL (demo.mapDoor .freshL fun r => r.take true)).doors.zone).map (fun _ m => m.isOpen) =
      ⟨true, false, false, true⟩ := by decide
theorem test_recovery_at_30_s :
    (ZoneDoor.closed ⟨true, sec 25, false, false⟩).recovery = false ∧
      (ZoneDoor.closed ⟨true, sec 30, false, false⟩).recovery = true := by decide

/- Table 5-3 and Table 5-4: CLOSED to FR is 48 steps of 25 ms, 1.2 s. -/
theorem test_valve_time : stepsLeft ValvePos.closed.counter ValvePos.fr.counter * stepTicks = 12 * 960 := by decide

/- Table 9-4: limits from the slot start in bit times. -/
theorem test_response_limits : [Slot.s2, .s4, .s5].map Slot.limitTicks = [152, 136, 88] := by decide

/- R167, R183: 0x31 is 0011 0001, sent least significant bit first between a low start bit and a high stop bit. -/
theorem test_character :
    charBits 0x31 = [false, true, false, false, false, true, true, false, false, true] := by decide
theorem test_link_line :
    (link fun l => { l with sending := [0x31], sendLeft := 5 }).link.txLevels = [false, true, false, false] := by decide

/- R171: ICE_STATUS with HARVEST, its check byte 0x09, received with a pause of two bit times before the check byte. -/
theorem test_ice_status_received :
    Exchange.outcome ⟨.s5, [], answered ⟨.s5, [], []⟩ [0, 2] [0x01, 0x09]⟩ = some (.response [0x01]) := by decide

/- Table 9-5: a break read high is LINE at once; a header bit read wrong is ECHO at the end of its character. -/
theorem test_line_and_echo :
    Exchange.outcome ⟨.s2, [], spoilt ⟨.s2, [], []⟩ 2 0⟩ = some (.failed .line) ∧
      Exchange.outcome ⟨.s2, [], spoilt ⟨.s2, [], []⟩ 17 7⟩ = none ∧
      Exchange.outcome ⟨.s2, [], spoilt ⟨.s2, [], []⟩ 17 8⟩ = some (.failed .echo) := by decide

/- R118: a start commands Nmin whatever the target is. -/
theorem test_start_commands_nmin : (startComp (granted .freeze .routing 0 0)).comp.command = 1600 := by decide

/-! ## Witnesses: the machine -/

/-- ICE in COOLING with a tick of its dwell times and of its pre-chill left. -/
def preChilling : State :=
  { granted .ice .cooling 1 1 with
    route := { (granted .ice .cooling 1 1).route with preFreezer := .running 863999 } }

theorem witness_EmptyQueueStep :
    ((asking demo 0x14 [1]).pending = [] ∧ (asking demo 0x14 [1]).link.handling = true ∧
        (asking demo 0x14 [1]).link.reply = none ∧ (asking demo 0x14 [1]).link.buffer = 0x14 :: [1]) ∧
      (let s := link fun l => { l with noticePending := true };
        s.pending = [] ∧ s.link.handling = false ∧ s.link.noticePending = true ∧ s.link.transmitter = .idle ∧
          s.link.isOpen = true) ∧
      (demo.pending = [] ∧ demo.link.handling = false ∧ demo.link.noticePending = false) := by decide

theorem witness_CommandsKeepQueue : ∃ t, exec .sensingSweepStart demo = .next t := ⟨_, rfl⟩

theorem listRule_of (s : State) (nodup : (s.arb.waiting.map Waiting.zone).Nodup)
    (exact : ∀ z ∈ Zone.all, s.onList z = (s.member z && !s.holds z)) : s.listRule :=
  ⟨nodup, s.listExact_iff.mpr fun z => exact z (mem_allZones z)⟩

/-- FRESH holds the grant, and FREEZE waits. -/
def freezeWaits : State :=
  let s := calling (granted .fresh .routing 0 0) .freeze
  { s with arb := { s.arb with waiting := [⟨.freeze, 9600⟩] } }

theorem freezeWaits_rules : freezeWaits.listRule ∧ freezeWaits.claimRule :=
  ⟨listRule_of _ (by decide) (by decide), by decide, fun _ h k => by cases h; cases k⟩

/- R44(b), R56: a SATISFIED zone leaves the list, and a zone that becomes CALLING joins at the newest end. -/
theorem test_list_follows_membership :
    (finish (freezeWaits.mapZone .freeze fun r => { r with demand := .satisfied, level := 0 })).arb.waiting = [] ∧
      (finish (calling (freezeWaits.mapZoneSettings .ice fun q => { q with enabled := true }) .ice)).arb.waiting =
        [⟨.freeze, 9600⟩, ⟨.ice, 0⟩] := by decide

theorem witness_NoSelectableZoneWaits :
    ((finish demo).mode.opState = .run ∧ (finish demo).arb.grant = none) ∧
      (freezeWaits.defrost.phase ≠ .pending ∧ freezeWaits.listRule ∧ freezeWaits.claimRule ∧
        (finish freezeWaits).arb.waiting = [⟨.freeze, 9600⟩]) :=
  ⟨by decide, by decide, freezeWaits_rules.1, freezeWaits_rules.2, by decide⟩

/-- `demo` with the valve in a move whose step ends with the next tick. -/
def moving (counter : Nat) (target : ValvePos) : State :=
  demo.mapValve fun v => { v with homed := true, counter := counter, target := some target, move := some ⟨target, 239⟩ }

theorem witness_TickFrame :
    (demo.route.valve.move = none ∧ (moving 64 .fz).route.valve.move = some ⟨.fz, 239⟩ ∧ 240 ≤ 239 + 1 ∧ 64 + 1 < 112 ∧
        (moving 64 .fz).route.valve.counter = 64 ∧ 16 + 1 < (moving 64 .closed).route.valve.counter ∧
        (moving 111 .fz).route.valve.counter ≤ 112 + 1 ∧ 112 ≤ (moving 111 .fz).route.valve.counter + 1 ∧
        ({ (moving 111 .fz).route.valve with move := some ⟨.fz, 0⟩ }).move = some ⟨.fz, 0⟩) ∧
      (preChilling.arb.grant = some (grantOf .ice .cooling 1 1) ∧ preChilling.route.preFreezer = .running 863999 ∧
        demo.arb.grant = none) ∧
      (Instr.valveMoveEnd ∈ (tick (moving 111 .fz)).pending ∧ Instr.minDwellMet ∈ (tick preChilling).pending ∧
        Instr.preChillTimeout .freezer ∈ (tick preChilling).pending ∧ Instr.slotBoundary ∉ (tick demo).pending ∧
        Instr.faultCheckExpiry [true] ∈ (tick (busFault demo)).pending) := by decide

theorem witness_WhatFollowsPresents :
    (finish State.reset).mode.opState = .init ∧
      (finish (inService demo)).mode.opState = .service ∧
      (let f := finish demo;
        f.mode.opState = .run ∧ f.defrost.fanBlock = false ∧ (f.doors.door.get .freeze).state ≠ .isOpen ∧
          f.routeZone = none ∧ f.zoneDoorOpen .fresh = false ∧ f.present .fresh = true) ∧
      (finish (inPhase demo .recover ctx)).defrost.fanBlock = true ∧
      (let f := finish (demo.mapDoor .freeze fun r => { r with state := .isOpen });
        (f.doors.door.get .freeze).state = .isOpen) ∧
      (let f := finish ((granted .fresh .routing 0 0).mapDoor .freshL fun r => { r with state := .isOpen });
        f.mode.opState = .run ∧ f.routeZone = some .fresh ∧ f.zoneDoorOpen .fresh = true) ∧
      (finish State.reset).present .ice = false := by decide

/-- A request for the compressor: FREEZE is CALLING with the grant in ROUTING, and min-off has elapsed. -/
def requested : State :=
  let s := granted .freeze .routing 0 0
  { s with comp := { s.comp with stopFor := 300 * 9600 } }

theorem witness_CompressorFollowsRequest :
    (let f := finish requested;
        requested.comp.state = .stopped ∧ f.comp.state = .running ∧
          (∀ g ∈ f.arb.grant, g.phase = .routing) ∧ f.arb.grant.isSome = true) ∧
      (let s := { requested with
            route :=
              { requested.route with
                app := some ⟨.freeze, 0, true, false, false⟩
                valve := { requested.route.valve with homed := true, counter := 112, target := some .fz, rest := some .fz } } };
        let f := finish s;
        s.comp.state = .stopped ∧ f.comp.state = .running ∧ (∃ g ∈ f.arb.grant, g.phase = .cooling) ∧
          s.mode.opState = .run ∧ s.defrost.phase ≠ .pending ∧ ∀ h ∈ s.arb.grant, h.phase = .routing) ∧
      (let s := running demo 1600;
        let u := s.setComp { s.comp with runFor := 120 * 9600 };
        u.comp.state = .running ∧ (finish u).comp.state = .stopped ∧ u.comp.command ≠ 0 ∧ 0 < u.settings.comp.nMin ∧
          u.mode.opState = .run ∧ u.defrost.phase ≠ .pending) ∧
      (finish demo).comp.state = .stopped ∧ (finish (compIn demo .faultHold [])).comp.state = .faultHold ∧
      (finish (compIn demo .lockout [])).comp.state = .lockout ∧
      (finish (compIn demo .invLost [])).comp.state = .invLost := by decide

/-- SERVICE with a service speed of 3000, the compressor running toward it. -/
def serviceRun : State :=
  let s := running (inService demo) 1600
  s.setComp { s.comp with serviceSpeed := 3000, target := some 3000 }

/- R115(c), R131(b): the loss of the inverter in SERVICE leaves the run requested and N as last computed; a fault, which sets
the service speed to 0 (R128), leaves none. -/
theorem test_target_at_loss_and_fault :
    (finish (inverterLost serviceRun)).comp.target = some 3000 ∧
      (finish (takeFault .inverter 17 serviceRun)).comp.target = none := by decide

theorem witness_StepKeepsHeaterSafe :
    ∃ t, let s := { inPhase demo .heat ctx with pending := [.tachPulse .fresh] };
      s.heaterSafe ∧ s.defrost.heater = true ∧ step s = .next t := ⟨_, by decide, by decide, rfl⟩

theorem witness_StepKeepsGrantInRun :
    ∃ t, let s := { granted .fresh .routing 0 0 with pending := [.tachPulse .fresh] };
      s.grantInRun ∧ s.arb.grant.isSome = true ∧ step s = .next t := ⟨_, by decide, by decide, rfl⟩

theorem witness_StepKeepsCompressorRules :
    ∃ t, let s := { running demo 3300 with pending := [.speedPeriodExpiry] };
      s.lockoutRule ∧ s.speedRule ∧ s.comp.command ≠ 0 ∧ step s = .next t :=
  ⟨_, by decide, by decide, by decide, rfl⟩

theorem witness_StepKeepsRangesAndList :
    ∃ t, let s := { freezeWaits with pending := [.tachPulse .fresh] };
      s.thInRange ∧ s.levelsOk ∧ s.listRule ∧ s.grantInRun ∧ s.claimRule ∧ s.arb.grant.isSome = true ∧
        step s = .next t :=
  ⟨_, by decide, by decide, freezeWaits_rules.1, by decide, freezeWaits_rules.2, by decide, rfl⟩

theorem witness_StepKeepsRangesAndList_holder :
    (∃ g, (granted .freeze .cooling 0 1).arb.grant = some g ∧ g.zone = .freeze) ∧
      (granted .freeze .cooling 0 1).claimRule ∧
      (let s := (inPhase demo .heat ctx).mapZone .freeze fun r => { r with holdDefrost := true };
        (s.defrost.phase = .heat ∨ s.defrost.phase = .drip) ∧ s.claimRule) :=
  ⟨⟨_, rfl, rfl⟩, ⟨by decide, fun _ _ _ => by decide⟩, by decide, by decide, fun _ h => by cases h⟩

theorem witness_StepKeepsUnitsAndBus :
    ∃ t, let s := { nearlyLost (inSlot demo .s2 26) .inverter with
          pending := [.exchangeFailure (spoilt ⟨.s2, [], []⟩ 16 9)] };
      s.unitsOk ∧ s.busRule ∧ s.bus.exchange.isSome = true ∧ step s = .next t :=
  ⟨_, by decide, by decide, by decide, rfl⟩

theorem witness_StepKeepsValveRule :
    ∃ t, let s := { demo with
          route := { demo.route with valve := ⟨true, 17, some .closed, some ⟨.closed, 239⟩, none, 0, .none, none, .none, .closed⟩ }
          pending := [.valveMoveEnd] };
      s.valveRule ∧ step s = .next t := ⟨_, by decide, rfl⟩

/-! ## Witnesses: host link -/

theorem witness_RequestFrameRoundTrip :
    requestParts (.zoneEnable [2, 1]) = some (0x12, [2, 1]) ∧ (Instr.zoneEnable [2, 1]).wellFormed = true ∧
      requestParts (.unknownRequest 0xFE (List.replicate 60 7)) = some (0xFE, List.replicate 60 7) ∧
      (Instr.unknownRequest 0xFE (List.replicate 60 7)).wellFormed = true ∧ demo.link.isOpen = true ∧
      demo.link.handling = false ∧ demo.link.reply = none ∧ demo.link.receiver = .hunt := by decide

theorem witness_ReceiverTable :
    (let l := (link fun l => { l with receiver := .body, len := 2, gap := 9 }).link;
        l.receiver ≠ .hunt ∧ 9 ≤ l.gap ∧ l.isOpen = true ∧ l.handling = false) ∧
      State.reset.link.isOpen = false ∧ (asking demo 0x14 [1]).link.handling = true ∧ demo.link.receiver = .hunt ∧
      (link fun l => { l with receiver := .length }).link.receiver = .length ∧
      (link fun l => { l with receiver := .check }).link.receiver = .check ∧
      ((1 : Byte).toNat = 1 ∧ (61 : Byte).toNat = 61 ∧ (0 : Byte).toNat = 0 ∧ 61 < (62 : Byte).toNat) ∧
      (0x55 : Byte) ≠ 0xC3 := by decide

theorem witness_RequestsWithoutOwner :
    ((asking demo 0x7E []).taking 0x7E [] = true ∧ (0x7E : Byte) ∉ requestTypes) ∧
      (requestParts (.identify [1]) = some (0x01, [1]) ∧ ((0x01 : Byte), 0) ∈ payloadLengths ∧ [(1 : Byte)].length ≠ 0 ∧
        requestOf 0x01 [1] = .identify [1] ∧ (asking demo 0x01 [1]).taking 0x01 [1] = true) := by decide

/-- A request is being taken, for every TYPE with a payload of its length. -/
theorem witness_taking :
    payloadLengths.all fun r => (asking demo r.1 (List.replicate r.2 1)).taking r.1 (List.replicate r.2 1) := by decide

theorem witness_SnapshotsChangeNothing :
    (asking demo 0x01 []).taking 0x01 [] = true ∧
      (asking demo 0x14 [BitVec.ofNat 8 Zone.ice.number]).taking 0x14 [BitVec.ofNat 8 Zone.ice.number] = true ∧
      (asking demo 0x21 []).taking 0x21 [] = true ∧ (asking demo 0x32 []).taking 0x32 [] = true ∧
      (asking demo 0x43 []).taking 0x43 [] = true ∧ (asking demo 0x60 []).taking 0x60 [] = true ∧
      ((0 : Byte).toNat = 0 ∧ (asking demo 0x14 [0]).taking 0x14 [0] = true) ∧
      (4 < (5 : Byte).toNat ∧ (asking demo 0x14 [5]).taking 0x14 [5] = true) := by decide

theorem witness_EventRequests :
    (asking demo 0x50 [4, 0, 1, 2]).taking 0x50 [4, 0, 1, 2] = true ∧
      (asking demo 0x50 [0, 1, 1, 2]).taking 0x50 [0, 1, 1, 2] = true ∧
      (asking demo 0x50 [0, 2, 1, 2]).taking 0x50 [0, 2, 1, 2] = true ∧
      (asking demo 0x51 []).taking 0x51 [] = true ∧
      (4 < (5 : Byte).toNat ∧ 2 < (3 : Byte).toNat) ∧
      (asking demo 0x50 [5, 0, 1, 2]).taking 0x50 [5, 0, 1, 2] = true := by decide

theorem witness_RepliesAndNotices :
    (let s := link fun l => { l with transmitter := .sendingReply, handling := true, sending := [0xC3], sendLeft := 2 };
        s.link.transmitter = .sendingReply ∧ s.link.restartDue = false ∧ s.link.sendLeft ≤ 2) ∧
      2 < (link fun l => { l with sendLeft := 3 }).link.sendLeft ∧
      (let s := link fun l => { l with transmitter := .sendingNotice, sendLeft := 2 };
        s.link.transmitter = .sendingNotice ∧ s.link.reply = none ∧ s.link.sendLeft ≤ 2) ∧
      (let s := link fun l => { l with transmitter := .sendingNotice, reply := some [0xC3], sendLeft := 2 };
        s.link.transmitter = .sendingNotice ∧ s.link.reply = some [0xC3] ∧ s.link.sendLeft ≤ 2) ∧
      (let s := link fun l => { l with noticePending := true };
        s.link.noticePending = true ∧ s.link.transmitter = .idle ∧ s.link.handling = false ∧ s.link.isOpen = true ∧
          s.events.latchEmpty = true) ∧
      (let s := link fun l => { l with noticePending := true };
        { s with events := { s.events with device := ⟨0, 0, 0, 0x80⟩ } }.events.latchEmpty = false) ∧
      (let s := link fun l => { l with sending := [0xC3, 0x00], sendLeft := 2 };
        s.link.sending ≠ [] ∧ s.link.sendLeft + 2 * 4 = 5 * s.link.sending.length ∧ 2 ≤ s.link.sendLeft) ∧
      demo.link.sending = [] := by decide

/-! ## Witnesses: start-up, restart, service -/

theorem witness_StrapReadSettles :
    (let s := { State.reset with strap := { State.reset.strap with reading := some 959 } };
        s.strap.reading = some 959 ∧ 960 ≤ 959 + 1 ∧ s.mode.opState = .init ∧ s.bus.mode = .stopped) ∧
      State.reset.strap.reading = some 0 ∧ 0 + 1 < 960 ∧ demo.strap.reading = none := by decide

theorem witness_RestartTakesEffect :
    (asking demo 0x02 []).taking 0x02 [] = true ∧
      (let s := link fun l => { l with transmitter := .sendingReply, restartDue := true, handling := true, sendLeft := 2 };
        s.link.transmitter = .sendingReply ∧ s.link.restartDue = true ∧ s.link.sendLeft ≤ 2 ∧ s.defrost.phase = .idle ∧
          s.bus.mode = .active) ∧
      ((inPhase demo .heat ctx).defrost.phase ≠ .idle ∧ (inPhase demo .heat ctx).defrost.context = some ctx) ∧
      (busFault demo).bus.mode ≠ .active := by decide

/-- INIT with the valve homed and at CLOSED and every present air channel out of STARTING. -/
def initOver (s : State) : State :=
  { s with
    mode := ⟨.init, .hardReset, none⟩
    arb := { s.arb with idle := some .inactive }
    sensing := { s.sensing with air := PerZone.all (validAt 50) }
    route :=
      { s.route with
        valve := { s.route.valve with homed := true, counter := 16, target := some .closed, rest := some .closed } } }

theorem witness_InitEnds :
    (let s := initOver demo;
        s.mode.opState = .init ∧ s.route.valve.homed = true ∧ s.route.valve.counter = 16 ∧ s.route.valve.move = none ∧
          s.route.valve.drive = none ∧ s.route.valve.homing = .none ∧
          (∀ z ∈ Zone.all, s.present z = true → (s.sensing.air.get z).state ≠ .starting) ∧ s.arb.grant = none ∧
          s.route.valve.rehomeAsk = .none ∧ s.route.valve.outletMoves < 100 ∧ s.defrost.phase ≠ .pending ∧
          s.winner = none ∧ (initOver (calling demo .fresh)).winner = some (.fresh, .rotation)) ∧
      State.reset.arb.grant = none ∧ State.reset.route.valve.homed = false ∧ State.reset.route.valve.counter ≠ 16 ∧
      ({ State.reset.route.valve with homing := .homing }).homing ≠ .none ∧
      (∃ z ∈ Zone.all, State.reset.present z = true ∧ (State.reset.sensing.air.get z).state = .starting) := by decide

theorem witness_ServiceEnter :
    ((asking (inService demo) 0x70 []).taking 0x70 [] = true ∧ (asking (inService demo) 0x70 []).mode.opState ≠ .run) ∧
      (let s := asking (inPhase (granted .fresh .routing 0 0) .pending ctx) 0x70 [];
        s.taking 0x70 [] = true ∧ s.mode.opState = .run ∧ s.arb.grant = some (grantOf .fresh .routing 0 0) ∧
          s.defrost.phase ≠ .idle ∧ s.defrost.context = some ctx ∧ s.relisted = s.arb.waiting ∧
          s.route.valve.drive = none ∧ s.route.valve.move = none) ∧
      demo.arb.grant = none ∧ demo.defrost.phase = .idle ∧
      ({ demo.route.valve with rest := some .fz }).rest = some .fz ∧
      ({ demo.route.valve with drive := some 1 }).drive ≠ none ∧
      ({ demo.route.valve with move := some ⟨.fr, 9⟩ }).move = some ⟨.fr, 9⟩ := by decide

theorem witness_ServiceOutput :
    (let p : List Byte := [2, 100, 101, 0, 0, 0, 1, 0xE8, 0x03];
        (asking demo 0x71 p).taking 0x71 p = true ∧ p.length = 9 ∧ demo.mode.opState ≠ .service ∧
          (asking (inService demo) 0x71 p).taking 0x71 p = true ∧ (inService demo).mode.opState = .service ∧
          u8At p 0 ≤ 2 ∧ u8At p 6 ≤ 1 ∧ (inService demo).route.valve.rehomeAsk = .none) ∧
      (2 < u8At [3, 0, 0, 0, 0, 0, 1, 0, 0] 0 ∧ 1 < u8At [0, 0, 0, 0, 0, 0, 2, 0, 0] 6) := by decide

theorem witness_ServiceLeft :
    ((asking demo 0x72 []).taking 0x72 [] = true ∧ demo.mode.opState ≠ .service) ∧
      (let s := asking (running (inService demo) 1600) 0x72 [];
        s.mode.opState = .service ∧ s.taking 0x72 [] = true ∧ s.mode.serviceTimer = some 1 ∧ s.comp.state = .running ∧
          0 < s.settings.comp.minOff ∧ s.arb.grant = none ∧ s.route.valve.rehomeAsk = .none ∧ s.defrost.phase = .idle ∧
          s.route.valve.drive = none ∧ s.route.valve.move = none ∧ s.route.valve.homing = .none ∧ s.winner = none ∧
          s.route.app = none) ∧
      ({ demo.route.valve with move := some ⟨.fr, 9⟩ }).move ≠ none ∧
      (calling (inService withIce) .ice).winner = some (.ice, .rotation) := by decide

/-! ## Witnesses: zones and sensing -/

theorem witness_DemandRules :
    let q := Settings.reset.zone.fresh;
    2 ≤ q.hu ∧ 2 ≤ q.hd ∧ 10 ≤ q.fs ∧ (q.setpoint + q.hu ≤ 40 ∧ demandOf q 40 .satisfied = .calling) ∧ (20 : Int) ≤ q.setpoint - q.hd ∧
      (q.setpoint - q.hd < 21 ∧ (39 : Int) < q.setpoint + q.hu) ∧ (20 - q.setpoint + q.hd) * 100 ≤ 0 ∧
      0 < (21 - q.setpoint + q.hd) * 100 := by decide

theorem witness_TemperatureInterpolates : (1497 : Int) < 1498 ∧ (1854 : Int) ≤ 1854 ∧ temperature 1854 = 300 := by decide

theorem witness_TemperatureEnds :
    reading 4050 = some (-400) ∧ reading 3937 = some (-400) ∧ reading 40 = some 500 ∧ reading 1190 = some 500 ∧
      reading 39 = none ∧ reading 4051 = none := by decide

theorem witness_FilterRounds : ([-5, -4] : List Int) ≠ [] ∧ ∀ t ∈ ([-5, -4] : List Int), -5 ≤ t ∧ t ≤ -4 := by decide

theorem witness_ChannelTakesReading :
    ((⟨.starting, [1, 2], 0, [], none⟩ : ChannelRec).window.length < 3 ∧
        (⟨.starting, [1, 2, 3], 2, [], none⟩ : ChannelRec).window.length = 3 ∧ (validAt 5).state = .valid ∧
        (validAt 5).window.length = 8 ∧ (⟨.valid, [1, 2, 3, 4], 2, [], some 3⟩ : ChannelRec).window.length < 8 ∧
        (validAt 5).invalid < 2 ∧ 2 ≤ (⟨.valid, [1, 2, 3, 4], 2, [], some 3⟩ : ChannelRec).invalid) ∧
      ChannelRec.enterFault.state = .fault ∧
      ((⟨.recovering, [], 0, [1, 2], none⟩ : ChannelRec).state = .recovering ∧
        (⟨.recovering, [], 0, [1, 2], none⟩ : ChannelRec).run.length < 3 ∧
        (⟨.recovering, [], 0, [1, 2, 3], none⟩ : ChannelRec).run.length = 3) := by decide

theorem witness_SensingCommands :
    ({ demo.sensing with sweepTimer := some 19199 }).sweepTimer = some 19199 ∧
      ({ demo.sensing with next := some (.air .fresh) }).next = some (.air .fresh) ∧
      ((validAt 5).take (reading 3100)).2 ≠ .nothing ∧
      ((⟨.valid, [1, 2, 3, 4], 2, [], some 3⟩ : ChannelRec).take (reading 10)).2 = .fault ∧
      ((⟨.recovering, [], 0, [-20, -20, -20], none⟩ : ChannelRec).take (reading 3100)).2 = .recovery (-20) ∧
      ((validAt 5).take (reading 4095)).2 = .nothing ∧ ((validAt (-20)).take (reading 3100)).2 = .value (-20) := by decide

/-- Coils and air channels VALID, a grant in COOLING with both pre-chill records running, in a defrost phase. -/
def preChilled (z : Zone) (p : DefrostPhase) (c : DefrostContext) : State :=
  let s := inPhase (granted z .cooling 0 9) p c
  { s with
    sensing :=
      { s.sensing with
        next := some .fzCoil, air := PerZone.all (validAt 50), frCoil := validAt (-20), fzCoil := validAt (-20) }
    route := { s.route with preFreezer := .running 0, preFresh := .running 0 } }

theorem witness_SensingCommands_coils :
    (let s := preChilled .ice .heat ctx;
        s.sensing.next = some .fzCoil ∧ s.arb.grant = some (grantOf .ice .cooling 0 9) ∧
          (grantOf .ice .cooling 0 9).zone ≠ .fresh ∧ s.route.preFreezer = .running 0 ∧
          (s.sensing.air.get .ice).filtered = some 50 ∧ s.sensing.fzCoil.filtered = some (-20) ∧
          s.defrost.context = some ctx ∧ s.defrost.phase = .heat ∧ ctx.drip ≠ 0 ∧
          (s.sensing.fzCoil.take (reading 3100)).2 = .value (-20)) ∧
      (let s := preChilled .fresh .recover ctx;
        s.arb.grant = some (grantOf .fresh .cooling 0 9) ∧ s.route.preFresh = .running 0 ∧
          s.sensing.frCoil.filtered = some (-20) ∧ s.sensing.air.fresh.filtered = some 50 ∧ s.defrost.phase = .recover ∧
          -100 < (-20 : Int) ∧ ctx.termination = some .time ∧ ((validAt (-100)).take (some (-100))).2 = .value (-100)) ∧
      (preChilled .ice .drip ctx).defrost.phase = .drip ∧
      ((preChilled .ice .heat dry).defrost.context = some dry ∧ dry.drip = 0 ∧ ctx.blind = false ∧ ctx.termTemp ≤ 80 ∧
        (79 : Int) < ctx.termTemp ∧ ({ ctx with blind := true }).blind = true ∧
        min 1200 (ctx.maxHeat * 60) * 9600 ≤ ({ dry with heatFor := 1200 * 9600 }).heatFor ∧
        ctx.heatFor < min 1200 (ctx.maxHeat * 60) * 9600 ∧
        ((⟨.valid, [-20, -20, -20, -20], 2, [], some (-20)⟩ : ChannelRec).take (reading 4095)).2 = .fault) := by decide

theorem witness_recoverEntered :
    (demo.sensing.fzCoil.state ≠ .valid ∧ (coilAt demo (-99)).sensing.fzCoil.filtered = some (-99) ∧ (-100 : Int) < -99) ∧
      ((coilAt demo (-100)).sensing.fzCoil.state = .valid ∧ (coilAt demo (-100)).sensing.fzCoil.filtered = some (-100) ∧
        ctx.termination = some .time) := by decide

theorem witness_ZoneSet :
    (let p : List Byte := [3, 0x1E, 0, 2, 50, 10];
        (asking demo 0x10 p).taking 0x10 p = true ∧ p.length = 6 ∧ zoneOf p = some .flex ∧ demo.present .flex = true ∧
          u16At p 1 ≠ 0x8000) ∧
      zoneOf [0, 0, 0, 0, 0, 0] = none ∧ zoneOf [5, 0, 0, 0, 0, 0] = none ∧ State.reset.present .flex = false ∧
      u16At [3, 0, 0x80, 2, 2, 10] 1 = 0x8000 ∧
      (let s := { demo with sensing := { demo.sensing with air := { demo.sensing.air with flex := validAt 5 } } };
        (s.sensing.air.get .flex).filtered = some 5 ∧ s.blind .flex = false) ∧
      (demo.sensing.air.get .flex).filtered = none ∧
      ((-70 : Int), -30) = (match FlexMode.soft with
        | .fresh => (10, 60) | .chill => (-20, 10) | .soft => (-70, -30) | .freeze => (-220, -150)) := by decide

theorem witness_ZoneEnable :
    (asking demo 0x12 [BitVec.ofNat 8 Zone.flex.number, BitVec.ofNat 8 true.toNat]).taking 0x12
        [BitVec.ofNat 8 Zone.flex.number, BitVec.ofNat 8 true.toNat] = true ∧
      demo.present .flex = true ∧ State.reset.present .flex = false ∧ (demo.settings.zone.get .flex).enabled ≠ true ∧
      (demo.settings.zone.get .fresh).enabled = true ∧
      ((0 : Byte).toNat = 0 ∧ (asking demo 0x12 [0, 1]).taking 0x12 [0, 1] = true) ∧
      (4 < (5 : Byte).toNat ∧ (asking demo 0x12 [5, 1]).taking 0x12 [5, 1] = true) ∧
      (1 < (2 : Byte).toNat ∧ (asking demo 0x12 [1, 2]).taking 0x12 [1, 2] = true) := by decide

theorem witness_FlexModeSet :
    (asking demo 0x13 [BitVec.ofNat 8 FlexMode.freeze.byteCode]).taking 0x13 [BitVec.ofNat 8 FlexMode.freeze.byteCode] =
        true ∧
      demo.present .flex = true ∧ State.reset.present .flex = false ∧ FlexMode.freeze ≠ demo.settings.flexMode ∧
      FlexMode.fresh = demo.settings.flexMode ∧
      (3 < (4 : Byte).toNat ∧ (asking demo 0x13 [4]).taking 0x13 [4] = true) := by decide

theorem witness_ZoneTimers :
    ((demo.mapZone .ice fun r => { r with blind := some ⟨.calling, 1⟩ }).zones.get .ice).blind = some ⟨.calling, 1⟩ ∧
      ((demo.mapZone .ice fun r => { r with blind := some ⟨.satisfied, 1⟩ }).zones.get .ice).blind =
        some ⟨.satisfied, 1⟩ ∧
      (let s := demo.mapZone .ice fun r => { r with warmRunning := true, warmFor := 3600 * 9600 - 1 };
        (s.zones.get .ice).warmRunning = true ∧ s.zoneDoorOpen .ice = false ∧ (s.zones.get .ice).warm = false ∧
          3600 * 9600 ≤ (s.zones.get .ice).warmFor + 1) := by decide

/-! ## Witnesses: arbiter -/

theorem witness_SettingsRequests :
    (let p : List Byte := [2, 0x10, 0x0E, 15, 16];
        (asking demo 0x11 p).taking 0x11 p = true ∧ p.length = 5 ∧ zoneOf p = some .freeze ∧
          demo.present .freeze = true ∧ max 1 (min 15 (u8At p 3)) < max 5 (min 60 (u8At p 4))) ∧
      (zoneOf [0, 0, 0, 5, 5] = none ∧ zoneOf [3, 0, 0, 5, 5] = some .flex ∧ State.reset.present .flex = false ∧
        max 5 (min 60 (u8At [3, 0, 0, 5, 5] 4)) ≤ max 1 (min 15 (u8At [3, 0, 0, 5, 5] 3))) ∧
      (let p : List Byte := [0, 1, 0, 1, 45, 31, 0, 1, 5, 60];
        (asking demo 0x30 p).taking 0x30 p = true ∧ p.length = 10 ∧ u8At p 0 ≤ 1 ∧ u8At p 1 ≤ 1 ∧ u8At p 2 ≤ 1 ∧
          u8At p 3 ≤ 1 ∧ u8At p 7 ≤ 1) ∧
      1 < u8At [2, 0, 0, 0, 0, 0, 0, 0, 0, 0] 0 ∧
      (asking demo 0x40 [0, 6, 0, 6, 8, 80, 0, 40, 5]).taking 0x40 [0, 6, 0, 6, 8, 80, 0, 40, 5] = true ∧
      (asking demo 0x15 [120, 0, 20]).taking 0x15 [120, 0, 20] = true ∧ demo.defrost.phase ≠ .pending := by decide

theorem witness_ForceAndReadmit :
    (let p : List Byte := [3, 10, 0];
        (asking demo 0x31 p).taking 0x31 p = true ∧ p.length = 3 ∧ zoneOf p = some .flex ∧ demo.present .flex = true ∧
          0 < u16At p 1) ∧
      zoneOf [0, 0, 0] = none ∧ State.reset.present .flex = false ∧ u16At [3, 0, 0] 1 = 0 ∧
      ((asking demo 0x33 [3]).taking 0x33 [3] = true ∧ zoneOf [3] = some .flex ∧ (demo.zones.get .flex).isolation = none) ∧
      ((demo.mapZone .flex fun r => { r with isolation := some 1 }).zones.get .flex).isolation ≠ none := by decide

/-- The waiting list of these states, oldest first. -/
def waitingList (s : State) (w : List Waiting) : State := { s with arb := { s.arb with waiting := w } }

theorem witness_SelectionOrder :
    (let s := waitingList (calling (calling demo .freeze) .fresh) [⟨.fresh, 0⟩, ⟨.freeze, sec 2700⟩];
        { s with arb := { s.arb with claim := true } }.waitingSelectable .freeze = true ∧ s.arb.claim = false ∧
          { s with arb := { s.arb with forced := some ⟨.fresh, 9⟩ } }.waitingSelectable .fresh = true ∧
          s.aged ⟨.freeze, sec 2700⟩ = true ∧ s.aged ⟨.fresh, 0⟩ = false ∧ s.selectable .freeze = true ∧
          s.settings.level = ⟨.l1, .l1, .group, .group⟩) ∧
      (let s := waitingList (calling demo .fresh) [⟨.fresh, 0⟩];
        (∀ w ∈ s.arb.waiting, ¬(s.aged w = true ∧ s.selectable w.zone = true)) ∧ s.mode.opState = .run ∧
          s.arb.grant = none ∧ s.defrost.phase ≠ .pending ∧ s.winner = some (.fresh, .rotation) ∧
          s.settings.level.get .fresh = .l1 ∧ s.settings.level.get .ice = .group ∧ s.route.valve.rehoming = false) ∧
      (calling withIce .ice).winner = some (.ice, .rotation) := by decide

/-- FREEZE holds the grant and is held for a defrost. -/
def heldFreeze : State := (granted .freeze .cooling 0 9).mapZone .freeze fun r => { r with holdDefrost := true }

theorem witness_GrantEnds :
    (let s := granted .fresh .routing 0 0;
        s.mode.opState = .run ∧ s.arb.grant = some (grantOf .fresh .routing 0 0) ∧ s.defrost.phase ≠ .pending ∧
          (compIn s .faultHold []).compAvailable = false ∧ s.compAvailable = true ∧
          (s.settings.zone.get .fresh).enabled = true ∧ s.held .fresh = false ∧ s.routeAvailable .fresh = true ∧
          (s.zones.get .fresh).demand = .calling ∧ s.arb.claim = false ∧ s.arb.forced = none) ∧
      (heldFreeze.held .freeze = true) ∧
      (let s := (granted .fresh .cooling 5 9).mapZone .fresh fun r => { r with demand := .satisfied, level := 0 };
        (s.zones.get .fresh).demand = .satisfied ∧ s.arb.grant = some (grantOf .fresh .cooling 5 9)) ∧
      (let s := waitingList (calling (granted .fresh .cooling 0 9) .freeze) [⟨.freeze, 0⟩];
        s.arb.grant = some (grantOf .fresh .cooling 0 9) ∧
          { s with arb := { s.arb with claim := true } }.waitingSelectable .freeze = true ∧
          { s with arb := { s.arb with forced := some ⟨.freeze, 9⟩ } }.waitingSelectable .freeze = true) ∧
      (let s := heldFreeze;
        s.mode.opState = .run ∧ s.defrost.phase ≠ .pending ∧ s.arb.grant = some (grantOf .freeze .cooling 0 9) ∧
          s.endCause (grantOf .freeze .cooling 0 9) = some .ineligible ∧
          (endGrant .ineligible (relist s)).winner = none ∧ s.relisted = s.arb.waiting ∧ s.comp.command = 0 ∧
          s.settings.arb.parkDelay ≠ 0 ∧
          (endGrant .ineligible (relist (calling s .fresh))).winner = some (.fresh, .rotation)) ∧
      (let s := running heldFreeze 1600;
        s.comp.state = .running ∧ s.comp.command ≠ 0 ∧ s.minOnMet = false ∧ 0 < s.settings.comp.nMin ∧
          s.route.valve.rehoming = false) := by decide

theorem witness_ArbiterTimers :
    ((granted .ice .cooling 1 9).arb.grant = some (grantOf .ice .cooling 1 9)) ∧
      ((demo.mapZone .ice fun r => { r with isolation := some 1 }).zones.get .ice).isolation = some 1 ∧
      ({ demo.arb with forced := some ⟨.ice, 1⟩ }).forced = some ⟨.ice, 1⟩ ∧
      (let a := { demo.arb with parkTimer := some 1, idle := some .parkDelay };
        a.parkTimer = some 1 ∧ a.idle = some .parkDelay ∧ a.grant = none ∧ a.parkMode = .close ∧
          ({ a with parkMode := .hold }).parkMode = .hold) ∧
      (let v := { demo.route.valve with homed := true, counter := 64, outletMoves := 99 };
        v.outletMoves < 100 ∧ v.homing = .none ∧ v.rehomeAsk = .none ∧ v.homed = true ∧ v.move = none ∧
          v.drive = none) ∧
      (demo.mode.opState = .run ∧ demo.defrost.phase ≠ .pending ∧ demo.winner = none ∧ demo.comp.command = 0 ∧
        demo.settings.arb.parkDelay ≠ 0 ∧ demo.arb.idle = some .parked ∧ demo.route.valve.move = none ∧
        demo.route.valve.drive = none ∧ demo.route.valve.rehoming = false) ∧
      { demo with arb := { demo.arb with idle := some .runout } }.winner = none ∧
      100 ≤ ({ demo.route.valve with outletMoves := 100 }).outletMoves ∧
      ({ demo.route.valve with move := some ⟨.fz, 0⟩ }).move = some ⟨.fz, 0⟩ := by decide

theorem witness_MaxDwellExpiry :
    (let s := granted .freeze .cooling 0 1;
        s.arb.grant = some (grantOf .freeze .cooling 0 1) ∧ (s.sensing.air.get .freeze).filtered = none ∧
          s.mode.opState = .run ∧ s.defrost.phase ≠ .pending ∧ s.arb.claim = false ∧ s.arb.forced = none ∧
          s.arb.waiting = [] ∧ s.selectable .freeze = true) ∧
      (let s := { demo with sensing := { demo.sensing with air := { demo.sensing.air with freeze := validAt (-155) } } };
        (s.sensing.air.get .freeze).filtered = some (-155) ∧ (s.settings.arb.progress : Int) ≤ -150 - -155 ∧
          (-150 : Int) - -154 < s.settings.arb.progress) ∧
      ((demo.zones.get .freeze).noProgress < 2 ∧
        2 ≤ ((demo.mapZone .freeze fun r => { r with noProgress := 2 }).zones.get .freeze).noProgress) ∧
      (let s := waitingList (calling (granted .freeze .cooling 0 1) .fresh) [⟨.fresh, 0⟩];
        s.arb.waiting = [⟨.fresh, 0⟩] ∧ s.selectable .fresh = true) := by decide

/-! ## Witnesses: route controller -/

theorem witness_RouteTimers :
    (let v := { demo.route.valve with homed := true, counter := 111, move := some ⟨.fz, 239⟩ };
        v.move = some ⟨.fz, 239⟩ ∧ ValvePos.fz.counter ≤ v.counter + 1 ∧ v.counter ≤ ValvePos.fz.counter + 1) ∧
      (let v := { demo.route.valve with homing := .homing, drive := some 44159 };
        v.drive = some 44159 ∧ v.homing = .homing ∧ State.reset.mode.opState = .init) ∧
      (let v := { demo.route.valve with homing := .rehome, drive := some 44159 };
        v.homing = .rehome ∧ v.rehomeAsk = .none ∧ demo.mode.opState = .run ∧ demo.arb.grant = none ∧
          (granted .ice .routing 0 0).arb.grant = some (grantOf .ice .routing 0 0)) ∧
      (20 * 9600 ≤ 191999 + 1 ∧ (granted .ice .routing 0 0).defrost.phase ≠ .pending) ∧
      ((granted .ice .cooling 0 9).arb.grant = some (grantOf .ice .cooling 0 9) ∧
        (granted .fresh .cooling 0 9).arb.grant = some (grantOf .fresh .cooling 0 9) ∧
        ({ demo.route with preFreezer := .running 863999 }).preFreezer = .running 863999 ∧
        ({ demo.route with preFresh := .running 863999 }).preFresh = .running 863999) := by decide

theorem witness_FanCommands :
    (⟨80, 0, 0, true, some 479999⟩ : FanRec).rest ≠ none ∧
      (let r : FanRec := ⟨20, 20, 95999, false, none⟩;
        r.rest = none ∧ 20 ≤ r.output ∧ 10 * 9600 ≤ r.watch + 1) := by decide

/-! ## Witnesses: compressor controller -/

theorem witness_TargetSpeed :
    Settings.reset.comp.ok ∧ (100 ≤ 100) ∧ (1600 ≤ Settings.reset.comp.nMin) ∧
      (granted .freeze .cooling 0 9).dEff = some 40 ∧ (granted .freeze .cooling 0 9).mode.opState = .run := by decide

theorem witness_EffectiveDemandAndAmbient :
    ((granted .ice .cooling 0 9).arb.grant = some (grantOf .ice .cooling 0 9) ∧
        (grantOf .ice .cooling 0 9).continuation = false ∧
        ({ grantOf .ice .cooling 5 9 with continuation := true }).continuation = true) ∧
      (validAt 501).state = .valid ∧ (validAt 501).filtered = some 501 ∧ demo.sensing.ambient.state ≠ .valid ∧
      ((250 : Int) < 251 ∧ (500 : Int) ≤ 500) := by decide

theorem witness_CompressorTimers :
    demo.comp.state ≠ .running ∧
      ((running demo 1600).comp.state = .running ∧ (running demo 1600).comp.speedTimer = some 95999) ∧
      ({ demo.comp with stopFor := 300 * 9600 - 1 }).stopFor + 1 = demo.settings.comp.minOff * 9600 ∧
      ({ demo.comp with runFor := 120 * 9600 - 1 }).runFor + 1 = demo.settings.comp.minOn * 9600 ∧
      (compIn demo .faultHold [⟨3600 * 9600 - 1, .start, 0⟩]).comp.hold = some 1 ∧
      (compIn demo .faultHold [⟨3600 * 9600 - 1, .start, 0⟩]).comp.faults = [⟨3600 * 9600 - 1, .start, 0⟩] ∧
      (compIn demo .lockout [⟨0, .start, 0⟩]).comp.state = .lockout ∧
      ({ demo.comp with postRun := some 1 }).postRun = some 1 := by decide

theorem witness_CompressorRequests :
    (let p : List Byte := [0x40, 0x06, 0x94, 0x11, 0xC8, 0x00, 0x78, 0x00, 0x2C, 0x01];
        (asking demo 0x20 p).taking 0x20 p = true ∧ p.length = 10 ∧
          (max 1200 (min 5000 (u16At p 0))) / 50 * 50 + 200 ≤ (max 1200 (min 5000 (u16At p 2))) / 50 * 50) ∧
      (let p : List Byte := [0xF2, 0x12, 0x88, 0x13, 0, 0, 0, 0, 0, 0];
        (max 1200 (min 5000 (u16At p 2))) / 50 * 50 < (max 1200 (min 5000 (u16At p 0))) / 50 * 50 + 200) ∧
      (asking demo 0x22 []).taking 0x22 [] = true ∧ demo.comp.state ≠ .lockout ∧
      (compIn demo .lockout []).comp.state = .lockout := by decide

theorem witness_StartFailure :
    let s := (granted .freeze .routing 0 0).setComp { demo.comp with state := .running, command := 1600, runWatch := some 287999 };
    s.comp.runWatch = some 287999 ∧ 30 * 9600 ≤ 287999 + 1 ∧ s.compAvailable = true ∧ s.comp.faults.length < 2 ∧
      2 ≤ [(⟨0, .start, 0⟩ : FaultEntry), ⟨0, .start, 0⟩].length ∧ s.mode.opState = .run ∧
      s.arb.grant = some (grantOf .freeze .routing 0 0) := by decide

/-! ## Witnesses: defrost controller -/

theorem witness_MinuteEvaluation :
    let s := minuteOver demo 1431;
    s.defrost.minute = some ⟨575999, 30, false, true⟩ ∧ s.defrost.phase = .idle ∧ 60 * 9600 ≤ 575999 + 1 ∧
      s.defrost.th ≤ min 65535 (1431 + 1 + 8) ∧ min 65535 (1430 + 1 + 8) < s.defrost.th ∧
      s.settings.defrost.eMax ≤ min 65535 (4319 + 1) ∧ min 65535 (0 + 1) < s.settings.defrost.eMax ∧
      s.mode.opState = .run ∧ State.reset.mode.opState ≠ .run := by decide

/-- RUNOUT at the FZ outlet, the compressor's min-on not met, with a defrost PENDING. -/
def runoutFz : State :=
  let s := inPhase (running demo 1600) .pending ctx
  { s with arb := { s.arb with idle := some .runout, lastRoute := some .ice } }

theorem witness_DefrostRequests :
    ((asking demo 0x41 []).taking 0x41 [] = true ∧ demo.mode.opState = .run ∧ demo.defrost.phase = .idle ∧
        demo.arb.grant = none ∧ demo.arb.idle ≠ some .runout ∧ demo.route.app = none ∧
        demo.sensing.fzCoil.state ≠ .valid ∧ ¬(State.reset.mode.opState = .run ∧ State.reset.defrost.phase = .idle)) ∧
      ((coilAt demo 79).sensing.fzCoil.state = .valid ∧ (coilAt demo 79).sensing.fzCoil.filtered = some 79 ∧
        (79 : Int) < demo.settings.defrost.termTemp ∧ (coilAt demo 80).sensing.fzCoil.filtered = some 80 ∧
        demo.settings.defrost.termTemp ≤ 80 ∧ demo.settings.defrost.drip ≠ 0 ∧
        ({ demo.settings.defrost with drip := 0 }).drip = 0) ∧
      (let s := inPhase (granted .freeze .cooling 5 9) .pending ctx;
        s.defrost.phase = .pending ∧ s.mode.opState = .run ∧ s.arb.grant = some (grantOf .freeze .cooling 5 9) ∧
          s.endCause (grantOf .freeze .cooling 5 9) = none ∧ s.arb.claim = false ∧ s.arb.forced = none ∧
          0 < s.settings.comp.nMin) ∧
      (runoutFz.arb.grant = none ∧ runoutFz.arb.idle = some .runout ∧ runoutFz.arb.lastRoute = some .ice ∧
        runoutFz.winner = none ∧ runoutFz.comp.state = .running ∧ runoutFz.comp.command ≠ 0 ∧
        runoutFz.minOnMet = false ∧ (finish runoutFz).defrost.phase = .pending) ∧
      ((asking demo 0x42 []).taking 0x42 [] = true ∧ (inPhase demo .pending ctx).defrost.context = some ctx ∧
        (inPhase demo .heat ctx).defrost.phase = .heat ∧ ctx.drip ≠ 0 ∧ dry.drip = 0 ∧ demo.defrost.phase ≠ .pending ∧
        demo.defrost.phase ≠ .heat) := by decide

theorem witness_DefrostPhases :
    ((inPhase demo .heat ctx).defrost.phase = .heat ∧ ctx.blind = false ∧
        ctx.maxHeat * 60 * 9600 = (2400 * 9600 - 1) + 1 ∧
        min 1200 (({ ctx with blind := true }).maxHeat * 60) * 9600 = (1200 * 9600 - 1) + 1 ∧
        (2400 * 9600 - 2) + 1 < ctx.maxHeat * 60 * 9600 ∧ ctx.drip ≠ 0 ∧ dry.drip = 0) ∧
      ((inPhase demo .drip ctx).defrost.phase = .drip ∧ ctx.drip * 60 * 9600 = (300 * 9600 - 1) + 1 ∧
        demo.sensing.fzCoil.state ≠ .valid ∧ demo.settings.zone.freeze.enabled = true) ∧
      ((inPhase demo .recover ctx).defrost.phase = .recover ∧ 240 * 9600 ≤ (240 * 9600 - 1) + 1 ∧
        ctx.termination = some .time ∧ ({ ctx with termination := some .temp, heatFor := 719 * 9600 }).heatFor < 720 * 9600 ∧
        720 * 9600 ≤ ({ ctx with termination := some .temp, heatFor := 720 * 9600 }).heatFor) := by decide

/-! ## Witnesses: door monitor -/

/-- A door in a state whose input has stood at a level for all of 100 ms but one tick. -/
def doorIn (d : Door) (st : DoorState) (level : Bool) : State :=
  demo.mapDoor d fun r => { r with state := st, sample := level, stable := 959 }

/- R158: the reading of a level that has stood for 100 ms, and one tick short of it. -/
theorem test_debounce :
    (doorEvent .flex true .closed id (doorIn .flex .closed true)).doors.door.flex.state = .isOpen ∧
      (doorEvent .flex true .closed id
        ((doorIn .flex .closed true).mapDoor .flex fun r => { r with stable := 958 })).doors.door.flex.state = .closed ∧
      (doorEvent .flex true .closed id (doorIn .flex .closed false)).doors.door.flex =
        ⟨.closed, true, 0, 0⟩ := by decide

theorem witness_DoorCommands :
    (let r := (doorIn .freshL .closed true).doors.door.get .freshL;
        demo.doors.sampling = true ∧ r.state = .closed ∧ r.sample = true ∧ 959 ≤ r.stable) ∧
      (let r := (doorIn .freshL .isOpen false).doors.door.get .freshL;
        r.state = .isOpen ∧ r.sample = false ∧ 959 ≤ r.stable) ∧
      (let r := (doorIn .freshL .unread true).doors.door.get .freshL;
        r.state = .unread ∧ r.sample = true ∧ 959 ≤ r.stable) ∧
      State.reset.doors.sampling = false ∧ (demo.doors.door.get .freshL).sample ≠ true ∧
      (demo.doors.door.get .freshL).stable < 959 ∧ (demo.doors.door.get .freshL).state ≠ .closed ∧
      demo.present .fresh = true ∧ Door.freshL ∈ Zone.fresh.doors ∧ Door.freshL ∉ Zone.flex.doors ∧
      State.reset.present .ice = false ∧
      (let s := (doorIn .freshR .isOpen true).mapZoneDoor .fresh fun m => { m with isOpen := true, openFor := 30 * 9600 };
        (∃ d' ∈ Zone.fresh.doors, d' ≠ .freshL ∧ (s.doors.door.get d').state = .isOpen) ∧
          (s.doors.zone.get .fresh).isOpen = true) ∧
      (∀ d' ∈ Zone.ice.doors, d' ≠ .freshL → (demo.doors.door.get d').state ≠ .isOpen) ∧
      (let s := demo.mapZoneDoor .fresh fun m => { m with isOpen := true, openFor := 120 * 9600 - 1 };
        (s.doors.zone.get .fresh).isOpen = true ∧ (s.doors.zone.get .fresh).ajar = false ∧
          s.settings.door.ajarDelay * 9600 = (s.doors.zone.get .fresh).openFor + 1) := by decide

/-! ## Witnesses: unit bus controller -/

theorem witness_BusSlots :
    ((inSlot demo .s6 383).bus.slotFor = 383 ∧ (inSlot demo .s6 383).bus.position = some .s6 ∧
        (inSlot demo .s6 383).bus.deferred = .none ∧ (inSlot demo .s6 383).bus.mode = .active) ∧
      ((busFault demo).bus.mode = .fault ∧ (busFault demo).bus.position = some .s1 ∧
        (busFault demo).bus.checkTimer = some 9599 ∧ 9600 ≤ 9599 + 1 ∧ 9598 + 1 < 9600 ∧
        (List.replicate 10 true).length = 10 ∧ (false :: List.replicate 9 true).length = 10 ∧
        false ∈ false :: List.replicate 9 true ∧ demo.bus.mode ≠ .fault ∧ [true].length ≠ 10) ∧
      (withBus demo fun b => { b with deferred := .stop }).bus.deferred = .stop ∧
      (withBus demo fun b => { b with deferred := .stopThenOpen }).bus.deferred = .stopThenOpen ∧
      (State.reset.bus.unit.get .damper).state = .absent ∧ (demo.bus.unit.get .damper).state ≠ .absent ∧
      demo.comp.command = 0 ∧ (running demo 3300).comp.command ≠ 0 := by decide

theorem witness_BusSlots_levels :
    (let e : Exchange := ⟨.s1, [0, 0, 0], quiet ⟨.s1, [0, 0, 0], []⟩ 75⟩;
        (inSlot demo .s1 75).bus.exchange = some e ∧ e.slot.isSet = true ∧
          e.heard.length = (inSlot demo .s1 75).bus.slotFor ∧ e.heard ++ [true] = e.ownBits ∧
          (inSlot demo .s1 75).bus.mode ≠ .stopped ∧ 75 < 383) ∧
      (let e : Exchange := ⟨.s3, [0, 0], quiet ⟨.s3, [0, 0], []⟩ 65⟩;
        (inSlot demo .s3 65).bus.exchange = some e ∧ e.heard ++ [true] = e.ownBits) ∧
      (quiet ⟨.s3, [0, 0], []⟩ 64).length + 1 < (⟨.s3, [0, 0], []⟩ : Exchange).ownBits.length ∧
      ([] : List Bool).length < (inSlot demo .s2 20).bus.slotFor ∧
      (inSlot demo .s2 20).bus.slotFor + 1 < (List.replicate 22 true).length ∧
      (let e : Exchange := ⟨.s2, [], []⟩;
        20 ≤ (quiet e 21).length ∧ (quiet e 21).length ≤ 20 + 1 ∧ (quiet e 21).length < e.ownBits.length ∧
          quiet e 21 = e.ownBits.take (quiet e 21).length) := by decide

set_option maxRecDepth 4000 in
/-- The pauses of a response whose last character comes as late as the response limit allows. -/
theorem witness_StatusExchange :
    (let e : Exchange := ⟨.s2, [], quiet ⟨.s2, [], []⟩ 151⟩;
        let data : List Byte := [3, 17, 0, 0, 0];
        let response := answered e [56, 0, 0, 0, 0, 0] (data ++ [checkByte 0x32 data]);
        (inSlot demo .s2 151).bus.exchange = some e ∧ (inSlot demo .s2 151).bus.deferred = .none ∧
          e.slot.isSet = false ∧ data.length = e.slot.dataBytes ∧
          checkByte 0x32 data = data.foldl (fun a b => a ^^^ b) e.slot.code ^^^ 0x5A ∧ u8At data 0 ≤ 3 ∧
          response.length = 36 + 20 + 16 * (data.length + 1) ∧ 151 ≤ response.length ∧ response.length ≤ 151 + 1) ∧
      ((demo.bus.unit.get Slot.s2.unit).state ≠ .lost ∧ 0 < demo.settings.comp.minOff ∧
        (invStatusOf [3, 17, 0, 0, 0]).state = .fault ∧ (invStatusOf [2, 0, 0, 0, 0]).state = .running ∧
        (invStatusOf [1, 0, 0, 0, 0]).state = .starting ∧ demo.comp.state = .stopped ∧ demo.comp.lastInv = none ∧
        (compIn demo .lockout []).comp.state = .lockout) ∧
      (let s := compIn (demo.mapUnit .inverter fun r => { r with state := .lost, failures := 8 }) .invLost [];
        (s.bus.unit.get Slot.s2.unit).state = .lost ∧ s.comp.state = .invLost ∧
          s.comp.stopFor < s.settings.comp.minOff * 9600 ∧
          (statusSucceeds .inverter [2, 0, 0, 0, 0] s).comp.state = .stopped) ∧
      (let s := (inService demo).setComp { demo.comp with state := .invLost, stopFor := 300 * 9600, serviceSpeed := 3000 };
        s.comp.state = .invLost ∧ s.settings.comp.minOff * 9600 ≤ s.comp.stopFor ∧
          (finish (statusSucceeds .inverter [2, 0, 0, 0, 0] s)).runRequest = true) ∧
      Slot.s4.unit = .damper := by decide

theorem witness_StatusExchange_consumers :
    ((answered ⟨.s4, [], []⟩ [0, 0, 0, 0, 0] [100, 0, 0, 1, checkByte 0x42 [100, 0, 0, 1]]).length = 86 ∧
        (inSlot demo .s4 86).bus.slotFor = 86 ∧
        u8At [100, 0, 0, 1] 0 ≤ 100 ∧ u8At [100, 0, 0, 1] 1 ≤ 100 ∧
        (withBus demo fun b => { b with deferred := .stop }).bus.deferred ≠ .none ∧ demo.arb.grant = none) ∧
      (let s := { granted .flex .routing 0 0 with
            route := { demo.route with
              app := some ⟨.flex, 0, false, true, false⟩
              dampers := { demo.route.dampers with setMark := true } } };
        s.arb.grant = some (grantOf .flex .routing 0 0) ∧ s.route.app = some ⟨.flex, 0, false, true, false⟩ ∧
          s.route.dampers.setMark = true ∧ (([100, 0, 0, 1] : List Byte).getD 3 0).getLsbD 0 = true ∧ s.mode.opState = .run ∧
          s.defrost.phase ≠ .pending) ∧
      ((answered ⟨.s5, [], []⟩ [0, 0] [1, checkByte 0x52 [1]]).length = 56 ∧ (inSlot demo .s5 56).bus.slotFor = 56) := by decide

theorem witness_FailedExchange :
    (let e : Exchange := ⟨.s2, [], quiet ⟨.s2, [], []⟩ 26⟩;
        (inSlot demo .s2 26).bus.exchange = some e ∧ (inSlot demo .s2 26).bus.deferred = .none ∧
          (demo.bus.unit.get e.slot.unit).state ≠ .absent ∧
          (let h := spoilt e 15 0;
            15 < 16 ∧ h.take 15 = e.ownBits.take 15 ∧ e.ownBits[15]? = some true ∧ h[15]? = some false ∧
              h.length = 16) ∧
          (let h := spoilt e 16 9;
            h.take 16 = e.ownBits.take 16 ∧ e.ownBits[16]? = some false ∧ h[16]? = some true ∧
              16 + 10 * ((16 - 16) / 10 + 1) ≤ h.length ∧ 26 ≤ h.length ∧ h.length ≤ 26 + 1)) ∧
      (let e : Exchange := ⟨.s5, [], []⟩;
        e.slot.isSet = false ∧ e.slot.dataBytes = 1 ∧
          (e.ownBits ++ [] ++ List.replicate 3 true ++ [false] ++ List.replicate 8 true ++ [false]).length ≤
            36 + 20 + 16 * (e.slot.dataBytes + 1) ∧
          (0 : Byte) ≠ [(1 : Byte)].foldl (fun a b => a ^^^ b) e.slot.code ^^^ 0x5A ∧ 3 < u8At [4, 0, 0, 0, 0] 0 ∧
          100 < u8At [0, 101, 0, 0] 1 ∧ (answered e [0, 0] [1, 0]).length ≤ 36 + 20 + 16 * (e.slot.dataBytes + 1) ∧
          [(0 : Nat), 0].length = [(1 : Byte)].length + 1) := by decide

theorem witness_FailedExchange_limit :
    (let e : Exchange := ⟨.s5, [], quiet ⟨.s5, [], []⟩ 87⟩;
        (inSlot demo .s5 87).bus.exchange = some e ∧ e.slot.isSet = false ∧
          (quiet e 88).length = 36 + 20 + 16 * (e.slot.dataBytes + 1) ∧ 87 ≤ (quiet e 88).length ∧
          (quiet e 88).length ≤ 87 + 1 ∧ quiet e 88 = e.ownBits ++ List.replicate 52 true) ∧
      (quiet ⟨.s5, [], []⟩ 87 ++ [false]).length = 88 ∧
      (let r := (nearlyLost demo .inverter).bus.unit.get .inverter;
        r.state ≠ .lost ∧ 8 ≤ min 255 (r.failures + 1)) ∧
      (let r := (nearlyLost demo .damper).bus.unit.get .damper;
        r.state ≠ .lost ∧ 8 ≤ min 255 (r.failures + 1)) ∧
      demo.compAvailable = true ∧ (compIn demo .faultHold []).comp.state = .faultHold ∧
      (serviceRun.comp.state = .running ∧ serviceRun.mode.opState = .service ∧ serviceRun.comp.serviceSpeed ≠ 0) ∧
      (finish (inverterLost (running demo 1600))).runRequest = false := by decide

end Sys2Proof.Tests
end

section
/-!
PROOFS. Temperature sensing (Chapter 2): the curve of Table 2-3 (R22 to R24) and a channel's record at a reading (R25, R26,
R28, R29, R31, R32).
-/
namespace Sys2Proof.Machine

/-! ## The curve (R22 to R24) -/

/-- The segments of the curve of Table 2-3, from cold to warm: the colder breakpoint (temperature, code), then the warmer. -/
def curveSegments : List (Int × Int × Int × Int) :=
  [(-400, 3936, -300, 3814), (-300, 3814, -200, 3627), (-200, 3627, -100, 3367), (-100, 3367, 0, 3037),
    (0, 3037, 100, 2654), (100, 2654, 200, 2248), (200, 2248, 300, 1854), (300, 1854, 400, 1497),
    (400, 1497, 500, 1191)]

/-- Codes fall along a segment, its temperatures are 100 steps apart, and they lie within the ends of the curve. -/
theorem curveSegments_shape :
    ∀ b ∈ curveSegments, b.2.2.2 < b.2.1 ∧ b.2.2.1 = b.1 + 100 ∧ -400 ≤ b.1 ∧ b.2.2.1 ≤ 500 := by
  decide

theorem temperature_breakpoints :
    ∀ b ∈ curveSegments, temperature b.2.1 = b.1 ∧ temperature b.2.2.2 = b.2.2.1 := by
  decide

theorem temperature_cold_end {c : Int} (h : 3936 < c) : temperature c = -400 := if_pos h

theorem temperature_warm_end {c : Int} (h : c ≤ 1191) : temperature c = 500 := by
  simp (disch := omega) only [temperature, if_neg]

theorem temperature_eq_interpolate {b : Int × Int × Int × Int} (hb : b ∈ curveSegments) {c : Int}
    (hwarm : b.2.2.2 < c) (hcold : c ≤ b.2.1) : temperature c = interpolate b.1 b.2.1 b.2.2.2 c := by
  simp only [curveSegments, List.mem_cons, List.not_mem_nil, or_false] at hb
  rcases hb with rfl | rfl | rfl | rfl | rfl | rfl | rfl | rfl | rfl <;> dsimp only at hwarm hcold <;>
    simp (disch := omega) only [temperature, if_pos, if_neg]

/-- Every code lies beyond an end of the curve or on one of its segments. -/
theorem code_on_curve (c : Int) :
    3936 < c ∨ c ≤ 1191 ∨ ∃ b ∈ curveSegments, b.2.2.2 < c ∧ c ≤ b.2.1 := by
  simp only [curveSegments, List.mem_cons, List.not_mem_nil, or_false, exists_eq_or_imp, exists_eq_left]
  omega

theorem le_interpolate {cCold cWarm c : Int} (tCold : Int) (h : cWarm < cCold) (hc : c ≤ cCold) :
    tCold ≤ interpolate tCold cCold cWarm c := by
  have hrise : 0 ≤ (cCold - c) * 100 / (cCold - cWarm) := Int.ediv_nonneg (by omega) (by omega)
  unfold interpolate
  omega

/-- The division rounds toward the colder breakpoint, so the warmer one is not reached. -/
theorem interpolate_lt {cCold cWarm c : Int} (tCold : Int) (h : cWarm < cCold) (hc : cWarm < c) :
    interpolate tCold cCold cWarm c < tCold + 100 := by
  have hrise : (cCold - c) * 100 / (cCold - cWarm) < 100 := Int.ediv_lt_of_lt_mul (by omega) (by omega)
  unfold interpolate
  omega

theorem temperature_within_segment {b : Int × Int × Int × Int} (hb : b ∈ curveSegments) {c : Int}
    (hwarm : b.2.2.2 < c) (hcold : c ≤ b.2.1) : b.1 ≤ temperature c ∧ temperature c < b.2.2.1 := by
  obtain ⟨hcodes, hsteps, -, -⟩ := curveSegments_shape b hb
  rw [temperature_eq_interpolate hb hwarm hcold, hsteps]
  exact ⟨le_interpolate b.1 hcodes hcold, interpolate_lt b.1 hcodes hwarm⟩

theorem temperature_bounds (c : Int) : -400 ≤ temperature c ∧ temperature c ≤ 500 := by
  obtain hcold | hwarm | ⟨b, hb, hwarm, hcold⟩ := code_on_curve c
  · simp [temperature_cold_end hcold]
  · simp [temperature_warm_end hwarm]
  · obtain ⟨-, -, hlow, hhigh⟩ := curveSegments_shape b hb
    obtain ⟨hge, hlt⟩ := temperature_within_segment hb hwarm hcold
    omega

/-- Settles O32: on each segment of the curve by its interpolation. -/
theorem temperatureInterpolates : Obligations.TemperatureInterpolates := by
  intro b hb c
  obtain ⟨hcoldPoint, hwarmPoint⟩ := temperature_breakpoints b hb
  exact ⟨hcoldPoint, hwarmPoint, fun hwarm hcold =>
    ⟨temperature_eq_interpolate hb hwarm hcold, temperature_within_segment hb hwarm hcold⟩⟩

theorem reading_eq_none_iff (code : Code) : reading code = none ↔ code.toNat < 40 ∨ 4050 < code.toNat := by
  simp [reading, imp_iff_not_or]

theorem reading_eq_some_iff (code : Code) (t : Int) :
    reading code = some t ↔ (40 ≤ code.toNat ∧ code.toNat ≤ 4050) ∧ temperature code.toNat = t := by
  simp [reading]

/-! ## The window (R26) -/

theorem joinWindow_of_room {w : List Int} (h : w.length < 8) (t : Int) : joinWindow w t = w ++ [t] :=
  if_neg (by rw [List.length_append, List.length_singleton]; omega)

theorem joinWindow_of_full {w : List Int} (h : 8 ≤ w.length) (t : Int) : joinWindow w t = (w ++ [t]).drop 1 :=
  if_pos (by rw [List.length_append, List.length_singleton]; omega)

@[simp] theorem joinWindow_getLast? (w : List Int) (t : Int) : (joinWindow w t).getLast? = some t := by
  by_cases h : w.length < 8
  · simp [joinWindow_of_room h]
  · have hpos : 1 ≤ w.length := by omega
    rw [joinWindow_of_full (by omega), List.drop_append_of_le_length hpos, List.getLast?_concat]

/-! ## A reading at a channel, by its state (R25, R28, R29, R31, R32) -/

section
variable {r : ChannelRec}

theorem ChannelRec.take_some_starting (h : r.state = .starting) (t : Int) :
    r.take (some t) =
      if 4 ≤ (joinWindow r.window t).length then
        (⟨.valid, joinWindow r.window t, 0, [], some (filterOf (joinWindow r.window t))⟩,
          .value (filterOf (joinWindow r.window t)))
      else (⟨.starting, joinWindow r.window t, 0, [], none⟩, .nothing) := by
  simp only [ChannelRec.take, ChannelRec.valid, h]

theorem ChannelRec.take_some_valid (h : r.state = .valid) (t : Int) :
    r.take (some t) =
      (⟨.valid, joinWindow r.window t, 0, [], some (filterOf (joinWindow r.window t))⟩,
        .value (filterOf (joinWindow r.window t))) := by
  simp only [ChannelRec.take, ChannelRec.valid, h]

theorem ChannelRec.take_some_fault (h : r.state = .fault) (t : Int) :
    r.take (some t) = (⟨.recovering, [], 0, [t], none⟩, .nothing) := by
  simp only [ChannelRec.take, ChannelRec.valid, h]

theorem ChannelRec.take_some_recovering (h : r.state = .recovering) (t : Int) :
    r.take (some t) =
      if 3 ≤ r.run.length then
        (⟨.valid, r.run ++ [t], 0, [], some (filterOf (r.run ++ [t]))⟩, .recovery (filterOf (r.run ++ [t])))
      else (⟨.recovering, [], 0, r.run ++ [t], none⟩, .nothing) := by
  simp [ChannelRec.take, ChannelRec.valid, h]

/-- STARTING and VALID count invalid readings alike; the third in a row enters FAULT. -/
theorem ChannelRec.take_none_counting (h : r.state = .starting ∨ r.state = .valid) :
    r.take none =
      if 2 ≤ r.invalid then (⟨.fault, [], 0, [], none⟩, .fault)
      else ({ r with invalid := r.invalid + 1 }, .nothing) := by
  obtain h | h := h <;> simp [ChannelRec.take, ChannelRec.invalidReading, ChannelRec.enterFault, h]

theorem ChannelRec.take_none_fault (h : r.state = .fault) : r.take none = (r, .nothing) := by
  simp only [ChannelRec.take, ChannelRec.invalidReading, h]

theorem ChannelRec.take_none_recovering (h : r.state = .recovering) :
    r.take none = (⟨.fault, [], 0, [], none⟩, .nothing) := by
  simp only [ChannelRec.take, ChannelRec.invalidReading, ChannelRec.enterFault, h]

end

/-- A valid reading clears the invalid count, leaves no channel in FAULT, and is the newest of the window or the run. -/
theorem ChannelRec.take_some_joins (r : ChannelRec) (t : Int) :
    (r.take (some t)).1.invalid = 0 ∧ (r.take (some t)).1.state ≠ .fault ∧
      ((r.take (some t)).1.window.getLast? = some t ∨ (r.take (some t)).1.run.getLast? = some t) := by
  cases h : r.state with
  | starting => rw [take_some_starting h]; split <;> simp
  | valid => simp [take_some_valid h]
  | fault => simp [take_some_fault h]
  | recovering => rw [take_some_recovering h]; split <;> simp

/-- Settles O33: the ends of the curve, its bounds, and a valid reading in each channel state. -/
theorem temperatureEnds : Obligations.TemperatureEnds := by
  intro code
  refine ⟨fun hlow hhigh => ?_, fun hlow hhigh => ?_, fun t ht => ?_, reading_eq_none_iff code⟩
  · exact (reading_eq_some_iff code _).2 ⟨by omega, temperature_cold_end (by omega)⟩
  · exact (reading_eq_some_iff code _).2 ⟨by omega, temperature_warm_end (by omega)⟩
  · obtain ⟨-, rfl⟩ := (reading_eq_some_iff code t).1 ht
    obtain ⟨hlow, hhigh⟩ := temperature_bounds code.toNat
    exact ⟨hlow, hhigh, fun r => r.take_some_joins _⟩

/-- Settles O35, state by state. -/
theorem channelTakesReading : Obligations.ChannelTakesReading := by
  intro r t
  refine ⟨fun h hlen => ?_, fun h hlen => ?_, fun h hlen => ?_, fun h hlen => ?_,
    fun h => ⟨fun hcount => ?_, fun hcount => ?_⟩,
    fun h => ⟨ChannelRec.take_some_fault h t, ChannelRec.take_none_fault h⟩,
    fun h => ⟨fun hlen => ?_, fun hlen => ?_, ChannelRec.take_none_recovering h⟩⟩
  · rw [ChannelRec.take_some_starting h, joinWindow_of_room (by omega)]
    exact if_neg (by rw [List.length_append, List.length_singleton]; omega)
  · rw [ChannelRec.take_some_starting h, joinWindow_of_room (by omega)]
    exact if_pos (by rw [List.length_append, List.length_singleton]; omega)
  · rw [ChannelRec.take_some_valid h, joinWindow_of_room hlen]
  · rw [ChannelRec.take_some_valid h, joinWindow_of_full hlen.ge]
  · rw [ChannelRec.take_none_counting h, if_neg (by omega)]
  · rw [ChannelRec.take_none_counting h, if_pos hcount]
  · rw [ChannelRec.take_some_recovering h, if_neg (by omega)]
  · rw [ChannelRec.take_some_recovering h, if_pos hlen.ge]

end Sys2Proof.Machine
end

section
/-!
PROOFS. Demand (Chapter 3): the demand state decided from T (R40) and D formed from it (R41).
-/
namespace Sys2Proof.Machine

/-! ## The demand state (R40) -/

section
variable {q : ZoneSettings} {t : Int}

theorem demandOf_warm (h : q.setpoint + q.hu ≤ t) (held : Demand) : demandOf q t held = .calling := if_pos h

/-- S + Hu stays above S - Hd while one of the two margins is positive, so the order of the two tests does not matter. -/
theorem demandOf_cold (hmargins : 0 < q.hu + q.hd) (h : t ≤ q.setpoint - q.hd) (held : Demand) :
    demandOf q t held = .satisfied := by
  have hnotWarm : ¬ q.setpoint + q.hu ≤ t := by omega
  rw [demandOf, if_neg hnotWarm, if_pos h]

theorem demandOf_between (hcold : q.setpoint - q.hd < t) (hwarm : t < q.setpoint + q.hu) (held : Demand) :
    demandOf q t held = held := by
  rw [demandOf, if_neg hwarm.not_ge, if_neg hcold.not_ge]

theorem above_cold_of_demandOf_calling (hmargins : 0 < q.hu + q.hd) {held : Demand}
    (h : demandOf q t held = .calling) : q.setpoint - q.hd < t := by
  by_contra hcold
  rw [demandOf_cold hmargins (not_lt.mp hcold)] at h
  cases h

end

/-- Settles O30: T at or above S + Hu, at or below S - Hd, and between them. -/
theorem demandStateRule : Obligations.DemandStateRule := by
  intro q t held hu hd
  have hmargins : 0 < q.hu + q.hd := by omega
  exact ⟨fun hwarm => demandOf_warm hwarm held, fun hcold => demandOf_cold hmargins hcold held,
    fun hcold hwarm => demandOf_between hcold hwarm held, by omega, rfl⟩

/-! ## D (R41) -/

@[simp] theorem levelOf_satisfied (q : ZoneSettings) (t : Int) : levelOf q t .satisfied = 0 := rfl

theorem levelOf_le (q : ZoneSettings) (t : Int) (d : Demand) : levelOf q t d ≤ 100 := by
  cases d with
  | satisfied => exact Nat.zero_le _
  | calling => exact Nat.min_le_left _ _

theorem levelOf_calling_of_nonpos {q : ZoneSettings} {t : Int} (h : (t - q.setpoint + q.hd) * 100 ≤ 0) :
    levelOf q t .calling = 0 := by
  rw [levelOf, Int.toNat_of_nonpos h, Nat.zero_div, Nat.min_zero]

theorem levelOf_calling_of_nonneg {q : ZoneSettings} {t : Int} (h : 0 ≤ (t - q.setpoint + q.hd) * 100) :
    (levelOf q t .calling : Int) = min 100 ((t - q.setpoint + q.hd) * 100 / (q.hd + q.fs)) := by
  rw [levelOf, Nat.cast_min, Int.natCast_ediv, Int.toNat_of_nonneg h, Nat.cast_add, Nat.cast_ofNat]

/-- With Hd + Fs = 250, a T one or two steps above S - Hd gives less than one per cent. -/
theorem levelOf_calling_eq_zero {q : ZoneSettings} {t : Int} (hspan : (q.hd : Int) + q.fs = 250)
    (h : t - q.setpoint + q.hd = 1 ∨ t - q.setpoint + q.hd = 2) : levelOf q t .calling = 0 := by
  have hlevel := levelOf_calling_of_nonneg (q := q) (t := t) (by omega)
  rw [hspan] at hlevel
  omega

/-- Membership looks at a zone's demand state and isolation alone of what its record holds, not at D (R11). -/
theorem State.mapZone_member (s : State) (z : Zone) {f : ZoneRec → ZoneRec}
    (hdemand : ∀ r, (f r).demand = r.demand) (hisolation : ∀ r, (f r).isolation = r.isolation) :
    (s.mapZone z f).member z = s.member z := by
  simp [State.member, State.isolated, State.present, hdemand, hisolation]

/-- With D = 0 neither the span nor the ambient offset raises the speed, and no cap takes it below Nmin (R122). -/
theorem coolingTarget_zero (c : CompParams) (cap a : Nat) : coolingTarget c cap 0 a = c.nMin := by
  have hraw : c.nMin + (c.nMax - c.nMin) * 0 / 100 + (if 0 < 0 then a else 0) = c.nMin := by simp
  have hlimited : down50 (min c.nMin (min cap c.nMax)) ≤ c.nMin :=
    (Nat.sub_le _ _).trans (Nat.min_le_left _ _)
  rw [coolingTarget, hraw]
  exact max_eq_left hlimited

/-- Settles O31: D by the sign of its numerator, and what D = 0 leaves of membership and speed. -/
theorem demandLevelRule : Obligations.DemandLevelRule := by
  intro q t held hu hd _
  have hmargins : 0 < q.hu + q.hd := by omega
  exact ⟨levelOf_satisfied q t, levelOf_le q t _,
    fun hcalling _ => above_cold_of_demandOf_calling hmargins hcalling,
    levelOf_calling_of_nonpos, fun hpos => levelOf_calling_of_nonneg hpos.le,
    fun hpos => (Int.tdiv_eq_ediv_of_nonneg hpos.le).symm,
    fun hspan => levelOf_calling_eq_zero (by omega),
    fun s z _ => s.mapZone_member z (fun _ => rfl) (fun _ => rfl),
    fun c cap a _ => coolingTarget_zero c cap a⟩

end Sys2Proof.Machine
end

section
/-!
PROOFS. Compressor control (Chapter 6): rounding to a multiple of 50, the target speed in COOLING by its steps and the
bounds it keeps (R122).
-/
namespace Sys2Proof.Machine

/-! ## Rounding down to a multiple of 50 (R122) -/

theorem down50_le (n : Nat) : down50 n ≤ n := Nat.sub_le _ _

@[simp] theorem down50_mod (n : Nat) : down50 n % 50 = 0 :=
  Nat.sub_mod_eq_zero_of_mod_eq (Nat.mod_mod n 50).symm

/-! ## The target speed in COOLING (R122) -/

/-- The speed after step 2: the raw speed held to the route's cap and Nmax. -/
def limitedSpeed (c : CompParams) (cap d a : Nat) : Nat :=
  min (c.nMin + (c.nMax - c.nMin) * d / 100 + (if 0 < d then a else 0)) (min cap c.nMax)

theorem coolingTarget_eq (c : CompParams) (cap d a : Nat) :
    coolingTarget c cap d a = max (down50 (limitedSpeed c cap d a)) c.nMin := max_comm _ _

section
variable (c : CompParams) (cap d a : Nat)

theorem down50_limitedSpeed_le_cap : down50 (limitedSpeed c cap d a) ≤ cap :=
  (down50_le _).trans ((min_le_right _ _).trans (min_le_left _ _))

theorem down50_limitedSpeed_le_nMax : down50 (limitedSpeed c cap d a) ≤ c.nMax :=
  (down50_le _).trans ((min_le_right _ _).trans (min_le_right _ _))

theorem nMin_le_coolingTarget : c.nMin ≤ coolingTarget c cap d a := le_max_left _ _

variable {c cap}

theorem coolingTarget_le_nMax (h : c.nMin ≤ c.nMax) : coolingTarget c cap d a ≤ c.nMax :=
  max_le h (down50_limitedSpeed_le_nMax c cap d a)

/-- Step 4 leaves the rounded speed or takes Nmin, and both are multiples of 50. -/
theorem coolingTarget_mod (h : c.nMin % 50 = 0) : coolingTarget c cap d a % 50 = 0 := by
  rw [coolingTarget_eq]
  rcases max_choice (down50 (limitedSpeed c cap d a)) c.nMin with hmax | hmax
  · rw [hmax, down50_mod]
  · rw [hmax, h]

/-- A cap at or below Nmin acts as Nmin: step 4 raises what step 2 cut away. -/
theorem coolingTarget_of_cap_le (h : cap ≤ c.nMin) : coolingTarget c cap d a = c.nMin :=
  max_eq_left ((down50_limitedSpeed_le_cap c cap d a).trans h)

end

/-- The span of the speeds is at most 5000 - 1200 rpm, and D_eff at most 100 %. -/
theorem span_mul_le {c : CompParams} (hmin : 1200 ≤ c.nMin) (hmax : c.nMax ≤ 5000) {d : Nat} (hd : d ≤ 100) :
    (c.nMax - c.nMin) * d ≤ 3800 * 100 :=
  Nat.mul_le_mul (by omega) hd

/-- Table 6-2's row for a grant in COOLING: the cap of the granted zone, its D_eff and the ambient offset. -/
theorem State.targetSpeed_cooling {s : State} {g : Grant} {d : Nat} (hrun : s.mode.opState = .run)
    (hgrant : s.arb.grant = some g) (hphase : g.phase = .cooling) (hd : s.dEff = some d) :
    s.targetSpeed =
      coolingTarget s.settings.comp (s.settings.timing.get g.zone).speedCap d (ambientOffset s.ambient) := by
  simp only [State.targetSpeed, hrun, hgrant, hphase, hd, Option.getD_some]

/-- Settles O49: the four steps are those of coolingTarget, whose bounds follow step by step. -/
theorem targetSpeed : Obligations.TargetSpeed := by
  refine ⟨fun c cap d a hok hd => ?_, fun _ _ _ => State.targetSpeed_cooling⟩
  intro raw lowest n
  have hn : coolingTarget c cap d a = n := coolingTarget_eq c cap d a
  rw [← hn]
  obtain ⟨hminLow, hspan, hmaxHigh, hminMul, -, -⟩ := hok
  refine ⟨rfl, span_mul_le hminLow hmaxHigh hd, nMin_le_coolingTarget c cap d a, coolingTarget_le_nMax d a (by omega),
    coolingTarget_mod d a hminMul, coolingTarget_of_cap_le d a, ?_⟩
  rintro rfl
  exact coolingTarget_zero c cap a

end Sys2Proof.Machine
end

section
/-!
PROOFS. Event reporting (Chapter 10): the sets of the event unit by their number, EVENT_MASK with its operations and
refusals (R191), EVENT_READ (R192).
-/
namespace Sys2Proof.Machine

/-! ## A request that is taken (R187, R188) -/

/-- The owner of a request of the right length acts, and the reply is built from the state it left. -/
theorem takeRequest_of_taking {type : Byte} {p : List Byte} {n : Nat} {s : State} (htaking : s.taking type p = true)
    (hlength : p.length = n) (owner : State → Status × State) (fields : State → List Byte) :
    takeRequest type p n owner fields s =
      (owner s).2.answer (replyFrame type (owner s).1 (fields (owner s).2)) :=
  (if_pos htaking).trans (if_pos hlength)

/-! ## One set of the event unit (3.3(a)) -/

@[simp] theorem Events.get_mapSet_self (e : Events) (n : Nat) (f : EventSet → EventSet) :
    (e.mapSet n f).get n = f (e.get n) := by
  unfold Events.mapSet Events.get
  cases Zone.ofNumber n with
  | none => rfl
  | some z => exact PerZone.get_set_self e.zone z (f (e.zone.get z))

/-! ## EVENT_MASK (R191) -/

/-- The first field is the set's number as it was sent. -/
theorem eventMaskFields_first (n : Byte) (p : List Byte) (s : State) :
    eventMaskFields (u8At (n :: p) 0) s = [n, (s.events.get n.toNat).rise, (s.events.get n.toNat).fall] := by
  simp [eventMaskFields, putU8, u8At]

theorem exec_eventMask (p : List Byte) (s : State) :
    exec (.eventMask p) s = .next (takeRequest 0x50 p 4 (eventMaskOwner p) (eventMaskFields (u8At p 0)) s) := rfl

section
variable {s : State} {n op rise fall : Byte}

theorem eventMaskOwner_refuses (h : 4 < n.toNat ∨ 2 < op.toNat) :
    eventMaskOwner [n, op, rise, fall] s = (.badValue, s) := by
  by_cases hset : 4 < n.toNat
  · exact if_pos hset
  · exact (if_neg hset).trans (if_pos (h.resolve_left hset))

theorem eventMaskOwner_accepts (hset : n.toNat ≤ 4) (hop : op.toNat ≤ 2) :
    eventMaskOwner [n, op, rise, fall] s =
      (.ok, { s with events := s.events.mapSet n.toNat (EventSet.mask op.toNat rise fall) }) :=
  (if_neg hset.not_gt).trans (if_neg hop.not_gt)

theorem exec_eventMask_refused (htaking : s.taking 0x50 [n, op, rise, fall] = true) (h : 4 < n.toNat ∨ 2 < op.toNat) :
    exec (.eventMask [n, op, rise, fall]) s = .next (s.answer (hostFrame 0xD0 [4])) := by
  rw [exec_eventMask, takeRequest_of_taking (n := 4) htaking rfl, eventMaskOwner_refuses h]
  rfl

/-- Whatever the operation, the reply shows the enables it left (R191). -/
theorem exec_eventMask_taken {set : Nat} (hset : set ≤ 4) (hnumber : n.toNat = set) (hop : op.toNat ≤ 2)
    (htaking : s.taking 0x50 [n, op, rise, fall] = true) :
    exec (.eventMask [n, op, rise, fall]) s =
      .next
        (State.answer { s with events := s.events.mapSet set (EventSet.mask op.toNat rise fall) }
          (hostFrame 0xD0
            [0, n, (EventSet.mask op.toNat rise fall (s.events.get set)).rise,
              (EventSet.mask op.toNat rise fall (s.events.get set)).fall])) := by
  subst hnumber
  rw [exec_eventMask, takeRequest_of_taking (n := 4) htaking rfl, eventMaskOwner_accepts hset hop, eventMaskFields_first,
    ← Events.get_mapSet_self s.events n.toNat (EventSet.mask op.toNat rise fall)]
  rfl

end

theorem toNat_ofNat_set (set : Fin 5) : (BitVec.ofNat 8 set.val).toNat = set.val := by
  rw [BitVec.toNat_ofNat]
  omega

/-! ## EVENT_READ (R192) -/

/-- The reply shows the sets as they were before their latched bits were cleared. -/
theorem exec_eventRead_taken {s : State} (htaking : s.taking 0x51 [] = true) :
    exec (.eventRead []) s =
      .next
        (State.answer { s with events := s.events.clearLatched } (hostFrame 0xD1 (0 :: eventReadFields s.events))) :=
  congrArg Host.Outcome.next (takeRequest_of_taking htaking rfl _ _)

/-- Settles O21, by the operation of EVENT_MASK. -/
theorem eventRequests : Obligations.EventRequests := by
  refine ⟨fun set rise fall s => ?_, fun set op rise fall s => exec_eventMask_refused, fun s => exec_eventRead_taken⟩
  have hset : set.val ≤ 4 := Nat.le_of_lt_succ set.isLt
  have hnumber := toNat_ofNat_set set
  exact ⟨exec_eventMask_taken hset hnumber (by decide), exec_eventMask_taken hset hnumber (by decide),
    exec_eventMask_taken hset hnumber (by decide)⟩

end Sys2Proof.Machine
end

section
/-!
PROOFS. The single changes of which everything that follows an event is made, and what each of the shared operations makes
of them: an invariant that each single change keeps is kept by every operation.
-/
namespace Sys2Proof.Machine

/-- No zone stands twice on the waiting list. -/
abbrev Arbiter.listNodup (a : Arbiter) : Prop := (a.waiting.map Waiting.zone).Nodup

/-- A single change made by the operations that follow an event: at the arbiter, the route controller, the compressor
controller, the defrost controller with the DEFROST hold causes, and mode control at the end of INIT. -/
inductive Change (s : State) : State → Prop
  | arb (a : Arbiter) (hlist : s.arb.listNodup → a.listNodup) : Change s { s with arb := a }
  | target (p : Option ValvePos) : Change s (s.mapValve fun v => { v with target := p })
  | ask (a : RehomeAsk) : Change s (s.mapValve fun v => { v with rehomeAsk := a })
  | kick : Change s (kickValve s)
  | dampers (d : Dampers) : Change s { s with route := { s.route with dampers := d } }
  | app (a : Option RouteApp) : Change s { s with route := { s.route with app := a } }
  | preChill (p q : PreChill) : Change s { s with route := { s.route with preFreezer := p, preFresh := q } }
  | recompute : Change s (recompute s)
  | start (hstate : s.comp.state = .stopped) : Change s (startComp s)
  | stop (hstate : s.comp.state = .running) : Change s (stopComp s)
  | hold (on : Bool) : Change s (holdDefrost on s)
  | defrost (d : Defrost) (hth : d.th = s.defrost.th ∨ ∃ t n, d.th = adaptTh s.defrost.th t n) :
      Change s { s with defrost := d }
  | run (hmode : s.mode.opState = .init) : Change s { s with mode := { s.mode with opState := .run } }

/-- Any number of single changes, one after another. -/
abbrev Changes : State → State → Prop := Relation.ReflTransGen Change

theorem Change.many {s t : State} (h : Change s t) : Changes s t := .single h

/-- What each single change keeps, any number of them keeps. -/
theorem Changes.keeps {P : State → Prop} (hP : ∀ s t, Change s t → P s → P t) {s t : State} (h : Changes s t)
    (hs : P s) : P t := by
  induction h with
  | refl => exact hs
  | tail _ hlast ih => exact hP _ _ hlast ih

theorem Changes.ite {s t u : State} {c : Prop} [Decidable c] (ht : c → Changes s t) (hu : ¬c → Changes s u) :
    Changes s (if c then t else u) := by
  split
  · exact ht ‹_›
  · exact hu ‹_›

/-! ## Compressor controller -/

theorem compReact_changes (s : State) : Changes s (compReact s) := by
  unfold compReact
  refine .ite (fun h => (Change.start ?_).many) fun _ => .ite (fun h => (Change.stop ?_).many) fun _ => .refl
  · simp only [Bool.and_eq_true, decide_eq_true_eq] at h
    exact h.1.1
  · simp only [Bool.and_eq_true, decide_eq_true_eq] at h
    exact h.1.1

/-! ## Route controller -/

theorem setValveTarget_changes (p : ValvePos) (s : State) : Changes s (setValveTarget p s) := (Change.target _).many

theorem holdValve_changes (s : State) : Changes s (holdValve s) := by
  have htarget : ∃ o, holdValve s = s.mapValve fun v => { v with target := o } := by
    unfold holdValve State.mapValve
    dsimp only
    split
    · exact ⟨s.route.valve.target, rfl⟩
    · split
      · exact ⟨_, rfl⟩
      · exact ⟨_, rfl⟩
      · exact ⟨s.route.valve.target, rfl⟩
  obtain ⟨o, ho⟩ := htarget
  exact ho ▸ (Change.target o).many

theorem changeDampers_changes (flex ice : Nat) (s : State) : Changes s (changeDampers flex ice s) :=
  (Change.dampers _).many

theorem clearPreChill_changes (s : State) : Changes s (clearPreChill s) := (Change.preChill _ _).many

theorem setPreChill_changes (f : EvapFan) (p : PreChill) (s : State) :
    Changes s { s with route := s.route.setPreChill f p } := by
  cases f with
  | freezer => exact (Change.preChill p s.route.preFresh).many
  | fresh => exact (Change.preChill s.route.preFreezer p).many

theorem applyRoute_changes (z : Zone) (s : State) : Changes s (applyRoute z s) := by
  unfold applyRoute
  refine .ite (fun _ => .refl) fun _ => ?_
  exact (((setValveTarget_changes _ s).trans (changeDampers_changes _ _ _)).tail (.app _)).trans (clearPreChill_changes _)

theorem inPlaceTest_changes (s : State) : Changes s (inPlaceTest s) := by
  unfold inPlaceTest
  split
  · exact .ite (fun _ => (Change.app _).many) fun _ => .refl
  · exact .refl

theorem preChillCompare_changes (f : EvapFan) (s : State) : Changes s (preChillCompare f s) := by
  unfold preChillCompare
  split
  · refine .ite (fun _ => ?_) fun _ => .refl
    split
    · exact .ite (fun _ => setPreChill_changes _ _ s) fun _ => .refl
    · exact .refl
  · exact .refl

theorem startPreChill_changes (z : Zone) (s : State) : Changes s (startPreChill z s) :=
  (setPreChill_changes _ _ s).trans (preChillCompare_changes _ _)

/-! ## Arbiter -/

/-- The recomputation of the list keeps every zone on it once: those that join did not stand on it. -/
theorem relisted_nodup {s : State} (h : s.arb.listNodup) : (s.relisted.map Waiting.zone).Nodup := by
  have hjoined : ∀ l : List Zone, (l.map fun z => (⟨z, 0⟩ : Waiting)).map Waiting.zone = l := by
    intro l
    rw [List.map_map]
    exact List.map_id l
  unfold State.relisted
  rw [List.map_append, hjoined]
  refine List.nodup_append'.mpr ⟨h.sublist (List.filter_sublist.map _), List.Nodup.filter _ (by decide), ?_⟩
  rw [List.disjoint_left]
  intro z hstays hjoins
  obtain ⟨w, hw, rfl⟩ := List.mem_map.mp hstays
  have honList := (s.onList_iff w.zone).mpr ⟨w, List.mem_of_mem_filter hw, rfl⟩
  simp [honList] at hjoins

theorem filter_nodup {l : List Waiting} (p : Waiting → Bool) (h : (l.map Waiting.zone).Nodup) :
    ((l.filter p).map Waiting.zone).Nodup :=
  h.sublist (List.filter_sublist.map _)

theorem relist_changes (s : State) : Changes s (relist s) := (Change.arb _ relisted_nodup).many

theorem normaliseP2_changes (s : State) : Changes s (normaliseP2 s) := by
  unfold normaliseP2
  split
  · exact .ite (fun _ => Change.many (.arb _ fun h => h)) fun _ => .refl
  · exact .refl

theorem normaliseP1_changes (s : State) : Changes s (normaliseP1 s) := by
  unfold normaliseP1
  split
  · exact .ite (fun _ => Change.many (.arb _ fun h => h)) fun _ => .refl
  · exact .refl

theorem normalise_changes (s : State) : Changes s (normalise s) :=
  (normaliseP2_changes s).trans (normaliseP1_changes _)

theorem movePointers_changes (z : Zone) (s : State) : Changes s (movePointers z s) := by
  unfold movePointers
  split <;> exact Change.many (.arb _ fun h => h)

theorem createGrant_changes (z : Zone) (r : GrantReason) (s : State) : Changes s (createGrant z r s) := by
  unfold createGrant
  exact ((((movePointers_changes z s).tail (.arb _ (filter_nodup _))).trans (clearPreChill_changes _)).trans
    (applyRoute_changes z _)).tail .recompute

theorem regrant_changes (z : Zone) (s : State) : Changes s (regrant z s) := by
  unfold regrant
  refine Relation.ReflTransGen.tail ?_ .recompute
  exact (movePointers_changes z s).tail (.arb _ fun h => h)

theorem endGrant_changes (r : EndReason) (s : State) : Changes s (endGrant r s) := by
  unfold endGrant
  split
  · rename_i g _
    exact ((Change.arb { s.arb with
      grant := none, lastEnd := some ⟨g.zone, r⟩, lastRoute := s.route.app.map RouteApp.zone } fun h => h).many.tail
        (.app none)).trans (relist_changes _)
  · exact .refl

theorem rehomeTest_changes (s : State) : Changes s (rehomeTest s) := by
  unfold rehomeTest
  refine .ite (fun _ => ?_) fun _ => .refl
  exact ((Change.arb { s.arb with idle := some .rehome } fun h => h).many.tail
    (.ask (if s.arb.parkMode = .close then .toClosed else .toHeld))).tail .kick

theorem enterParked_changes (s : State) : Changes s (enterParked s) := by
  unfold enterParked
  refine Relation.ReflTransGen.trans ?_ (rehomeTest_changes _)
  have hparked := (Change.arb (s := s) { s.arb with idle := some .parked, parkTimer := none } fun h => h).many
  exact Changes.ite (fun _ => (hparked.trans (setValveTarget_changes _ _)).tail .kick) fun _ => hparked

theorem enterParkDelay_changes (s : State) : Changes s (enterParkDelay s) := by
  have hheld := ((holdValve_changes s).trans (changeDampers_changes 0 0 _)).trans (clearPreChill_changes _)
  unfold enterParkDelay
  refine Changes.ite (fun _ => Relation.ReflTransGen.trans ?_ (enterParked_changes _)) fun _ => ?_
  · exact hheld.tail (.arb _ fun h => h)
  · exact hheld.tail (.arb _ fun h => h)

theorem enterIdle_changes (s : State) : Changes s (enterIdle s) := by
  unfold enterIdle
  refine Relation.ReflTransGen.tail ?_ .recompute
  exact Changes.ite (fun _ => Change.many (.arb _ fun h => h)) fun _ => enterParkDelay_changes s

theorem runoutEnd_changes (s : State) : Changes s (runoutEnd s) :=
  .ite (fun _ => enterParkDelay_changes s) fun _ => .refl

theorem afterEnd_changes (s : State) : Changes s (afterEnd s) := by
  unfold afterEnd
  refine (normalise_changes s).trans ?_
  dsimp only
  split
  · exact createGrant_changes _ _ _
  · exact enterIdle_changes _

theorem markContinuation_changes (s : State) : Changes s (markContinuation s) := Change.many (.arb _ fun h => h)

theorem heldGrant_changes (g : Grant) (s : State) : Changes s (heldGrant g s) := by
  unfold heldGrant
  split
  · exact (endGrant_changes _ s).trans (afterEnd_changes _)
  · refine (markContinuation_changes s).trans ?_
    dsimp only
    split
    · refine Changes.ite (fun _ => ?_) fun _ => .refl
      exact ((endGrant_changes _ _).trans (normalise_changes _)).trans (createGrant_changes _ _ _)
    · exact .refl

theorem noGrant_changes (s : State) : Changes s (noGrant s) := by
  unfold noGrant
  dsimp only
  split
  · exact (normalise_changes s).trans (createGrant_changes _ _ _)
  · exact (runoutEnd_changes s).trans (rehomeTest_changes _)

theorem arbitrate_changes (s : State) : Changes s (arbitrate s) := by
  unfold arbitrate
  refine (relist_changes s).trans ?_
  dsimp only
  split
  · split
    · exact heldGrant_changes _ _
    · exact noGrant_changes _
  · exact .refl

theorem coolingStart_changes (s : State) : Changes s (coolingStart s) := by
  unfold coolingStart
  split
  · refine .ite (fun _ => ?_) fun _ => .refl
    refine Relation.ReflTransGen.trans (Relation.ReflTransGen.tail ?_ .recompute) (startPreChill_changes _ _)
    exact Change.many (.arb _ fun h => h)
  · exact .refl

theorem settle_changes (s : State) : Changes s (settle s) :=
  ((((arbitrate_changes s).tail .kick).trans (compReact_changes _)).trans (inPlaceTest_changes _)).trans
    (coolingStart_changes _)

/-! ## Defrost controller -/

/-- A change of the defrost controller's record that leaves Th alone. -/
theorem mapDefrost_changes (s : State) {f : Defrost → Defrost} (hth : (f s.defrost).th = s.defrost.th) :
    Changes s (s.mapDefrost f) :=
  (Change.defrost _ (.inl hth)).many

theorem mapContext_changes (s : State) (f : DefrostContext → DefrostContext) : Changes s (s.mapContext f) :=
  mapDefrost_changes s rfl

theorem holdDefrost_changes (on : Bool) (s : State) : Changes s (holdDefrost on s) := (Change.hold on).many

theorem endDefrost_changes (t : Termination) {th : Nat} (s : State)
    (hth : th = s.defrost.th ∨ ∃ t n, th = adaptTh s.defrost.th t n) : Changes s (endDefrost t th s) :=
  (Change.many (s := s) (.arb { s.arb with claim := false } fun h => h)).tail (.defrost _ hth)

theorem completeDefrost_changes (s : State) : Changes s (completeDefrost s) := by
  unfold completeDefrost
  split
  · exact endDefrost_changes _ s (.inr ⟨_, _, rfl⟩)
  · exact .refl

theorem fanReleaseTest_changes (s : State) : Changes s (fanReleaseTest s) := by
  rcases fanReleaseTest_cases s with h | ⟨-, h⟩
  · rw [h]
  · exact h ▸ completeDefrost_changes s

theorem enterRecover_changes (s : State) : Changes s (enterRecover s) := by
  unfold enterRecover
  refine Relation.ReflTransGen.trans ?_ (fanReleaseTest_changes _)
  have hheld := (mapDefrost_changes s (f := fun d => { d with phase := .recover, phaseFor := 0 }) rfl).trans
    (holdDefrost_changes false _)
  exact Changes.ite (fun _ => hheld.tail (.arb _ fun h => h)) fun _ => hheld

theorem endHeat_changes (t : Termination) (s : State) : Changes s (endHeat t s) := by
  have hdrip : Changes s ((s.mapContext fun c => { c with termination := some t }).mapDefrost fun d =>
      { d with phase := .drip, phaseFor := 0 }) :=
    (mapContext_changes s _).trans (mapDefrost_changes _ rfl)
  unfold endHeat
  split
  · exact .ite (fun _ => hdrip.trans (enterRecover_changes _)) fun _ => hdrip
  · exact hdrip

theorem enterHeat_changes (s : State) : Changes s (enterHeat s) := by
  unfold enterHeat
  have hheat := (holdDefrost_changes true s).trans
    (mapDefrost_changes (holdDefrost true s)
      (f := fun d => { d with
        phase := .heat, phaseFor := 0, fanBlock := true
        context := d.context.map fun c => { c with blind := s.fzCoil.isNone, peak := s.fzCoil } }) rfl)
  split
  · exact .ite (fun _ => hheat.trans (endHeat_changes _ _)) fun _ => hheat
  · exact hheat

theorem pendingTest_changes (s : State) : Changes s (pendingTest s) :=
  .ite (fun _ => enterHeat_changes s) fun _ => .refl

/-! ## The reaction -/

theorem initEnd_changes (s : State) : Changes s (initEnd s) := by
  unfold initEnd
  refine .ite (fun h => ?_) fun _ => .refl
  simp only [Bool.and_eq_true, decide_eq_true_eq] at h
  refine Relation.ReflTransGen.trans ?_ (normalise_changes _)
  exact (Change.run h.1.1).many.tail (.arb _ fun h => h)

theorem reaction_changes (s : State) : Changes s (reaction s) :=
  (((initEnd_changes s).trans (settle_changes _)).trans (pendingTest_changes _)).trans (settle_changes _)

/-- No single change touches the wiring, the settings, the inputs, the bus, the link, the event unit or the queue. -/
theorem Changes.outside {s t : State} (h : Changes s t) :
    t = { s with mode := t.mode, zones := t.zones, arb := t.arb, route := t.route, comp := t.comp, defrost := t.defrost } := by
  refine h.keeps (P := fun t => t = { s with
    mode := t.mode, zones := t.zones, arb := t.arb, route := t.route, comp := t.comp, defrost := t.defrost }) ?_ rfl
  intro t u hchange ht
  cases hchange with
  | recompute => rw [(recompute_arc t).mode, (recompute_arc t).zones, (recompute_arc t).defrost, recompute_arc t, ht]
  | arb | dampers | app | preChill | defrost | run => rw [ht]
  | target | ask | kick | start | stop | hold => rw [ht]; rfl

theorem react_eq_reaction (s : State) : react s = reaction s := (reaction_changes s).outside.symm

theorem react_changes (s : State) : Changes s (react s) := react_eq_reaction s ▸ reaction_changes s

theorem finish_eq (s : State) : finish s = publish (reaction s) := by rw [finish, react_eq_reaction]

end Sys2Proof.Machine
end

section
/-!
PROOFS. What a command can do, said once: nothing that anything follows, or a direct effect and what follows it; the hard
reset apart. Every invariant goes through this inversion of exec.
-/
namespace Sys2Proof.Machine

/-- The direct effects of the commands, each with what the command has tested. -/
inductive Effect (s : State) : State → Prop
  | strapSettled (r : StrapResult) : Effect s (strapSettled r s)
  | restart : Effect s (restartEffect (s.mapLink Link.replied))
  | zoneSet (z : Zone) (p : List Byte) : Effect s (zoneSetEffect z p s)
  | timing (z : Zone) (v : ZoneTiming) : Effect s (storeTiming z v s)
  | enable (z : Zone) (on : Bool) : Effect s (enableEffect z on s)
  | flexMode (m : FlexMode) : Effect s (flexModeEffect m s)
  | doorSet (v : DoorParams) : Effect s (doorSetEffect v s)
  | compSet (p : List Byte) (hspan : (compClamped p).nMin + 200 ≤ (compClamped p).nMax) :
      Effect s (compSetEffect (compClamped p) s)
  | clearLockout (hstate : s.comp.state = .lockout) : Effect s (clearLockout s)
  | arbSet (levels : PerZone Level) (v : ArbParams) : Effect s (storeArb levels v s)
  | forced (f : Option Forced) : Effect s (setForced f s)
  | endIsolation (z : Zone) : Effect s (endIsolation z s)
  | readmit (z : Zone) : Effect s ((endIsolation z s).mapZone z fun r => { r with noProgress := 0 })
  | defrostSet (p : List Byte) : Effect s (storeDefrost (defrostTh p) (defrostClamped p) s)
  | defrostStart (hphase : s.defrost.phase = .idle) : Effect s (startDefrost .host s)
  | abortPending (hphase : s.defrost.phase = .pending) : Effect s (endDefrost .abort s.defrost.th s)
  | abortHeat (hphase : s.defrost.phase = .heat) : Effect s (endHeat .abort s)
  | serviceEnter (hmode : s.mode.opState = .run) : Effect s (enterService s)
  | serviceOutput (p : List Byte) (hmode : s.mode.opState = .service) :
      Effect s (applyService (serviceOf p) (serviceSpeedOf s.settings.comp (u16At p 7)) s)
  | serviceExit (hmode : s.mode.opState = .service) : Effect s (leaveService s)
  | sweep : Effect s (beginSweep s)
  | reading (ch : Channel) (code : Code) : Effect s (arrival ch code s)
  | blindPhase (z : Zone) : Effect s (blindExpired z s)
  | warm (z : Zone) : Effect s (s.mapZone z ZoneRec.warmed)
  | minDwell : Effect s (s.mapGrant fun g => { g with minLeft := 0 })
  | maxDwell : Effect s (maxDwellExpired (s.mapGrant fun g => { g with maxLeft := 0 }))
  | park : Effect s (enterParked s)
  | moveEnd (hdue : s.route.valve.moveDue = true) : Effect s (s.mapValve Valve.endMove)
  | driveEnd (hdue : s.route.valve.driveDue = true) : Effect s (afterDrive (s.mapValve Valve.endDrive))
  | routeTimeout : Effect s (routeFault s)
  | preChillEnd (f : EvapFan) : Effect s { s with route := s.route.setPreChill f .ended }
  | fan (f : Fan) (g : FanRec → FanRec) : Effect s (s.mapFan f g)
  | speedPeriod : Effect s (recompute s)
  | minOff : Effect s (s.setComp { s.comp with stopFor := sec s.settings.comp.minOff })
  | minOn : Effect s (s.setComp { s.comp with runFor := sec s.settings.comp.minOn })
  | startFailure : Effect s (takeFault .start 0 s)
  | faultHold (hstate : s.comp.state = .faultHold) :
      Effect s (s.setComp { s.comp with state := s.comp.afterHold, hold := none })
  | ageOut (hstate : s.comp.state ≠ .lockout) : Effect s (s.setComp { s.comp with faults := s.comp.faults.drop 1 })
  | postRun : Effect s (s.setComp { s.comp with postRun := none })
  | minute (hphase : s.defrost.phase = .idle) : Effect s (minuteEvaluation s)
  | heatEnd (t : Termination) (hphase : s.defrost.phase = .heat) : Effect s (endHeat t (heatReached s))
  | dripEnd (hphase : s.defrost.phase = .drip) : Effect s (enterRecover (dripReached s))
  | release (hphase : s.defrost.phase = .recover) : Effect s (completeDefrost s)
  | door (d : Door) (level : Bool) :
      Effect s (recomputeZones d ((s.doorPin d level).mapDoor d fun r => r.take level))
  | opening (d : Door) (level : Bool) :
      Effect s (presentOpening d (recomputeZones d ((s.doorPin d level).mapDoor d fun r => r.take level)))
  | ajar (z : Zone) : Effect s (s.mapZoneDoor z fun m => m.becomeAjar s.settings.door.ajarDelay)
  | slot (hmode : s.bus.mode ≠ .stopped) : Effect s (slotBoundary s)
  | response (e : Exchange) (data : List Byte) (hexchange : s.bus.exchange.isSome = true) :
      Effect s (responseEnds e data s)
  | failure (e : Exchange) (k : ErrorKind) (hexchange : s.bus.exchange.isSome = true) : Effect s (failExchange e k s)
  | faultCheck (line : List Bool) (hmode : s.bus.mode = .fault) (hline : line.length = lineBits) :
      Effect s (faultCheck { s with bus := { s.bus with line := line } })

/-- The changes of a command that nothing follows, the link apart: none, the event unit, a door's pin, the levels heard, the
end of a SET exchange, the line in FAULT. -/
inductive Quiet (s : State) : State → Prop
  | same : Quiet s s
  | events (e : Events) : Quiet s { s with events := e }
  | pin (d : Door) (level : Bool) : Quiet s (s.doorPin d level)
  | hear (e : Exchange) (heard : List Bool) (hexchange : s.bus.exchange = some e)
      (hlength : s.bus.slotFor ≤ heard.length ∧ heard.length ≤ s.bus.slotFor + 1) :
      Quiet s (hear { e with heard := heard } s)
  | sent (e : Exchange) : Quiet s (endExchange (setSucceeds e s))
  | line (levels : List Bool) (hmode : s.bus.mode = .fault) (hline : levels.length = lineBits) :
      Quiet s { s with bus := { s.bus with line := levels } }

/-- What a command other than the hard reset leaves. -/
inductive Result (s : State) : State → Prop
  | quiet {t : State} (h : Quiet s t) (l : Link) : Result s { t with link := l }
  | finished {u : State} (h : Effect s u) (l : Link) : Result s { finish u with link := l }

theorem Quiet.result {s t : State} (h : Quiet s t) : Result s t := .quiet h t.link

theorem Effect.result {s u : State} (h : Effect s u) : Result s (finish u) := .finished h (finish u).link

theorem Result.link {s : State} (l : Link) : Result s { s with link := l } := .quiet .same l

theorem Result.ite {s t u : State} {c : Prop} [Decidable c] (ht : c → Result s t) (hu : ¬c → Result s u) :
    Result s (if c then t else u) := by
  split
  · exact ht ‹_›
  · exact hu ‹_›

/-- An event that is due has its effect; one that is not changes nothing. -/
theorem Result.whenDue {s u : State} {c : Prop} [Decidable c] (h : c → Effect s u) :
    Result s (if c then finish u else s) :=
  .ite (fun hc => (h hc).result) fun _ => Quiet.same.result

/-- The taking of a request leaves what its owner leaves, the reply apart. -/
theorem takeRequest_result {s : State} {owner : State → Status × State} (h : Result s (owner s).2) (type : Byte)
    (p : List Byte) (n : Nat) (fields : State → List Byte) : Result s (takeRequest type p n owner fields s) := by
  rcases takeRequest_cases type p n owner fields s with ⟨-, h'⟩ | ⟨-, -, h'⟩ | ⟨-, -, h'⟩ <;> rw [h']
  · exact Quiet.same.result
  · exact .link _
  · generalize (owner s).2 = r at h
    cases h with
    | quiet h l => exact .quiet h _
    | finished h l => exact .finished h _

/-- An owner that accepts has an effect; one that refuses changes nothing. -/
theorem accept_result {s u : State} (h : Effect s u) (st : Status) : Result s (accept st u).2 := h.result

theorem refuse_result (s : State) (st : Status) : Result s (refuse st s).2 := Quiet.same.result

/-! ## The owners of the requests -/

theorem zoneSetOwner_result (p : List Byte) (s : State) : Result s (zoneSetOwner p s).2 := by
  unfold zoneSetOwner
  split
  · exact refuse_result s _
  · split
    · exact refuse_result s _
    · split
      · exact refuse_result s _
      · exact accept_result (.zoneSet _ p) _

theorem zoneTimingOwner_result (p : List Byte) (s : State) : Result s (zoneTimingOwner p s).2 := by
  unfold zoneTimingOwner
  split
  · exact refuse_result s _
  · split
    · exact refuse_result s _
    · split
      · exact refuse_result s _
      · exact accept_result (.timing _ _) _

theorem zoneEnableOwner_result (p : List Byte) (s : State) : Result s (zoneEnableOwner p s).2 := by
  unfold zoneEnableOwner
  split
  · exact refuse_result s _
  · split
    · exact refuse_result s _
    · split
      · exact refuse_result s _
      · split
        · exact Quiet.same.result
        · exact accept_result (.enable _ _) _

theorem flexModeOwner_result (p : List Byte) (s : State) : Result s (flexModeOwner p s).2 := by
  unfold flexModeOwner
  split
  · exact refuse_result s _
  · split
    · exact refuse_result s _
    · split
      · exact Quiet.same.result
      · exact accept_result (.flexMode _) _

theorem zoneReadOwner_result (p : List Byte) (s : State) : Result s (zoneReadOwner p s).2 := by
  unfold zoneReadOwner
  split
  · exact Quiet.same.result
  · exact refuse_result s _

theorem compSetOwner_result (p : List Byte) (s : State) : Result s (compSetOwner p s).2 := by
  unfold compSetOwner
  split
  · exact refuse_result s _
  · exact accept_result (.compSet p (not_lt.mp ‹_›)) _

theorem arbSetOwner_result (p : List Byte) (s : State) : Result s (arbSetOwner p s).2 := by
  unfold arbSetOwner
  split
  · exact refuse_result s _
  · exact accept_result (.arbSet _ _) _

theorem forceOwner_result (p : List Byte) (s : State) : Result s (forceOwner p s).2 := by
  unfold forceOwner
  split
  · exact refuse_result s _
  · split
    · exact refuse_result s _
    · split <;> exact accept_result (.forced _) _

theorem readmitOwner_result (p : List Byte) (s : State) : Result s (readmitOwner p s).2 := by
  unfold readmitOwner
  split
  · exact refuse_result s _
  · split
    · exact refuse_result s _
    · split
      · exact refuse_result s _
      · exact accept_result (.readmit _) _

theorem defrostStartOwner_result (s : State) : Result s (defrostStartOwner s).2 := by
  unfold defrostStartOwner
  split
  · rename_i h
    simp only [Bool.and_eq_true, decide_eq_true_eq] at h
    exact accept_result (.defrostStart h.2) _
  · exact refuse_result s _

theorem defrostAbortOwner_result (s : State) : Result s (defrostAbortOwner s).2 := by
  unfold defrostAbortOwner
  split
  · exact accept_result (.abortPending ‹_›) _
  · exact accept_result (.abortHeat ‹_›) _
  · exact refuse_result s _

theorem serviceOutputOwner_result (p : List Byte) (s : State) : Result s (serviceOutputOwner p s).2 := by
  unfold serviceOutputOwner
  split
  · exact refuse_result s _
  · split
    · exact refuse_result s _
    · exact accept_result (.serviceOutput p (not_not.mp ‹_›)) _

theorem eventMaskOwner_result (p : List Byte) (s : State) : Result s (eventMaskOwner p s).2 := by
  unfold eventMaskOwner
  split
  · exact refuse_result s _
  · split
    · exact refuse_result s _
    · exact (Quiet.events _).result

/-! ## Doors and the unit bus -/

theorem doorEvent_result {d : Door} {level : Bool} {effect : State → State} {s : State} (leaves : DoorState)
    (h : Effect s (effect ((s.doorPin d level).mapDoor d fun r => r.take level))) :
    Result s (doorEvent d level leaves effect s) := by
  rcases doorEvent_cases d level leaves effect s with ⟨-, -, -, -, h'⟩ | h' <;> rw [h']
  · exact h.result
  · exact (Quiet.pin d level).result

theorem levels_result {ends : Exchange → ExchangeEnd → State → Option State} {s : State}
    (h : ∀ e x t, s.bus.exchange.isSome = true → ends e x s = some t → Result s t) (heard : List Bool) :
    Result s (levels heard ends s) := by
  rcases levels_cases heard ends s with h' | ⟨e, he, hu, ⟨x, t, -, ht, h'⟩ | h'⟩ <;> rw [h']
  · exact Quiet.same.result
  · exact h _ x t (by rw [he]; rfl) ht
  · exact (Quiet.hear e heard he ((upToNow_iff _ _).mp hu)).result

theorem Defrost.phase_of_heatDue {d : Defrost} {blind : Bool} (h : d.heatDue blind = true) : d.phase = .heat := by
  unfold Defrost.heatDue at h
  split at h <;> simp_all

theorem Defrost.phase_of_dripDue {d : Defrost} (h : d.dripDue = true) : d.phase = .drip := by
  unfold Defrost.dripDue at h
  split at h <;> simp_all

theorem Defrost.phase_of_releaseDue {d : Defrost} (h : d.releaseDue = true) : d.phase = .recover := by
  simp only [Defrost.releaseDue, Bool.and_eq_true, decide_eq_true_eq] at h
  exact h.1

theorem Defrost.phase_of_minuteDue {d : Defrost} (h : d.minuteDue = true) : d.phase = .idle := by
  unfold Defrost.minuteDue at h
  split at h <;> simp_all

theorem Compressor.state_of_holdDue {c : Compressor} (h : c.holdDue = true) : c.state = .faultHold := by
  unfold Compressor.holdDue at h
  split at h <;> simp_all

theorem Compressor.state_of_ageDue {c : Compressor} (h : c.ageDue = true) : c.state ≠ .lockout := by
  unfold Compressor.ageDue at h
  split at h <;> simp_all

theorem State.opState_of_serviceTimerDue {s : State} (h : s.serviceTimerDue = true) : s.mode.opState = .service := by
  unfold State.serviceTimerDue at h
  split at h <;> simp_all

theorem Bus.mode_of_boundaryDue {b : Bus} (h : b.boundaryDue = true) : b.mode ≠ .stopped := by
  simp only [Bus.boundaryDue, Bool.and_eq_true, decide_eq_true_eq] at h
  exact h.1

/-! ## Every command -/

/-- Every command completes; every one but the hard reset leaves one of the results above. -/
theorem exec_result (i : Instr) (s : State) :
    i = .hardReset ∨ ∃ t, exec i s = .next t ∧ Result s t := by
  cases i with
  | hardReset => exact .inl rfl
  | strapReadComplete => exact .inr ⟨_, rfl, .whenDue fun _ => .strapSettled _⟩
  | hostFrameReceived => exact .inr ⟨_, rfl, .link _⟩
  | gapTimeout => exact .inr ⟨_, rfl, .ite (fun _ => .link _) fun _ => Quiet.same.result⟩
  | unknownRequest => exact .inr ⟨_, rfl, .ite (fun _ => .link _) fun _ => Quiet.same.result⟩
  | identify => exact .inr ⟨_, rfl, takeRequest_result Quiet.same.result _ _ _ _⟩
  | restart => exact .inr ⟨_, rfl, takeRequest_result (.link _) _ _ _ _⟩
  | zoneSet p => exact .inr ⟨_, rfl, takeRequest_result (zoneSetOwner_result p s) _ _ _ _⟩
  | zoneTiming p => exact .inr ⟨_, rfl, takeRequest_result (zoneTimingOwner_result p s) _ _ _ _⟩
  | zoneEnable p => exact .inr ⟨_, rfl, takeRequest_result (zoneEnableOwner_result p s) _ _ _ _⟩
  | flexMode p => exact .inr ⟨_, rfl, takeRequest_result (flexModeOwner_result p s) _ _ _ _⟩
  | zoneRead p => exact .inr ⟨_, rfl, takeRequest_result (zoneReadOwner_result p s) _ _ _ _⟩
  | doorSet => exact .inr ⟨_, rfl, takeRequest_result (accept_result (.doorSet _) _) _ _ _ _⟩
  | compSet p => exact .inr ⟨_, rfl, takeRequest_result (compSetOwner_result p s) _ _ _ _⟩
  | compRead => exact .inr ⟨_, rfl, takeRequest_result Quiet.same.result _ _ _ _⟩
  | clearLockout =>
    refine .inr ⟨_, rfl, takeRequest_result ?_ _ _ _ _⟩
    split
    · exact accept_result (.clearLockout ‹_›) _
    · exact refuse_result s _
  | arbSet p => exact .inr ⟨_, rfl, takeRequest_result (arbSetOwner_result p s) _ _ _ _⟩
  | force p => exact .inr ⟨_, rfl, takeRequest_result (forceOwner_result p s) _ _ _ _⟩
  | arbRead => exact .inr ⟨_, rfl, takeRequest_result Quiet.same.result _ _ _ _⟩
  | readmit p => exact .inr ⟨_, rfl, takeRequest_result (readmitOwner_result p s) _ _ _ _⟩
  | defrostSet => exact .inr ⟨_, rfl, takeRequest_result (accept_result (.defrostSet _) _) _ _ _ _⟩
  | defrostStart => exact .inr ⟨_, rfl, takeRequest_result (defrostStartOwner_result s) _ _ _ _⟩
  | defrostAbort => exact .inr ⟨_, rfl, takeRequest_result (defrostAbortOwner_result s) _ _ _ _⟩
  | defrostRead => exact .inr ⟨_, rfl, takeRequest_result Quiet.same.result _ _ _ _⟩
  | eventMask p => exact .inr ⟨_, rfl, takeRequest_result (eventMaskOwner_result p s) _ _ _ _⟩
  | eventRead => exact .inr ⟨_, rfl, takeRequest_result (Quiet.events _).result _ _ _ _⟩
  | unitRead => exact .inr ⟨_, rfl, takeRequest_result Quiet.same.result _ _ _ _⟩
  | serviceEnter =>
    refine .inr ⟨_, rfl, takeRequest_result ?_ _ _ _ _⟩
    split
    · exact accept_result (.serviceEnter ‹_›) _
    · exact refuse_result s _
  | serviceOutput p => exact .inr ⟨_, rfl, takeRequest_result (serviceOutputOwner_result p s) _ _ _ _⟩
  | serviceExit =>
    refine .inr ⟨_, rfl, takeRequest_result ?_ _ _ _ _⟩
    split
    · exact accept_result (.serviceExit ‹_›) _
    · exact refuse_result s _
  | replyEnd =>
    exact .inr ⟨_, rfl, .ite (fun _ => .ite (fun _ => Effect.restart.result) fun _ => .link _) fun _ => Quiet.same.result⟩
  | noticeStart => exact .inr ⟨_, rfl, .ite (fun _ => .link _) fun _ => Quiet.same.result⟩
  | noticeEnd => exact .inr ⟨_, rfl, .ite (fun _ => .link _) fun _ => Quiet.same.result⟩
  | sensingSweepStart => exact .inr ⟨_, rfl, .whenDue fun _ => .sweep⟩
  | sensorReadingArrival ch code => exact .inr ⟨_, rfl, .whenDue fun _ => .reading ch code⟩
  | blindPhaseExpiry z => exact .inr ⟨_, rfl, .whenDue fun _ => .blindPhase z⟩
  | warmTimerExpiry z => exact .inr ⟨_, rfl, .whenDue fun _ => .warm z⟩
  | minDwellMet => exact .inr ⟨_, rfl, .whenDue fun _ => .minDwell⟩
  | maxDwellExpiry => exact .inr ⟨_, rfl, .whenDue fun _ => .maxDwell⟩
  | isolationHoldExpiry z => exact .inr ⟨_, rfl, .whenDue fun _ => .endIsolation z⟩
  | forcedRecordExpiry => exact .inr ⟨_, rfl, .whenDue fun _ => .forced none⟩
  | parkTimerExpiry => exact .inr ⟨_, rfl, .whenDue fun _ => .park⟩
  | valveMoveEnd => exact .inr ⟨_, rfl, .whenDue .moveEnd⟩
  | homingDriveEnd => exact .inr ⟨_, rfl, .whenDue .driveEnd⟩
  | routeTimeout => exact .inr ⟨_, rfl, .whenDue fun _ => .routeTimeout⟩
  | preChillTimeout f => exact .inr ⟨_, rfl, .whenDue fun _ => .preChillEnd f⟩
  | tachPulse f => exact .inr ⟨_, rfl, (Effect.fan f _).result⟩
  | fanStall f => exact .inr ⟨_, rfl, .whenDue fun _ => .fan f _⟩
  | fanRestEnd f => exact .inr ⟨_, rfl, .whenDue fun _ => .fan f _⟩
  | speedPeriodExpiry => exact .inr ⟨_, rfl, .whenDue fun _ => .speedPeriod⟩
  | minOffElapsed => exact .inr ⟨_, rfl, .whenDue fun _ => .minOff⟩
  | minOnMet => exact .inr ⟨_, rfl, .whenDue fun _ => .minOn⟩
  | runWatchExpiry => exact .inr ⟨_, rfl, .whenDue fun _ => .startFailure⟩
  | faultHoldExpiry => exact .inr ⟨_, rfl, .whenDue fun h => .faultHold (Compressor.state_of_holdDue h)⟩
  | faultEntryAgeOut => exact .inr ⟨_, rfl, .whenDue fun h => .ageOut (Compressor.state_of_ageDue h)⟩
  | postRunExpiry => exact .inr ⟨_, rfl, .whenDue fun _ => .postRun⟩
  | minuteEvaluation => exact .inr ⟨_, rfl, .whenDue fun h => .minute (Defrost.phase_of_minuteDue h)⟩
  | maxHeatExpiry => exact .inr ⟨_, rfl, .whenDue fun h => .heatEnd _ (Defrost.phase_of_heatDue h)⟩
  | timeBlindExpiry => exact .inr ⟨_, rfl, .whenDue fun h => .heatEnd _ (Defrost.phase_of_heatDue h)⟩
  | dripEnd => exact .inr ⟨_, rfl, .whenDue fun h => .dripEnd (Defrost.phase_of_dripDue h)⟩
  | fanReleaseTimeout => exact .inr ⟨_, rfl, .whenDue fun h => .release (Defrost.phase_of_releaseDue h)⟩
  | doorOpening d => exact .inr ⟨_, rfl, doorEvent_result _ (.opening d true)⟩
  | doorClosing d => exact .inr ⟨_, rfl, doorEvent_result _ (.door d false)⟩
  | doorFirstReading d level => exact .inr ⟨_, rfl, doorEvent_result _ (.door d level)⟩
  | ajarDelayReached z => exact .inr ⟨_, rfl, .whenDue fun _ => .ajar z⟩
  | slotBoundary => exact .inr ⟨_, rfl, .whenDue fun h => .slot (Bus.mode_of_boundaryDue h)⟩
  | setExchangeSuccess =>
    refine .inr ⟨_, rfl, ?_⟩
    split
    · exact .ite (fun _ => (Quiet.sent _).result) fun _ => Quiet.same.result
    · exact Quiet.same.result
  | statusExchangeSuccess heard =>
    refine .inr ⟨_, rfl, levels_result (fun e x t hexchange ht => ?_) heard⟩
    split at ht
    · obtain rfl := Option.some.inj ht
      exact (Effect.response e _ hexchange).result
    · cases ht
  | exchangeFailure heard =>
    refine .inr ⟨_, rfl, levels_result (fun e x t hexchange ht => ?_) heard⟩
    split at ht
    · split at ht
      · obtain rfl := Option.some.inj ht
        exact (Effect.failure e _ hexchange).result
      · cases ht
    · cases ht
  | responseLimitExpiry heard =>
    refine .inr ⟨_, rfl, levels_result (fun e x t hexchange ht => ?_) heard⟩
    split at ht
    · split at ht
      · cases ht
      · obtain rfl := Option.some.inj ht
        exact (Effect.failure e _ hexchange).result
    · cases ht
  | faultCheckExpiry levels =>
    refine .inr ⟨_, rfl, ?_⟩
    split
    · rename_i h
      simp only [Bool.and_eq_true, decide_eq_true_eq] at h
      exact .ite (fun _ => (Effect.faultCheck levels h.1 h.2).result) fun _ => (Quiet.line levels h.1 h.2).result
    · exact Quiet.same.result
  | serviceTimerExpiry => exact .inr ⟨_, rfl, .whenDue fun h => .serviceExit (State.opState_of_serviceTimerDue h)⟩
  | hostCharacterReceived => exact .inr ⟨_, rfl, .link _⟩

/-- An invariant of which neither the queue nor the link is part holds after every step, if the hard reset meets it, a tick
and the quiet changes keep it, and what follows an effect brings it about. -/
theorem step_keeps {P : State → Prop} (hreset : P State.reset) (hqueue : ∀ s q, P s → P { s with pending := q })
    (hdoors : ∀ s d, P s → P { s with doors := d }) (hlink : ∀ s l, P s → P { s with link := l })
    (hquiet : ∀ s t, Quiet s t → P s → P t) (heffect : ∀ s u, Effect s u → P s → P (finish u))
    (htick : ∀ s, P s → P (tick s)) {s t : State} (hs : P s) (h : step s = .next t) : P t := by
  have hexec : ∀ i s t, P s → exec i s = .next t → P t := by
    intro i s t hs h
    obtain rfl | ⟨r, hr, hresult⟩ := exec_result i s
    · obtain rfl := Host.Outcome.next.inj h
      exact hqueue { State.reset with doors := s.doors.resetKeeping } s.pending (hdoors _ _ hreset)
    · obtain rfl : r = t := Host.Outcome.next.inj (hr.symm.trans h)
      cases hresult with
      | quiet hq l => exact hlink _ _ (hquiet _ _ hq hs)
      | finished he l => exact hlink _ _ (heffect _ _ he hs)
  unfold step at h
  split at h
  · exact hexec _ _ _ (hqueue _ _ hs) h
  · obtain rfl := Host.Outcome.next.inj h
    unfold idle
    split
    · exact hqueue _ _ hs
    · split
      · exact hqueue _ _ hs
      · exact htick s hs

end Sys2Proof.Machine
end

section
/-!
PROOFS. The single changes of which the direct effects are made, besides those of what follows an event.
-/
namespace Sys2Proof.Machine

/-- A single change made by a direct effect. -/
inductive Touch (s : State) : State → Prop
  | follow {t : State} (h : Change s t) : Touch s t
  | free (m : ModeControl) (r : Strap) (n : Sensing) (d : Doors) (b : Bus) (l : Link) (e : Events) (v : Service) :
      Touch s { s with
        mode := m, strap := r, sensing := n, doors := d, bus := b, link := l, events := e, service := v }
  | settings (v : Settings) (hcomp : v.comp = s.settings.comp) : Touch s { s with settings := v }
  | compSet (p : List Byte) (hspan : (compClamped p).nMin + 200 ≤ (compClamped p).nMax) :
      Touch s { s with
        settings := { s.settings with comp := compClamped p }
        comp := { s.comp with
          command :=
            if s.comp.command = 0 then 0 else clamp (compClamped p).nMin (compClamped p).nMax s.comp.command } }
  | demand (z : Zone) (d : Demand) (level : Nat) (hlevel : level ≤ 100) (hsatisfied : d = .satisfied → level = 0) :
      Touch s (s.mapZone z fun r => { r with demand := d, level := level })
  | zone (z : Zone) (f : ZoneRec → ZoneRec) (hdemand : ∀ r, (f r).demand = r.demand)
      (hlevel : ∀ r, (f r).level = r.level) : Touch s (s.mapZone z f)
  | zonesReset : Touch s { s with zones := .all .reset }
  | beginDrive (a : Homing) (final : ValvePos) : Touch s (s.mapValve fun v => v.beginDrive a final)
  | endMove : Touch s (s.mapValve Valve.endMove)
  | endDrive : Touch s (s.mapValve Valve.endDrive)
  | final (p : ValvePos) : Touch s (s.mapValve fun v => { v with rehomeFinal := p })
  | routeReset : Touch s { s with route := .reset }
  | fan (f : Fan) (g : FanRec → FanRec) : Touch s (s.mapFan f g)
  | fault (source : FaultSource) (code : Byte) : Touch s (takeFault source code s)
  | inverterLost : Touch s (inverterLost s)
  | comp (c : Compressor) (hstate : c.state = s.comp.state) (hcommand : c.command = s.comp.command)
      (hfaults : c.faults = s.comp.faults) (hspeed : c.serviceSpeed = s.comp.serviceSpeed) : Touch s { s with comp := c }
  | serviceSpeed (n : Nat) (hmod : n % 50 = 0) : Touch s { s with comp := { s.comp with serviceSpeed := n } }
  | restarted : Touch s { s with comp := s.comp.restarted }
  | faultHold (hstate : s.comp.state = .faultHold) :
      Touch s (s.setComp { s.comp with state := s.comp.afterHold, hold := none })
  | clearLockout (hstate : s.comp.state = .lockout) : Touch s (clearLockout s)
  | ageOut (hstate : s.comp.state ≠ .lockout) : Touch s (s.setComp { s.comp with faults := s.comp.faults.drop 1 })
  | invStatus (st : InvStatus) :
      Touch s (s.setComp { s.comp with
        state := if s.comp.state = .invLost then .stopped else s.comp.state
        lossMark := false
        lastInv := some st })
  | defrostSet (th : Nat) (hlow : 240 ≤ th) (hhigh : th ≤ 5760) : Touch s { s with defrost := { s.defrost with th := th } }

/-- Any number of single changes of effects, one after another. -/
abbrev Touches : State → State → Prop := Relation.ReflTransGen Touch

theorem Touch.many {s t : State} (h : Touch s t) : Touches s t := .single h

theorem Changes.touches {s t : State} (h : Changes s t) : Touches s t := by
  induction h with
  | refl => exact .refl
  | tail _ hlast ih => exact ih.tail (.follow hlast)

theorem Change.touches {s t : State} (h : Change s t) : Touches s t := h.many.touches

/-- What each single change keeps, any number of them keeps. -/
theorem Touches.keeps {P : State → Prop} (hP : ∀ s t, Touch s t → P s → P t) {s t : State} (h : Touches s t) (hs : P s) :
    P t := by
  induction h with
  | refl => exact hs
  | tail _ hlast ih => exact hP _ _ hlast ih

theorem Touches.ite {s t u : State} {c : Prop} [Decidable c] (ht : c → Touches s t) (hu : ¬c → Touches s u) :
    Touches s (if c then t else u) := by
  split
  · exact ht ‹_›
  · exact hu ‹_›

/-- Mode control, wiring, inputs, bus, link, event unit and service settings are not looked at. -/
theorem free_touches (s : State) {m : ModeControl} {r : Strap} {n : Sensing} {d : Doors} {b : Bus} {l : Link}
    {e : Events} {v : Service} :
    Touches s { s with
      mode := m, strap := r, sensing := n, doors := d, bus := b, link := l, events := e, service := v } :=
  .single (.free m r n d b l e v)

/-! ## The zone table and its demand -/

theorem setDemand_touches (z : Zone) {d : Demand} {level : Nat} (s : State) (hlevel : level ≤ 100)
    (hsatisfied : d = .satisfied → level = 0) : Touches s (setDemand z d level s) := by
  have hdemand := (Touch.demand (s := s) z d level hlevel hsatisfied).many
  unfold setDemand
  exact .ite (fun _ => hdemand.trans (free_touches _)) fun _ => hdemand

theorem evaluate_touches (z : Zone) (t : Int) (s : State) : Touches s (evaluate z t s) :=
  setDemand_touches z s (levelOf_le _ _ _) fun h => by rw [h]; rfl

theorem evaluateNow_touches (z : Zone) (s : State) : Touches s (evaluateNow z s) := by
  unfold evaluateNow
  split
  · exact .ite (fun _ => evaluate_touches z _ s) fun _ => .refl
  · exact .refl

theorem mapZoneSettings_touches (z : Zone) (f : ZoneSettings → ZoneSettings) (s : State) :
    Touches s (s.mapZoneSettings z f) :=
  Touch.many (.settings _ rfl)

theorem zone_touches (z : Zone) (f : ZoneRec → ZoneRec) (s : State) (hdemand : ∀ r, (f r).demand = r.demand)
    (hlevel : ∀ r, (f r).level = r.level) : Touches s (s.mapZone z f) :=
  (Touch.zone z f hdemand hlevel).many

theorem clearWarm_touches (z : Zone) (s : State) : Touches s (s.mapZone z ZoneRec.clearWarm) :=
  zone_touches z _ s (fun _ => rfl) fun _ => rfl

theorem zoneSetEffect_touches (z : Zone) (p : List Byte) (s : State) : Touches s (zoneSetEffect z p s) :=
  (mapZoneSettings_touches z _ s).trans (evaluateNow_touches z _)

theorem enableEffect_touches (z : Zone) (on : Bool) (s : State) : Touches s (enableEffect z on s) := by
  have hstored := mapZoneSettings_touches z (fun q => { q with enabled := on }) s
  unfold enableEffect
  exact .ite (fun _ => hstored) fun _ => hstored.trans (clearWarm_touches z _)

theorem flexModeEffect_touches (m : FlexMode) (s : State) : Touches s (flexModeEffect m s) := by
  unfold flexModeEffect
  refine Relation.ReflTransGen.trans ?_ (evaluateNow_touches .flex _)
  refine Relation.ReflTransGen.trans ?_ (zone_touches .flex _ _ (fun _ => rfl) fun _ => rfl)
  refine Relation.ReflTransGen.trans ?_ (mapZoneSettings_touches .flex _ _)
  exact Touch.many (.settings _ rfl)

theorem enterBlindPhase_touches (z : Zone) (phase : Demand) (s : State) : Touches s (enterBlindPhase z phase s) := by
  unfold enterBlindPhase
  refine Relation.ReflTransGen.trans (b := s.mapZone z fun r => { r with blind := some ⟨phase, sec (blindSecs z phase)⟩ })
    (zone_touches z _ s (fun _ => rfl) fun _ => rfl) ?_
  cases phase with
  | satisfied => exact setDemand_touches z (level := 0) _ (by decide) fun _ => rfl
  | calling => exact setDemand_touches z (d := .calling) (level := 50) _ (by decide) (by decide)

theorem blindExpired_touches (z : Zone) (s : State) : Touches s (blindExpired z s) := by
  unfold blindExpired
  split
  · exact enterBlindPhase_touches z _ s
  · exact .refl

theorem warmCompare_touches (z : Zone) (t : Int) (s : State) : Touches s (warmCompare z t s) := by
  unfold warmCompare
  refine .ite (fun _ => zone_touches z _ s (fun r => ?_) fun r => ?_) fun _ => .refl
  · split
    · rfl
    · split <;> rfl
  · split
    · rfl
    · split <;> rfl

/-! ## Defrost -/

theorem startDefrost_changes (cause : DefrostCause) (s : State) : Changes s (startDefrost cause s) :=
  Change.many (.defrost _ (.inl rfl))

theorem defrostCoilValue_changes (f : Int) (s : State) : Changes s (defrostCoilValue f s) := by
  have hpeak := mapContext_changes s fun c => { c with peak := raisePeak c.peak f }
  unfold defrostCoilValue
  split
  · dsimp only
    split
    · exact .ite (fun _ => hpeak.trans (endHeat_changes _ _)) fun _ => hpeak
    · exact hpeak
  · exact hpeak
  · exact hpeak.trans (fanReleaseTest_changes _)
  · exact .refl

theorem defrostCoilFault_changes (s : State) : Changes s (defrostCoilFault s) := by
  unfold defrostCoilFault
  split
  · have hblind := mapContext_changes s fun c => { c with blind := true }
    exact .ite (fun _ => hblind.trans (endHeat_changes _ _)) fun _ => hblind
  · exact .refl

theorem minuteEvaluation_changes (s : State) : Changes s (minuteEvaluation s) := by
  unfold minuteEvaluation
  split
  · rename_i m _
    refine (mapDefrost_changes s (f := creditMinute s.settings.defrost.w m s.fzRunning) rfl).trans ?_
    dsimp only
    split
    · exact startDefrost_changes _ _
    · exact mapDefrost_changes _ rfl
  · exact .refl

theorem endDefrostAtOnce_changes (s : State) : Changes s (endDefrostAtOnce s) := by
  unfold endDefrostAtOnce
  exact .ite (fun _ => .refl) fun _ => (holdDefrost_changes false s).trans (endDefrost_changes _ _ (.inl rfl))

/-! ## Deliveries of the sensing block -/

theorem deliverValue_touches (ch : Channel) (f : Int) (s : State) : Touches s (deliverValue ch f s) := by
  cases ch with
  | air z =>
    exact ((evaluate_touches z f s).trans (warmCompare_touches z f _)).trans (preChillCompare_changes _ _).touches
  | frCoil => exact (preChillCompare_changes _ _).touches
  | fzCoil => exact Changes.touches ((preChillCompare_changes _ _).trans (defrostCoilValue_changes f _))
  | ambient => exact .refl

theorem deliverFault_touches (ch : Channel) (s : State) : Touches s (deliverFault ch s) := by
  cases ch with
  | air z => exact (enterBlindPhase_touches z .calling s).trans (clearWarm_touches z _)
  | fzCoil => exact (defrostCoilFault_changes s).touches
  | frCoil => exact .refl
  | ambient => exact .refl

theorem deliverRecovery_touches (ch : Channel) (f : Int) (s : State) : Touches s (deliverRecovery ch f s) := by
  cases ch with
  | air z =>
    refine Relation.ReflTransGen.trans ?_ (deliverValue_touches (.air z) f _)
    exact zone_touches z _ s (fun _ => rfl) fun _ => rfl
  | frCoil => exact deliverValue_touches .frCoil f s
  | fzCoil => exact deliverValue_touches .fzCoil f s
  | ambient => exact deliverValue_touches .ambient f s

theorem deliver_touches (ch : Channel) (d : Delivery) (s : State) : Touches s (deliver ch d s) := by
  cases d with
  | nothing => exact .refl
  | value f => exact deliverValue_touches ch f s
  | fault => exact deliverFault_touches ch s
  | recovery f => exact deliverRecovery_touches ch f s

theorem arrival_touches (ch : Channel) (code : Code) (s : State) : Touches s (arrival ch code s) := by
  unfold arrival
  refine Relation.ReflTransGen.trans ?_ (deliver_touches ch _ _)
  exact free_touches _

/-! ## Start-up and service -/

theorem beginSweep_touches (s : State) : Touches s (beginSweep s) := free_touches _

theorem beginInit_touches (s : State) : Touches s (beginInit s) := by
  unfold beginInit
  refine Relation.ReflTransGen.trans ?_ (beginSweep_touches _)
  exact (Touch.beginDrive .homing .closed).many.trans (free_touches _)

theorem askOpening_touches (s : State) : Touches s (askOpening s) := by
  rcases askOpening_cases s with ⟨-, h⟩ | ⟨-, -, h⟩ | ⟨-, -, h⟩
  · rw [h]
    exact free_touches _
  · rw [h]
  · rw [h]
    exact free_touches _

theorem askStop_touches (s : State) : Touches s (askStop s) := by
  rcases askStop_cases s with ⟨-, h⟩ | ⟨-, h⟩ <;> rw [h] <;> exact free_touches _

theorem strapSettled_touches (r : StrapResult) (s : State) : Touches s (strapSettled r s) := by
  unfold strapSettled
  refine Relation.ReflTransGen.trans ?_ (askOpening_touches _)
  refine Relation.ReflTransGen.trans ?_ (mapDefrost_changes _ rfl).touches
  refine Relation.ReflTransGen.trans ?_ (beginInit_touches _)
  exact (Touch.settings { s.settings with zone := enableOf (variantOf r) s.settings.zone } rfl).many.trans
    (free_touches _)

theorem restartBlocks_touches (s : State) : Touches s (restartBlocks s) := by
  have hcleared : Touches s { s with
      zones := .all .reset, arb := .reset, route := .reset, comp := s.comp.restarted } :=
    (((Touch.zonesReset (s := s)).many.tail (.follow (.arb .reset fun _ => List.nodup_nil))).tail .routeReset).tail
      .restarted
  exact hcleared.trans (free_touches _)

theorem restartEffect_touches (s : State) : Touches s (restartEffect s) := by
  unfold restartEffect restartBus
  refine Relation.ReflTransGen.trans ?_ (askOpening_touches _)
  refine Relation.ReflTransGen.trans (Relation.ReflTransGen.trans ?_ (free_touches _)) (askStop_touches _)
  refine Relation.ReflTransGen.trans ?_ (beginInit_touches _)
  refine Relation.ReflTransGen.trans ?_ (mapDefrost_changes _ rfl).touches
  exact (restartBlocks_touches s).trans (endDefrostAtOnce_changes _).touches

theorem serviceArbiter_changes (s : State) : Changes s (serviceArbiter s) := by
  unfold serviceArbiter
  refine Relation.ReflTransGen.tail ?_ (.ask .none)
  exact ((endGrant_changes .service s).trans (clearPreChill_changes _)).tail (.arb _ fun h => h)

/-- Mode control, the service settings and the service speed at the entry to SERVICE and at SERVICE_OUTPUT. -/
theorem serviceStored_touches (s : State) (m : ModeControl) (v : Service) {speed : Nat} (hspeed : speed % 50 = 0) :
    Touches s { s with mode := m, service := v, comp := { s.comp with serviceSpeed := speed } } :=
  (Touch.serviceSpeed speed hspeed).many.trans (free_touches _)

theorem enterService_touches (s : State) : Touches s (enterService s) := by
  have hended := Changes.touches ((serviceArbiter_changes s).trans (endDefrostAtOnce_changes _))
  unfold enterService
  have hentered := (hended.trans (serviceStored_touches _
    { (endDefrostAtOnce (serviceArbiter s)).mode with opState := .service, serviceTimer := some (sec 900) }
    (serviceSettings (endDefrostAtOnce (serviceArbiter s))) (speed := 0) rfl)).trans
      (setValveTarget_changes (serviceSettings (endDefrostAtOnce (serviceArbiter s))).valve _).touches
  exact .ite (fun _ => hentered.tail (.follow .recompute)) fun _ => hentered

theorem applyService_touches (v : Service) {speed : Nat} (s : State) (hspeed : speed % 50 = 0) :
    Touches s (applyService v speed s) := by
  unfold applyService
  refine Relation.ReflTransGen.tail ?_ (.follow .recompute)
  refine Relation.ReflTransGen.trans ?_ (changeDampers_changes _ _ _).touches
  refine Relation.ReflTransGen.trans ?_ (setValveTarget_changes _ _).touches
  exact serviceStored_touches s _ v hspeed

theorem serviceStop_touches (s : State) : Touches s (serviceStop s) := by
  unfold serviceStop
  refine Relation.ReflTransGen.tail ?_ (.serviceSpeed 0 rfl)
  exact Touches.ite (fun h => (Change.stop h).touches) fun _ => .refl

theorem serviceExit_changes (s : State) (hrehoming : s.route.valve.rehoming = false) :
    Changes s (s.mapValve Valve.serviceExit) := by
  have heq : s.mapValve Valve.serviceExit =
      (s.mapValve fun v => { v with target := some .closed }).mapValve fun v => { v with rehomeAsk := .toClosed } := by
    simp [State.mapValve, Valve.serviceExit, hrehoming]
  rw [heq]
  exact (Change.target _).many.tail (.ask _)

theorem serviceExit_touches (s : State) : Touches s (s.mapValve Valve.serviceExit) := by
  by_cases h : s.route.valve.rehoming = true
  · have heq : s.mapValve Valve.serviceExit =
        (s.mapValve fun v => { v with target := some .closed }).mapValve fun v => { v with rehomeFinal := .closed } := by
      simp [State.mapValve, Valve.serviceExit, h]
    rw [heq]
    exact (Change.target _).touches.tail (.final _)
  · exact (serviceExit_changes s (Bool.eq_false_iff.mpr h)).touches

theorem leaveService_touches (s : State) : Touches s (leaveService s) := by
  unfold leaveService
  refine Relation.ReflTransGen.trans ?_ (normalise_changes _).touches
  refine Relation.ReflTransGen.tail ?_ (.follow .kick)
  refine Relation.ReflTransGen.trans ?_ (changeDampers_changes _ _ _).touches
  refine Relation.ReflTransGen.trans ?_ (serviceExit_touches _)
  exact ((serviceStop_touches s).tail
    (.follow (.arb { (serviceStop s).arb with idle := some .rehome } fun h => h))).trans (free_touches _)

/-! ## Arbiter and routes -/

theorem noProgressCheck_touches (g : Grant) (s : State) : Touches s (noProgressCheck g s) := by
  unfold noProgressCheck
  split
  · refine .ite (fun _ => .refl) fun _ => zone_touches _ _ s (fun r => ?_) fun r => ?_
    · split
      · split <;> rfl
      · rfl
    · split
      · split <;> rfl
      · rfl
  · exact .refl

theorem maxDwellEnd_touches (g : Grant) (s : State) : Touches s (maxDwellEnd g s) := by
  unfold maxDwellEnd
  refine ((noProgressCheck_touches g s).trans (normalise_changes _).touches).trans (Changes.touches ?_)
  dsimp only
  split
  · exact .ite (fun _ => regrant_changes _ _) fun _ => (endGrant_changes _ _).trans (createGrant_changes _ _ _)
  · exact .ite (fun _ => regrant_changes _ _) fun _ => (endGrant_changes _ _).trans (enterIdle_changes _)

theorem mapGrant_changes (s : State) (f : Grant → Grant) : Changes s (s.mapGrant f) :=
  Change.many (.arb _ fun h => h)

theorem maxDwellExpired_touches (s : State) : Touches s (maxDwellExpired s) := by
  unfold maxDwellExpired
  split
  · exact maxDwellEnd_touches _ s
  · exact .refl

theorem routeFault_changes (s : State) : Changes s (routeFault s) := by
  unfold routeFault
  exact .ite (fun _ => (endGrant_changes _ s).trans (afterEnd_changes _)) fun _ => .refl

theorem afterDrive_changes (s : State) : Changes s (afterDrive s) := by
  unfold afterDrive
  split
  · exact setValveTarget_changes _ s
  · exact .refl
  · split
    · exact applyRoute_changes _ s
    · have htarget := setValveTarget_changes s.route.valve.rehomeFinal s
      exact .ite (fun _ => htarget.tail (.arb _ fun h => h)) fun _ => htarget

/-! ## Unit bus -/

theorem mapUnit_touches (u : BusUnit) (f : UnitRec → UnitRec) (s : State) : Touches s (s.mapUnit u f) := free_touches _

theorem failUnit_touches (u : BusUnit) (k : ErrorKind) (s : State) : Touches s (failUnit u k s) := by
  have hcounted := mapUnit_touches u (fun r => r.fail k) s
  unfold failUnit
  refine .ite (fun _ => .refl) fun _ => .ite (fun _ => hcounted.trans ?_) fun _ => hcounted
  unfold unitLostEffect
  split
  · exact Touch.inverterLost.many
  · exact .refl
  · exact zone_touches .ice _ _ (fun _ => rfl) fun _ => rfl

theorem failExchange_touches (e : Exchange) (k : ErrorKind) (s : State) : Touches s (failExchange e k s) := by
  have hended : Touches s (endExchange s) := free_touches _
  have hcounted := hended.trans (failUnit_touches e.slot.unit k _)
  unfold failExchange
  exact .ite (fun _ => hended) fun _ => .ite (fun _ => hcounted.trans (free_touches _)) fun _ => hcounted

theorem slotBoundary_touches (s : State) : Touches s (slotBoundary s) := by
  have hstopped : Touches s (stopBus s) := free_touches _
  unfold slotBoundary
  split
  · exact hstopped.trans (askOpening_touches _)
  · exact hstopped
  · split
    · exact free_touches _
    · exact Relation.ReflTransGen.trans (free_touches _) (failUnit_touches _ _ _)
    · exact .refl

theorem interpretStatus_touches (before : Option InvStatus) (st : InvStatus) (s : State) :
    Touches s (interpretStatus before st s) := by
  unfold interpretStatus
  split
  · split
    · exact .ite (fun _ => .refl) fun _ => Touch.many (.fault _ _)
    · exact Touch.many (.fault _ _)
  · exact Touch.many (.comp _ rfl rfl rfl rfl)
  · exact .ite (fun _ => Touch.many (.comp _ rfl rfl rfl rfl)) fun _ => .refl

theorem applyStatus_touches (u : BusUnit) (data : List Byte) (s : State) : Touches s (applyStatus u data s) := by
  cases u with
  | inverter =>
    exact (Touch.invStatus (invStatusOf data)).many.trans (interpretStatus_touches _ _ _)
  | damper =>
    have hstalled : Touches s (if s.damperStall data then routeFault s else s) :=
      .ite (fun _ => (routeFault_changes s).touches) fun _ => .refl
    exact hstalled.tail (.follow (.dampers _))
  | ice =>
    exact zone_touches .ice (fun r => { r with holdHarvest := (data.getD 0 0).getLsbD 0 && s.present .ice }) s
      (fun _ => rfl) fun _ => rfl

theorem responseEnds_touches (e : Exchange) (data : List Byte) (s : State) : Touches s (responseEnds e data s) := by
  have hended : Touches s (endExchange s) := free_touches _
  unfold responseEnds statusSucceeds
  refine .ite (fun _ => hended) fun _ => (hended.trans ?_).trans (applyStatus_touches _ _ _)
  have hentry := mapUnit_touches e.slot.unit (fun r => r.succeed data) (endExchange s)
  exact Touches.ite (fun _ => hentry.trans (react_changes _).touches) fun _ => hentry

/-! ## Every effect -/

theorem clamp_ge {lo hi n : Nat} : lo ≤ clamp lo hi n := Nat.le_max_left _ _

theorem clamp_le {lo hi : Nat} (h : lo ≤ hi) (n : Nat) : clamp lo hi n ≤ hi := max_le h (Nat.min_le_left _ _)

theorem serviceSpeedOf_mod (c : CompParams) (n : Nat) : serviceSpeedOf c n % 50 = 0 := by
  unfold serviceSpeedOf
  split
  · rfl
  · exact down50_mod _

/-- Every direct effect is made of single changes. -/
theorem Effect.touches {s u : State} (h : Effect s u) : Touches s u := by
  cases h with
  | strapSettled r => exact strapSettled_touches r s
  | restart => exact Relation.ReflTransGen.trans (free_touches _) (restartEffect_touches _)
  | zoneSet z p => exact zoneSetEffect_touches z p s
  | timing | arbSet => exact Touch.many (.settings _ rfl)
  | enable z on => exact enableEffect_touches z on s
  | flexMode m => exact flexModeEffect_touches m s
  | doorSet v => exact (Touch.settings { s.settings with door := v } rfl).many.trans (free_touches _)
  | compSet p hspan =>
    exact (Touch.compSet p hspan).many.tail (.follow .recompute)
  | clearLockout hstate => exact (Touch.clearLockout hstate).many
  | forced => exact (Changes.touches (Change.many (.arb _ fun h => h)))
  | endIsolation z => exact zone_touches z _ s (fun _ => rfl) fun _ => rfl
  | readmit z =>
    refine Relation.ReflTransGen.trans ?_ (zone_touches z _ _ (fun _ => rfl) fun _ => rfl)
    exact zone_touches z _ s (fun _ => rfl) fun _ => rfl
  | defrostSet p =>
    exact (Touch.settings { s.settings with defrost := defrostClamped p } rfl).many.tail
      (.defrostSet (defrostTh p) clamp_ge (clamp_le (by decide) _))
  | defrostStart => exact (startDefrost_changes _ s).touches
  | abortPending => exact (endDefrost_changes _ s (.inl rfl)).touches
  | abortHeat => exact (endHeat_changes _ s).touches
  | serviceEnter => exact enterService_touches s
  | serviceOutput p => exact applyService_touches _ s (serviceSpeedOf_mod _ _)
  | serviceExit => exact leaveService_touches s
  | sweep => exact beginSweep_touches s
  | reading ch code => exact arrival_touches ch code s
  | blindPhase z => exact blindExpired_touches z s
  | warm z => exact zone_touches z _ s (fun _ => rfl) fun _ => rfl
  | minDwell => exact (mapGrant_changes s _).touches
  | maxDwell => exact (mapGrant_changes s _).touches.trans (maxDwellExpired_touches _)
  | park => exact (enterParked_changes s).touches
  | moveEnd => exact Touch.endMove.many
  | driveEnd => exact Touch.endDrive.many.trans (afterDrive_changes _).touches
  | routeTimeout => exact (routeFault_changes s).touches
  | preChillEnd f => exact (setPreChill_changes f _ s).touches
  | fan f g => exact (Touch.fan f g).many
  | speedPeriod => exact Change.recompute.touches
  | minOff | minOn | postRun => exact Touch.many (.comp _ rfl rfl rfl rfl)
  | startFailure => exact Touch.many (.fault _ _)
  | faultHold hstate => exact (Touch.faultHold hstate).many
  | ageOut hstate => exact (Touch.ageOut hstate).many
  | minute => exact (minuteEvaluation_changes s).touches
  | heatEnd t => exact Changes.touches ((mapContext_changes s _).trans (endHeat_changes t _))
  | dripEnd => exact Changes.touches ((mapContext_changes s _).trans (enterRecover_changes _))
  | release => exact (completeDefrost_changes s).touches
  | door d level =>
    exact free_touches s
  | opening d level =>
    unfold presentOpening
    refine Relation.ReflTransGen.trans ?_ (mapDefrost_changes _ rfl).touches
    refine Relation.ReflTransGen.trans ?_ (mapGrant_changes _ _).touches
    exact free_touches s
  | ajar => exact free_touches _
  | slot => exact slotBoundary_touches s
  | response e data => exact responseEnds_touches e data s
  | failure e k => exact failExchange_touches e k s
  | faultCheck levels =>
    rcases faultCheck_cases { s with bus := { s.bus with line := levels } } with ⟨-, h⟩ | ⟨-, h⟩ <;> rw [h] <;>
      exact free_touches s

theorem Quiet.touches {s t : State} (h : Quiet s t) : Touches s t := by
  cases h with
  | same => exact .refl
  | events => exact free_touches s
  | pin d level => exact free_touches _
  | hear => exact free_touches _
  | sent e =>
    have hmarked : Touches s (setSucceeds e s) := by
      unfold setSucceeds
      exact .ite (fun _ => (Change.dampers _).touches) fun _ => .refl
    exact hmarked.trans (free_touches _)
  | line => exact free_touches _

/-- No single change touches the queue. -/
theorem Touch.pending {s t : State} (h : Touch s t) : t.pending = s.pending := by
  cases h with
  | follow h => rw [h.many.outside]
  | fault => rw [(takeFault_arc _ _ s).pending]
  | inverterLost => rw [(inverterLost_arc s).pending]
  | _ => rfl

theorem Touches.pending {s t : State} (h : Touches s t) : t.pending = s.pending :=
  h.keeps (P := fun t => t.pending = s.pending) (fun _ _ hm ht => hm.pending.trans ht) rfl

end Sys2Proof.Machine
end

section
/-!
PROOFS. The invariants of one block each: Th (R149), D (R41), the fault list and the commanded speed (R129, R115(b)), the
valve (R92, R98), and the heater (R142), each from the single changes; and the queue, which no command touches.
-/
namespace Sys2Proof.Machine

/-- An invariant that every single change, the outputs and a tick keep, and that looks at no queue, is kept by every step. -/
theorem step_keeps_of_touch {P : State → Prop} (hreset : P State.reset) (hqueue : ∀ s q, P s → P { s with pending := q })
    (htouch : ∀ s t, Touch s t → P s → P t) (hpublish : ∀ s, P s → P (publish s)) (htick : ∀ s, P s → P (tick s))
    {s t : State} (hs : P s) (h : step s = .next t) : P t :=
  step_keeps hreset hqueue (fun s _ => (free_touches s).keeps htouch) (fun s _ => (free_touches s).keeps htouch)
    (fun _ _ hquiet => hquiet.touches.keeps htouch)
    (fun _ u heffect hs => hpublish _ ((react_changes u).touches.keeps htouch (heffect.touches.keeps htouch hs))) htick hs h

/-! ## Th (R149) -/

theorem adaptTh_inRange {th : Nat} (h : 240 ≤ th ∧ th ≤ 5760) (t : Termination) (n : Nat) :
    240 ≤ adaptTh th t n ∧ adaptTh th t n ≤ 5760 := by
  obtain ⟨hlow, hhigh⟩ := h
  cases t with
  | temp =>
    dsimp only [adaptTh]
    split
    · exact ⟨le_min (by decide) (by omega), min_le_left _ _⟩
    · exact ⟨hlow, hhigh⟩
  | time => exact ⟨le_max_left _ _, max_le (by decide) (by omega)⟩
  | timeBlind => exact ⟨hlow, hhigh⟩
  | abort => exact ⟨hlow, hhigh⟩

theorem Change.keeps_thInRange {s t : State} (h : Change s t) (hs : s.thInRange) : t.thInRange := by
  cases h with
  | recompute => rwa [State.thInRange, (recompute_arc s).defrost]
  | defrost d hth =>
    obtain hth | ⟨e, n, hth⟩ := hth
    · rwa [State.thInRange, hth]
    · rw [State.thInRange, hth]
      exact adaptTh_inRange hs e n
  | _ => exact hs

theorem Touch.keeps_thInRange {s t : State} (h : Touch s t) (hs : s.thInRange) : t.thInRange := by
  cases h with
  | follow h => exact h.keeps_thInRange hs
  | fault => rwa [State.thInRange, (takeFault_arc _ _ s).defrost]
  | inverterLost => rwa [State.thInRange, (inverterLost_arc s).defrost]
  | defrostSet th hlow hhigh => exact ⟨hlow, hhigh⟩
  | _ => exact hs

/-! ## D (R41) -/

theorem State.levelsOk_iff (s : State) : s.levelsOk ↔ ∀ z, (s.zones.get z).levelRule :=
  ⟨fun ⟨hfresh, hfreeze, hflex, hice⟩ z => by cases z <;> assumption,
    fun h => ⟨h .fresh, h .freeze, h .flex, h .ice⟩⟩

theorem mapZone_levelsOk {s : State} (z : Zone) (f : ZoneRec → ZoneRec) (hs : s.levelsOk)
    (hf : (f (s.zones.get z)).levelRule) : (s.mapZone z f).levelsOk := by
  rw [State.levelsOk_iff] at hs ⊢
  intro z'
  by_cases hz : z' = z
  · subst hz
    simpa using hf
  · rw [State.mapZone_zones, PerZone.get_set_other _ hz]
    exact hs z'

theorem Change.keeps_levelsOk {s t : State} (h : Change s t) (hs : s.levelsOk) : t.levelsOk := by
  cases h with
  | recompute => rwa [State.levelsOk, (recompute_arc s).zones]
  | _ => exact hs

theorem Touch.keeps_levelsOk {s t : State} (h : Touch s t) (hs : s.levelsOk) : t.levelsOk := by
  cases h with
  | follow h => exact h.keeps_levelsOk hs
  | fault => rwa [State.levelsOk, (takeFault_arc _ _ s).zones]
  | inverterLost => rwa [State.levelsOk, (inverterLost_arc s).zones]
  | demand z d level hlevel hsatisfied => exact mapZone_levelsOk z _ hs ⟨hlevel, hsatisfied⟩
  | zone z f hdemand hlevel =>
    refine mapZone_levelsOk z f hs ?_
    rw [ZoneRec.levelRule, hdemand, hlevel]
    exact s.levelsOk_iff.mp hs z
  | zonesReset =>
    have hreset : ZoneRec.reset.levelRule := by decide
    exact ⟨hreset, hreset, hreset, hreset⟩
  | _ => exact hs

theorem tick_levelsOk (s : State) (hs : s.levelsOk) : (tick s).levelsOk := hs

/-! ## The fault list (R129) -/

/-- The rule of R129 on the compressor controller's record. -/
theorem Touch.keeps_lockoutRule {s t : State} (h : Touch s t) (hs : s.lockoutRule) : t.lockoutRule := by
  obtain ⟨hlength, hlockout⟩ := hs
  cases h with
  | follow h =>
    cases h with
    | recompute =>
      unfold recompute
      split <;> exact ⟨hlength, hlockout⟩
    | start hstate => exact ⟨hlength, by simpa [startComp, hstate] using hlockout⟩
    | stop hstate => exact ⟨hlength, by simpa [stopComp, dropCommand, hstate] using hlockout⟩
    | _ => exact ⟨hlength, hlockout⟩
  | fault source code =>
    unfold takeFault
    split
    · rename_i havailable
      simp only [State.compAvailable, Bool.or_eq_true, decide_eq_true_eq] at havailable
      have hfew : s.comp.faults.length < 3 := by
        refine lt_of_le_of_ne hlength fun h3 => ?_
        rw [hlockout.mpr h3] at havailable
        simp at havailable
      simp only [State.lockoutRule, dropCommand, State.setComp_comp, List.length_append, List.length_singleton,
        decide_eq_true_eq]
      refine ⟨by omega, ?_⟩
      split <;> simp <;> omega
    · exact ⟨hlength, hlockout⟩
  | inverterLost =>
    unfold Machine.inverterLost
    split
    · rename_i havailable
      simp only [State.compAvailable, Bool.or_eq_true, decide_eq_true_eq] at havailable
      refine ⟨hlength, ⟨by simp, fun h3 => ?_⟩⟩
      rw [hlockout.mpr h3] at havailable
      simp at havailable
    · split <;> exact ⟨hlength, hlockout⟩
  | comp c hstate _ hfaults =>
    rw [State.lockoutRule, hstate, hfaults]
    exact ⟨hlength, hlockout⟩
  | restarted =>
    refine ⟨hlength, ?_⟩
    by_cases hrunning : s.comp.state = .running
    · simpa [Compressor.restarted, hrunning] using hlockout
    · simpa [Compressor.restarted, hrunning] using hlockout
  | faultHold hstate =>
    refine ⟨hlength, ?_⟩
    have hafter : s.comp.afterHold ≠ .lockout := by
      unfold Compressor.afterHold
      split <;> simp
    simpa [hstate, hafter] using hlockout
  | clearLockout hstate =>
    have hafter : s.comp.afterHold ≠ .lockout := by
      unfold Compressor.afterHold
      split <;> simp
    simp [State.lockoutRule, Machine.clearLockout, hafter]
  | ageOut hstate =>
    have hfew : s.comp.faults.length ≠ 3 := fun h3 => hstate (hlockout.mpr h3)
    simp only [State.lockoutRule, State.setComp_comp, List.length_drop, hstate, false_iff]
    omega
  | invStatus =>
    refine ⟨hlength, ?_⟩
    by_cases hlost : s.comp.state = .invLost
    · simpa [hlost] using hlockout
    · simpa [hlost] using hlockout
  | _ => exact ⟨hlength, hlockout⟩

theorem tick_lockoutRule (s : State) (hs : s.lockoutRule) : (tick s).lockoutRule := by
  have hlength : (tick s).comp.faults.length = s.comp.faults.length := by
    simp only [tick, tickComp]
    split <;> simp
  rw [State.lockoutRule, hlength]
  exact hs

/-! ## The commanded speed (R115(b), R124) -/

/-- A speed that COMP_SET's parameters allow. -/
abbrev CompParams.allows (c : CompParams) (n : Nat) : Prop := c.nMin ≤ n ∧ n ≤ c.nMax ∧ n % 50 = 0

theorem CompParams.ok.allows_nMin {c : CompParams} (h : c.ok) : c.allows c.nMin := by
  obtain ⟨-, hspan, -, hmin, -, -⟩ := h
  exact ⟨le_rfl, by omega, hmin⟩

theorem min_mod {a b : Nat} (ha : a % 50 = 0) (hb : b % 50 = 0) : min a b % 50 = 0 := by
  rcases min_choice a b with h | h <;> rw [h] <;> assumption

theorem max_mod {a b : Nat} (ha : a % 50 = 0) (hb : b % 50 = 0) : max a b % 50 = 0 := by
  rcases max_choice a b with h | h <;> rw [h] <;> assumption

theorem CompParams.ok.allows_clamp {c : CompParams} (h : c.ok) {n : Nat} (hn : n % 50 = 0) :
    c.allows (clamp c.nMin c.nMax n) := by
  obtain ⟨-, hspan, -, hmin, hmax, -⟩ := h
  exact ⟨clamp_ge, clamp_le (by omega) n, max_mod hmin (min_mod hmax hn)⟩

/-- The target speed lies within the parameters in force in every situation (Table 6-2). -/
theorem State.targetSpeed_allowed {s : State} (hok : s.settings.comp.ok) (hservice : s.comp.serviceSpeed % 50 = 0) :
    s.settings.comp.allows s.targetSpeed := by
  have hmin := hok.allows_nMin
  obtain ⟨-, hspan, -, hminMod, hmaxMod, -⟩ := hok
  unfold State.targetSpeed
  split
  · split
    · exact hmin
    · exact ⟨le_max_left _ _, max_le (by omega) (min_le_right _ _), max_mod hminMod (min_mod hservice hmaxMod)⟩
  · split
    · split
      · exact hmin
      · exact ⟨nMin_le_coolingTarget _ _ _ _, coolingTarget_le_nMax _ _ (by omega), coolingTarget_mod _ _ hminMod⟩
    · exact hmin

theorem rampTo_allowed {c : CompParams} {p n : Nat} (hok : c.ok) (hp : c.allows p) (hn : c.allows n) :
    c.allows (rampTo p n c.ramp) := by
  obtain ⟨hplow, -, hpmod⟩ := hp
  obtain ⟨hnlow, hnhigh, hnmod⟩ := hn
  obtain ⟨-, -, -, -, -, hramp⟩ := hok
  unfold rampTo
  split
  · exact ⟨le_min hnlow (by omega), (min_le_left _ _).trans hnhigh, min_mod hnmod (by omega)⟩
  · exact ⟨hnlow, hnhigh, hnmod⟩

theorem recompute_keeps_speedRule {s : State} (hs : s.speedRule) : (recompute s).speedRule := by
  unfold recompute
  split
  · rename_i hrunning
    obtain ⟨hok, hservice, hstate, hcommand⟩ := hs
    have hnew : s.settings.comp.allows (rampTo s.comp.command s.targetSpeed s.settings.comp.ramp) :=
      rampTo_allowed hok (hcommand (hstate.mp hrunning)) (s.targetSpeed_allowed hok hservice)
    have hpos : 0 < s.settings.comp.nMin := by
      obtain ⟨hlow, -⟩ := hok
      omega
    refine ⟨hok, hservice, ?_, fun _ => hnew⟩
    simp only [State.setComp_comp, hrunning, true_iff]
    exact (hpos.trans_le hnew.1).ne'
  · exact hs

theorem Change.keeps_speedRule {s t : State} (h : Change s t) (hs : s.speedRule) : t.speedRule := by
  cases h with
  | recompute => exact recompute_keeps_speedRule hs
  | start =>
    obtain ⟨hok, hservice, -, -⟩ := hs
    have hmin := hok.allows_nMin
    have hpos : 1200 ≤ s.settings.comp.nMin := hok.1
    exact ⟨hok, hservice, ⟨fun _ => by simp only [startComp, State.setComp_comp]; omega, fun _ => rfl⟩, fun _ => hmin⟩
  | stop =>
    obtain ⟨hok, hservice, -, -⟩ := hs
    exact ⟨hok, hservice, by simp [stopComp, dropCommand], fun hne => absurd rfl hne⟩
  | _ => exact hs

/-- A command at 0 outside RUNNING meets the rule. -/
theorem speedRule_of_stopped {s t : State} (hs : s.speedRule) (hsettings : t.settings = s.settings)
    (hspeed : t.comp.serviceSpeed = s.comp.serviceSpeed ∨ t.comp.serviceSpeed = 0) (hstate : t.comp.state ≠ .running)
    (hcommand : t.comp.command = 0) : t.speedRule := by
  obtain ⟨hok, hservice, -, -⟩ := hs
  refine ⟨hsettings ▸ hok, ?_, ⟨fun h => absurd h hstate, fun h => absurd hcommand h⟩, fun h => absurd hcommand h⟩
  obtain h | h := hspeed <;> rw [h]
  exact hservice

/-- Outside RUNNING the command is 0. -/
theorem command_eq_zero_of_not_running {s : State} (hs : s.speedRule) (h : s.comp.state ≠ .running) :
    s.comp.command = 0 := by
  obtain ⟨-, -, hstate, -⟩ := hs
  by_contra hne
  exact h (hstate.mpr hne)

theorem compClamped_ok {p : List Byte} (hspan : (compClamped p).nMin + 200 ≤ (compClamped p).nMax) :
    (compClamped p).ok := by
  have hlow : 1200 ≤ down50 (clamp 1200 5000 (u16At p 0)) := by
    have : 1200 ≤ clamp 1200 5000 (u16At p 0) := clamp_ge
    unfold down50
    omega
  have hhigh : down50 (clamp 1200 5000 (u16At p 2)) ≤ 5000 := (down50_le _).trans (clamp_le (by decide) _)
  exact ⟨hlow, hspan, hhigh, down50_mod _, down50_mod _, down50_mod _⟩

theorem Touch.keeps_speedRule {s t : State} (h : Touch s t) (hs : s.speedRule) : t.speedRule := by
  cases h with
  | follow h => exact h.keeps_speedRule hs
  | settings v hcomp =>
    rw [State.speedRule, hcomp]
    exact hs
  | compSet p hspan =>
    have hok := compClamped_ok hspan
    obtain ⟨-, hservice, hstate, hcommand⟩ := hs
    by_cases hzero : s.comp.command = 0
    · refine ⟨hok, hservice, ?_, ?_⟩ <;> simp only [hzero, if_true]
      · rwa [hzero] at hstate
      · exact fun hne => absurd rfl hne
    · have hallowed := hok.allows_clamp (hcommand hzero).2.2
      refine ⟨hok, hservice, ?_, ?_⟩ <;> simp only [hzero, if_false]
      · have hpos := hok.1.trans hallowed.1
        exact ⟨fun _ => by omega, fun _ => hstate.mpr hzero⟩
      · exact fun _ => hallowed
  | fault source code =>
    unfold takeFault
    split
    · refine speedRule_of_stopped hs rfl ?_ ?_ rfl
      · simp only [State.setComp_comp]
        split
        · exact .inr rfl
        · exact .inl rfl
      · simp only [State.setComp_comp]
        split <;> simp
    · exact hs
  | inverterLost =>
    unfold Machine.inverterLost
    split
    · exact speedRule_of_stopped hs rfl (.inl rfl) (by simp) rfl
    · split <;> exact hs
  | comp c hstate hcommand _ hspeed =>
    rw [State.speedRule, hstate, hcommand, hspeed]
    exact hs
  | serviceSpeed n hmod =>
    obtain ⟨hok, -, hstate, hcommand⟩ := hs
    exact ⟨hok, hmod, hstate, hcommand⟩
  | restarted =>
    refine speedRule_of_stopped hs rfl (.inr rfl) ?_ rfl
    unfold Compressor.restarted
    dsimp only
    split
    · simp
    · assumption
  | faultHold hstate =>
    have hzero : s.comp.command = 0 := command_eq_zero_of_not_running hs (by simp [hstate])
    refine speedRule_of_stopped hs rfl (.inl rfl) ?_ hzero
    simp only [State.setComp_comp, Compressor.afterHold]
    split <;> simp
  | clearLockout hstate =>
    have hzero : s.comp.command = 0 := command_eq_zero_of_not_running hs (by simp [hstate])
    refine speedRule_of_stopped hs rfl (.inl rfl) ?_ hzero
    simp only [Machine.clearLockout, State.setComp_comp, Compressor.afterHold]
    split <;> simp
  | invStatus =>
    by_cases hlost : s.comp.state = .invLost
    · have hzero : s.comp.command = 0 := command_eq_zero_of_not_running hs (by simp [hlost])
      refine speedRule_of_stopped hs rfl (.inl rfl) ?_ hzero
      simp [hlost]
    · simpa [State.speedRule, hlost] using hs
  | _ => exact hs

/-! ## The valve (R92, R98) -/

/-- The valve's rule on its record. -/
abbrev Valve.rule (v : Valve) : Prop :=
  v.counter ≤ 160 ∧ (v.homed = false → v.move = none) ∧ (v.drive.isSome = true → v.homed = false)

theorem ValvePos.counter_le (p : ValvePos) : p.counter ≤ 112 := by cases p <;> decide

theorem Valve.beginDrive_rule (v : Valve) (a : Homing) (final : ValvePos) : (v.beginDrive a final).rule :=
  ⟨Nat.zero_le _, fun _ => rfl, fun _ => rfl⟩

theorem Valve.kick_rule {v : Valve} (h : v.rule) : v.kick.rule := by
  unfold Valve.kick
  split
  · exact h
  · split
    · exact v.beginDrive_rule .rehome v.finalOf
    · split
      · rename_i hhomed
        obtain ⟨hcounter, -, hdrive⟩ := h
        split
        · split
          · exact ⟨hcounter, fun hunhomed => by simp [hhomed] at hunhomed, hdrive⟩
          · exact ⟨hcounter, fun hunhomed => by simp [hhomed] at hunhomed, hdrive⟩
        · exact ⟨hcounter, fun hunhomed => by simp [hhomed] at hunhomed, hdrive⟩
      · exact h

theorem Valve.endMove_rule {v : Valve} (h : v.rule) : v.endMove.rule := by
  unfold Valve.endMove
  split
  · rename_i m _
    exact ⟨m.target.counter_le.trans (by decide), fun _ => rfl, h.2.2⟩
  · exact h

theorem Valve.endDrive_rule (v : Valve) : v.endDrive.rule :=
  ⟨Nat.zero_le _, fun h => Bool.noConfusion h, fun h => Bool.noConfusion h⟩

theorem Touch.keeps_valveRule {s t : State} (h : Touch s t) (hs : s.valveRule) : t.valveRule := by
  cases h with
  | follow h =>
    cases h with
    | kick => exact Valve.kick_rule hs
    | recompute =>
      unfold recompute
      split <;> exact hs
    | _ => exact hs
  | beginDrive a final => exact s.route.valve.beginDrive_rule a final
  | endMove => exact Valve.endMove_rule hs
  | endDrive => exact s.route.valve.endDrive_rule
  | routeReset =>
    have hreset : Valve.reset.rule := by decide
    exact hreset
  | fault =>
    unfold takeFault
    split <;> exact hs
  | inverterLost =>
    unfold Machine.inverterLost
    split
    · exact hs
    · split <;> exact hs
  | _ => exact hs

/-- A step toward a target within the travel stays within it. -/
theorem Valve.tick_rule {v : Valve} (h : v.rule) : v.tick.rule := by
  obtain ⟨hcounter, hmove, hdrive⟩ := h
  have hhomed : v.tickMove.homed = v.homed := by
    unfold Valve.tickMove
    split
    · split
      · split <;> rfl
      · rfl
    · rfl
  refine ⟨?_, fun hunhomed => ?_, fun hdriving => ?_⟩
  · change v.tickMove.counter ≤ 160
    unfold Valve.tickMove
    split
    · rename_i m _
      have htarget := m.target.counter_le
      split
      · split
        · exact hcounter
        · dsimp only
          split <;> omega
      · exact hcounter
    · exact hcounter
  · have hunhomed' : v.homed = false := hhomed.symm.trans hunhomed
    change v.tickMove.move = none
    simp [Valve.tickMove, hmove hunhomed']
  · refine hhomed.trans (hdrive ?_)
    simpa [Valve.tick] using hdriving

/-! ## The heater (R142) -/

/-- The outputs put the heater by its rule, whatever the state. -/
theorem publish_heaterSafe (s : State) : (publish s).heaterSafe := by
  intro h
  have hrule : s.heaterRule = true := h
  simp only [State.heaterRule, State.commandedOn, Bool.and_eq_true, Bool.or_eq_true, decide_eq_true_eq,
    Bool.not_eq_true', Bool.and_eq_false_iff, decide_eq_false_iff_not, not_not] at hrule
  obtain ⟨hphase, hcooling⟩ := hrule
  refine ⟨hphase.imp id And.left, ?_⟩
  rintro ⟨hcommand, htarget⟩
  exact hcooling.elim hcommand fun h => h htarget

theorem Valve.tick_target (v : Valve) : v.tick.target = v.target := by
  simp only [Valve.tick, Valve.tickMove]
  split
  · split
    · split <;> rfl
    · rfl
  · rfl

theorem tick_heaterSafe (s : State) (hs : s.heaterSafe) : (tick s).heaterSafe := by
  intro hheater
  have hsafe := hs hheater
  rw [← Valve.tick_target] at hsafe
  exact hsafe

theorem Quiet.keeps_heaterSafe {s t : State} (h : Quiet s t) (hs : s.heaterSafe) : t.heaterSafe := by
  cases h with
  | sent e =>
    unfold setSucceeds
    split <;> exact hs
  | _ => exact hs

/-- Settles O4: every effect is made of single changes, and none of them touches the queue. -/
theorem commandsKeepQueue : Obligations.CommandsKeepQueue := by
  intro c s t h
  obtain rfl | ⟨r, hr, hresult⟩ := exec_result c s
  · obtain rfl := Host.Outcome.next.inj h
    rfl
  · obtain rfl : r = t := Host.Outcome.next.inj (hr.symm.trans h)
    cases hresult with
    | quiet hquiet l => exact hquiet.touches.pending
    | finished heffect l => exact (finish_pending _).trans heffect.touches.pending

/-- Settles O10: the outputs put the heater by its rule after every event, and nothing else touches what the rule reads. -/
theorem stepKeepsHeaterSafe : Obligations.StepKeepsHeaterSafe := fun _ _ hs h =>
  step_keeps (P := State.heaterSafe) (by decide) (fun _ _ => id) (fun _ _ => id) (fun _ _ => id)
    (fun _ _ => Quiet.keeps_heaterSafe) (fun _ u _ _ => publish_heaterSafe (react u)) tick_heaterSafe hs h

/-- Settles O14, by the single changes of the compressor controller. -/
theorem stepKeepsCompressorRules : Obligations.StepKeepsCompressorRules := fun _ _ h =>
  ⟨fun hs => step_keeps_of_touch (P := State.lockoutRule) (by decide) (fun _ _ => id)
      (fun _ _ => Touch.keeps_lockoutRule) (fun _ => id) tick_lockoutRule hs h,
    fun hs => step_keeps_of_touch (P := State.speedRule) (by decide) (fun _ _ => id)
      (fun _ _ => Touch.keeps_speedRule) (fun _ => id) (fun _ => id) hs h⟩

/-- Settles O15, by the single changes of the valve. -/
theorem stepKeepsValveRule : Obligations.StepKeepsValveRule := fun _ _ hs h =>
  step_keeps_of_touch (P := State.valveRule) (by decide) (fun _ _ => id) (fun _ _ => Touch.keeps_valveRule)
    (fun _ => id) (fun s hs => Valve.tick_rule (v := s.route.valve) hs) hs h

end Sys2Proof.Machine
end

section
/-!
PROOFS. The unit bus (Chapter 9): which effects touch its record, the unit table (R175) and the schedule's rule (R166, R172,
R179, R180).
-/
namespace Sys2Proof.Machine

/-! ## What leaves the bus alone -/

theorem Changes.bus {s t : State} (h : Changes s t) : t.bus = s.bus := by rw [h.outside]

theorem setDemand_bus (z : Zone) (d : Demand) (level : Nat) (s : State) : (setDemand z d level s).bus = s.bus := by
  unfold setDemand
  dsimp only
  split <;> rfl

theorem evaluate_bus (z : Zone) (t : Int) (s : State) : (evaluate z t s).bus = s.bus := setDemand_bus _ _ _ s

theorem evaluateNow_bus (z : Zone) (s : State) : (evaluateNow z s).bus = s.bus := by
  unfold evaluateNow
  split
  · split
    · exact evaluate_bus z _ s
    · rfl
  · rfl

theorem enterBlindPhase_bus (z : Zone) (phase : Demand) (s : State) : (enterBlindPhase z phase s).bus = s.bus :=
  setDemand_bus _ _ _ _

theorem warmCompare_bus (z : Zone) (t : Int) (s : State) : (warmCompare z t s).bus = s.bus := by
  unfold warmCompare
  dsimp only
  split <;> rfl

theorem deliverValue_bus (ch : Channel) (f : Int) (s : State) : (deliverValue ch f s).bus = s.bus := by
  cases ch with
  | air z =>
    exact ((preChillCompare_changes _ _).bus.trans (warmCompare_bus z f _)).trans (evaluate_bus z f s)
  | frCoil => exact (preChillCompare_changes _ s).bus
  | fzCoil => exact (defrostCoilValue_changes f _).bus.trans (preChillCompare_changes _ s).bus
  | ambient => rfl

theorem deliver_bus (ch : Channel) (d : Delivery) (s : State) : (deliver ch d s).bus = s.bus := by
  cases d with
  | nothing => rfl
  | value f => exact deliverValue_bus ch f s
  | fault =>
    cases ch with
    | air z => exact enterBlindPhase_bus z .calling s
    | fzCoil => exact (defrostCoilFault_changes s).bus
    | frCoil => rfl
    | ambient => rfl
  | recovery f =>
    cases ch with
    | air z => exact deliverValue_bus (.air z) f _
    | frCoil => exact deliverValue_bus .frCoil f s
    | fzCoil => exact deliverValue_bus .fzCoil f s
    | ambient => rfl

theorem noProgressCheck_bus (g : Grant) (s : State) : (noProgressCheck g s).bus = s.bus := by
  unfold noProgressCheck
  split
  · split <;> rfl
  · rfl

theorem maxDwellEnd_bus (g : Grant) (s : State) : (maxDwellEnd g s).bus = s.bus := by
  refine Eq.trans ?_ ((normalise_changes _).bus.trans (noProgressCheck_bus g s))
  unfold maxDwellEnd
  dsimp only
  split
  · split
    · exact (regrant_changes _ _).bus
    · exact (createGrant_changes _ _ _).bus.trans (endGrant_changes _ _).bus
  · split
    · exact (regrant_changes _ _).bus
    · exact (enterIdle_changes _).bus.trans (endGrant_changes _ _).bus

theorem enterService_bus (s : State) : (enterService s).bus = s.bus := by
  refine Eq.trans ?_ ((endDefrostAtOnce_changes _).bus.trans (serviceArbiter_changes s).bus)
  unfold enterService
  dsimp only
  split
  · exact Change.recompute.many.bus
  · rfl

theorem leaveService_bus (s : State) : (leaveService s).bus = s.bus := by
  have hstop : (serviceStop s).bus = s.bus := by
    unfold serviceStop
    dsimp only
    split <;> rfl
  exact (normalise_changes _).bus.trans hstop

theorem beginInit_bus (s : State) : (beginInit s).bus = s.bus := rfl

theorem takeFault_bus (source : FaultSource) (code : Byte) (s : State) : (takeFault source code s).bus = s.bus :=
  (takeFault_arc _ _ s).bus

/-- The commands that touch the unit bus: the strap read's end, RESTART, and the bus's own. -/
theorem Effect.bus {s u : State} (h : Effect s u) :
    u.bus = s.bus ∨ (∃ r, u = Machine.strapSettled r s) ∨ u = restartEffect (s.mapLink Link.replied) ∨
      (s.bus.mode ≠ .stopped ∧ u = slotBoundary s) ∨
      (∃ e data, s.bus.exchange.isSome = true ∧ u = responseEnds e data s) ∨
      (∃ e k, s.bus.exchange.isSome = true ∧ u = failExchange e k s) ∨
      ∃ line, s.bus.mode = .fault ∧ line.length = lineBits ∧ u = Machine.faultCheck { s with bus := { s.bus with line := line } } := by
  cases h with
  | strapSettled r => exact .inr (.inl ⟨r, rfl⟩)
  | restart => exact .inr (.inr (.inl rfl))
  | slot hmode => exact .inr (.inr (.inr (.inl ⟨hmode, rfl⟩)))
  | response e data hexchange => exact .inr (.inr (.inr (.inr (.inl ⟨e, data, hexchange, rfl⟩))))
  | failure e k hexchange => exact .inr (.inr (.inr (.inr (.inr (.inl ⟨e, k, hexchange, rfl⟩)))))
  | faultCheck line hmode hline => exact .inr (.inr (.inr (.inr (.inr (.inr ⟨line, hmode, hline, rfl⟩)))))
  | zoneSet z p => exact .inl (evaluateNow_bus z _)
  | enable z on =>
    unfold enableEffect
    dsimp only
    split <;> exact .inl rfl
  | flexMode m => exact .inl (evaluateNow_bus .flex _)
  | compSet => exact .inl Change.recompute.many.bus
  | abortHeat => exact .inl (endHeat_changes _ s).bus
  | serviceEnter => exact .inl (enterService_bus s)
  | serviceOutput => exact .inl Change.recompute.many.bus
  | serviceExit => exact .inl (leaveService_bus s)
  | reading ch code => exact .inl (deliver_bus ch _ _)
  | blindPhase z =>
    unfold blindExpired
    split
    · exact .inl (enterBlindPhase_bus z _ s)
    · exact .inl rfl
  | maxDwell =>
    unfold maxDwellExpired
    split
    · exact .inl (maxDwellEnd_bus _ _)
    · exact .inl rfl
  | park => exact .inl (enterParked_changes s).bus
  | driveEnd => exact .inl (afterDrive_changes _).bus
  | routeTimeout => exact .inl (routeFault_changes s).bus
  | speedPeriod => exact .inl Change.recompute.many.bus
  | startFailure => exact .inl (takeFault_bus _ _ s)
  | minute => exact .inl (minuteEvaluation_changes s).bus
  | heatEnd t => exact .inl (endHeat_changes t _).bus
  | dripEnd => exact .inl (enterRecover_changes _).bus
  | release => exact .inl (completeDefrost_changes s).bus
  | _ => exact .inl rfl

/-- What the commands of the bus keep of its record, every step keeps. -/
theorem step_keeps_bus {P : Bus → Prop} (hreset : P Bus.reset) (htable : ∀ b v, P b → P { b with unit := unitTable v })
    (hopening : ∀ s, P s.bus → P (askOpening s).bus) (hstop : ∀ s, P s.bus → P (askStop s).bus)
    (hboundary : ∀ s, s.bus.mode ≠ .stopped → P s.bus → P (slotBoundary s).bus)
    (hresponse : ∀ e data s, P s.bus → P (responseEnds e data s).bus)
    (hfailure : ∀ e k s, s.bus.exchange.isSome = true → P s.bus → P (failExchange e k s).bus)
    (hline : ∀ b line, b.mode = .fault → line.length = lineBits → P b → P { b with line := line })
    (hcheck : ∀ s, s.bus.mode = .fault → P s.bus → P (faultCheck s).bus)
    (hhear : ∀ b e heard, b.exchange = some e → b.slotFor ≤ heard.length ∧ heard.length ≤ b.slotFor + 1 → P b →
      P { b with exchange := some { e with heard := heard } })
    (hend : ∀ b, P b → P { b with exchange := none }) (htick : ∀ b, P b → P b.tick) {s t : State} (hs : P s.bus)
    (h : step s = .next t) : P t.bus := by
  refine step_keeps (P := fun s => P s.bus) hreset (fun _ _ h => h) (fun _ _ h => h) (fun _ _ h => h) ?_ ?_
    (fun s hs => htick s.bus hs) hs h
  · intro s t hquiet hs
    cases hquiet with
    | hear e heard hexchange hlength => exact hhear s.bus e heard hexchange hlength hs
    | sent e =>
      have hmark : (setSucceeds e s).bus = s.bus := by
        unfold setSucceeds
        split <;> rfl
      have hended := hend _ hs
      rw [← hmark] at hended
      exact hended
    | line levels hmode hlength => exact hline s.bus levels hmode hlength hs
    | _ => exact hs
  · intro s u heffect hs
    rw [finish_bus]
    rcases heffect.bus with hsame | ⟨r, rfl⟩ | rfl | ⟨hmode, rfl⟩ | ⟨e, data, -, rfl⟩ | ⟨e, k, hexchange, rfl⟩ |
      ⟨levels, hmode, hlength, rfl⟩
    · rw [hsame]
      exact hs
    · exact hopening _ (htable s.bus _ hs)
    · have hended : (endDefrostAtOnce (restartBlocks (s.mapLink Link.replied))).bus = s.bus :=
        (endDefrostAtOnce_changes _).bus
      have htabled := htable _ (s.mapLink Link.replied).strap.variant (hended ▸ hs)
      unfold restartEffect restartBus
      refine hopening _ (hstop _ ?_)
      have hvariant : (endDefrostAtOnce (restartBlocks (s.mapLink Link.replied))).strap = s.strap := by
        rw [(endDefrostAtOnce_changes _).outside]
        rfl
      exact htable _ _ (hended ▸ hs)
    · exact hboundary s hmode hs
    · exact hresponse e data s hs
    · exact hfailure e k s hexchange hs
    · exact hcheck _ hmode (hline s.bus levels hmode hlength hs)

/-! ## The unit table (R175) -/

/-- The rule of R175 for every unit of a bus record. -/
abbrev Bus.unitsRule (b : Bus) : Prop := ∀ u, (b.unit.get u).failureRule

theorem State.unitsOk_iff (s : State) : s.unitsOk ↔ s.bus.unitsRule :=
  ⟨fun ⟨hinverter, hdamper, hice⟩ u => by cases u <;> assumption, fun h => ⟨h .inverter, h .damper, h .ice⟩⟩

theorem UnitRec.reset_failureRule (expected : Bool) : (UnitRec.reset expected).failureRule := by
  cases expected <;> decide

theorem unitTable_failureRule (v : Variant) (u : BusUnit) : ((unitTable v).get u).failureRule := by
  cases u <;> exact UnitRec.reset_failureRule _

theorem UnitRec.fail_failureRule {r : UnitRec} (h : r.failureRule) (k : ErrorKind) : (r.fail k).failureRule := by
  obtain ⟨hhigh, hlost⟩ := h
  obtain ⟨hfailures, -, -, hstate, -⟩ := r.fail_eq k
  refine ⟨by omega, ?_⟩
  rw [hstate, hfailures, hlost]
  simp only [lostLimit]
  omega

theorem UnitRec.succeed_failureRule (r : UnitRec) (payload : List Byte) : (r.succeed payload).failureRule := by
  simp [UnitRec.failureRule, UnitRec.succeed, lostLimit]

theorem mapUnit_unitsRule {s : State} (hs : s.bus.unitsRule) (u : BusUnit) {f : UnitRec → UnitRec}
    (hf : (f (s.bus.unit.get u)).failureRule) : (s.mapUnit u f).bus.unitsRule := by
  intro v
  by_cases hv : v = u
  · subst hv
    simpa using hf
  · rw [State.mapUnit_unit, PerUnit.get_set_other _ hv]
    exact hs v

/-- A failure counted touches the unit table alone of the bus. -/
theorem failUnit_bus (u : BusUnit) (k : ErrorKind) (s : State) :
    (failUnit u k s).bus = s.bus ∨ (failUnit u k s).bus = (s.mapUnit u fun r => r.fail k).bus := by
  unfold failUnit
  split
  · exact .inl rfl
  · right
    dsimp only
    split
    · unfold unitLostEffect
      split
      · exact (inverterLost_arc _).bus
      · rfl
      · rfl
    · rfl

theorem failUnit_unitsRule {s : State} (hs : s.bus.unitsRule) (u : BusUnit) (k : ErrorKind) :
    (failUnit u k s).bus.unitsRule := by
  rcases failUnit_bus u k s with h | h <;> rw [h]
  · exact hs
  · exact mapUnit_unitsRule hs u (UnitRec.fail_failureRule (hs u) k)

theorem interpretStatus_bus (before : Option InvStatus) (st : InvStatus) (s : State) :
    (interpretStatus before st s).bus = s.bus := (interpretStatus_arc before st s).bus

theorem applyStatus_bus (u : BusUnit) (data : List Byte) (s : State) : (applyStatus u data s).bus = s.bus := by
  cases u with
  | inverter => exact (applyInvStatus_arc _ s).bus
  | damper =>
    unfold applyStatus applyDamperStatus
    dsimp only
    split
    · exact (routeFault_changes s).bus
    · rfl
  | ice => rfl

/-- A response ends the exchange and enters its unit as ONLINE, or with a stop deferred ends the exchange alone. -/
theorem responseEnds_bus (e : Exchange) (data : List Byte) (s : State) :
    (responseEnds e data s).bus = (endExchange s).bus ∨
      (responseEnds e data s).bus = ((endExchange s).mapUnit e.slot.unit fun r => r.succeed data).bus := by
  unfold responseEnds
  split
  · exact .inl rfl
  · right
    unfold statusSucceeds
    dsimp only
    rw [applyStatus_bus]
    split
    · exact (react_changes _).bus
    · rfl

/-! ## The schedule (R166, R172, R179, R180) -/

/-- The schedule's rule on a bus record. -/
abbrev Bus.scheduleRule (b : Bus) : Prop :=
  (∀ e, b.exchange = some e → b.mode = .active ∧ b.position = some e.slot ∧ b.slotFor ≤ e.heard.length ∧
      e.heard.length ≤ b.slotFor + 1) ∧
    (b.mode = .stopped ↔ b.position = none) ∧ (b.deferred ≠ .none → b.mode = .active) ∧ b.line.length ≤ 10 ∧
    (b.line ≠ [] → b.mode = .fault)

/-- Without an exchange the rule asks for position, deferred stop and line alone. -/
theorem Bus.scheduleRule_of_no_exchange {b : Bus} (hexchange : b.exchange = none)
    (hstopped : b.mode = .stopped ↔ b.position = none) (hdeferred : b.deferred ≠ .none → b.mode = .active)
    (hlength : b.line.length ≤ 10) (hline : b.line ≠ [] → b.mode = .fault) : b.scheduleRule :=
  ⟨fun e he => absurd (hexchange.symm.trans he) (by simp), hstopped, hdeferred, hlength, hline⟩

theorem stopBus_scheduleRule (s : State) : (stopBus s).bus.scheduleRule := by
  simp [Bus.scheduleRule, stopBus]

/-- A slot that begins has heard nothing at time 0. -/
theorem beginSlot_scheduleRule {s : State} (p : Slot) (hactive : s.bus.mode = .active) (hline : s.bus.line = []) :
    (beginSlot p s).bus.scheduleRule := by
  refine ⟨fun e he => ?_, ?_, fun _ => hactive, ?_, fun h => absurd hline h⟩
  · simp only [beginSlot_bus] at he
    split at he
    · cases he
    · obtain rfl := Option.some.inj he
      exact ⟨hactive, rfl, Nat.le_refl 0, Nat.zero_le _⟩
  · simp [beginSlot_bus, hactive]
  · simp [beginSlot_bus, hline]

theorem enterActive_scheduleRule (s : State) : (enterActive s).bus.scheduleRule := beginSlot_scheduleRule .s1 rfl rfl

theorem Bus.scheduleRule.line_nil {b : Bus} (h : b.scheduleRule) (hmode : b.mode ≠ .fault) : b.line = [] := by
  obtain ⟨-, -, -, -, hline⟩ := h
  by_contra hne
  exact hmode (hline hne)

theorem endExchange_scheduleRule {b : Bus} (h : b.scheduleRule) : Bus.scheduleRule { b with exchange := none } := by
  obtain ⟨-, hstopped, hdeferred, hlength, hline⟩ := h
  exact Bus.scheduleRule_of_no_exchange rfl hstopped hdeferred hlength hline

theorem askOpening_scheduleRule {s : State} (hs : s.bus.scheduleRule) : (askOpening s).bus.scheduleRule := by
  rcases askOpening_cases s with ⟨-, h⟩ | ⟨-, -, h⟩ | ⟨-, hne, h⟩ <;> rw [h]
  · exact enterActive_scheduleRule s
  · exact hs
  · obtain ⟨hexchange, hstopped, hdeferred, hlength, hline⟩ := hs
    exact ⟨hexchange, hstopped, fun _ => hdeferred hne, hlength, hline⟩

theorem askStop_scheduleRule {s : State} (hs : s.bus.scheduleRule) : (askStop s).bus.scheduleRule := by
  rcases askStop_cases s with ⟨hactive, h⟩ | ⟨-, h⟩ <;> rw [h]
  · obtain ⟨hexchange, hstopped, -, hlength, hline⟩ := hs
    exact ⟨hexchange, hstopped, fun _ => hactive, hlength, hline⟩
  · exact stopBus_scheduleRule s

theorem slotBoundary_scheduleRule {s : State} (hs : s.bus.scheduleRule) : (slotBoundary s).bus.scheduleRule := by
  unfold slotBoundary
  split
  · exact askOpening_scheduleRule (stopBus_scheduleRule s)
  · exact stopBus_scheduleRule s
  · rename_i hnone
    split
    · rename_i hactive
      exact beginSlot_scheduleRule _ hactive (Bus.scheduleRule.line_nil hs (by simp [hactive]))
    · rename_i hfault
      obtain ⟨-, -, -, hlength, -⟩ := hs
      have hskipped : Bus.scheduleRule { s.bus with position := some s.bus.nextSlot, slotFor := 0, exchange := none } :=
        Bus.scheduleRule_of_no_exchange rfl (by simp [hfault]) (fun hne => absurd hnone hne) hlength fun _ => hfault
      unfold skipSlot
      rcases failUnit_bus s.bus.nextSlot.unit .line
        { s with bus := { s.bus with position := some s.bus.nextSlot, slotFor := 0, exchange := none } } with h | h <;>
        rw [h] <;> exact hskipped
    · exact hs

theorem responseEnds_scheduleRule {s : State} (hs : s.bus.scheduleRule) (e : Exchange) (data : List Byte) :
    (responseEnds e data s).bus.scheduleRule := by
  have hended : (endExchange s).bus.scheduleRule := endExchange_scheduleRule hs
  rcases responseEnds_bus e data s with h | h <;> rw [h] <;> exact hended

theorem failExchange_scheduleRule {s : State} (hs : s.bus.scheduleRule) (e : Exchange) (k : ErrorKind)
    (hexchange : s.bus.exchange.isSome = true) : (failExchange e k s).bus.scheduleRule := by
  have hended := endExchange_scheduleRule hs
  unfold failExchange
  split
  · exact hended
  · rename_i hnone
    have hcounted : ∃ units, (failUnit e.slot.unit k (endExchange s)).bus = { s.bus with exchange := none, unit := units } := by
      rcases failUnit_bus e.slot.unit k (endExchange s) with h | h
      · exact ⟨s.bus.unit, h⟩
      · exact ⟨_, h⟩
    obtain ⟨units, hunits⟩ := hcounted
    dsimp only
    split
    · obtain ⟨running, hrunning⟩ := Option.isSome_iff_exists.mp hexchange
      obtain ⟨hactive, hposition, -⟩ := hs.1 running hrunning
      dsimp only
      rw [hunits]
      exact Bus.scheduleRule_of_no_exchange rfl (by simp [hposition]) (fun hne => absurd (not_not.mp hnone) hne)
        (lastLevels_length _) fun _ => rfl
    · rw [hunits]
      exact hended

theorem faultCheck_scheduleRule {s : State} (hs : s.bus.scheduleRule) : (faultCheck s).bus.scheduleRule := by
  rcases faultCheck_cases s with ⟨-, h⟩ | ⟨-, h⟩ <;> rw [h]
  · exact enterActive_scheduleRule s
  · exact hs

/-- The slot's time and the levels heard advance together; at the slot's end both stand. -/
theorem Bus.tick_scheduleRule {b : Bus} (h : b.scheduleRule) : b.tick.scheduleRule := by
  obtain ⟨hexchange, hstopped, hdeferred, hlength, hline⟩ := h
  refine ⟨fun e he => ?_, hstopped, hdeferred, ?_, fun hne => ?_⟩
  · simp only [Bus.tick] at he ⊢
    by_cases hmode : b.mode = .stopped
    · rw [if_pos hmode] at he
      obtain ⟨hactive, -⟩ := hexchange e he
      simp [hactive] at hmode
    · rw [if_neg hmode] at he ⊢
      obtain ⟨running, hrunning, rfl⟩ := Option.map_eq_some_iff.mp he
      obtain ⟨hactive, hposition, hlow, hhigh⟩ := hexchange running hrunning
      obtain ⟨hslot, -, hgrows, hstands⟩ := running.advance_spec b.slotFor
      have hcount := countUp_eq slotTicks b.slotFor
      unfold Ticks at *
      have hheard : (running.advance b.slotFor).heard.length = b.slotFor + 1 := by
        by_cases hreported : running.heard.length ≤ b.slotFor
        · rw [hgrows hreported]
          omega
        · rw [hstands (by omega)]
          omega
      rw [hheard, hslot]
      exact ⟨hactive, hposition, by omega, by omega⟩
  · simp only [Bus.tick]
    split
    · exact lastLevels_length _
    · exact hlength
  · by_contra hmode
    have hnil : b.line = [] := by
      by_contra hheld
      exact hmode (hline hheld)
    have hmode' : b.mode ≠ .fault := hmode
    exact hne (by simp [Bus.tick, hmode', hnil])

/-- A position skipped touches the unit table of the bus by the failure it counts. -/
theorem slotBoundary_unitsRule {s : State} (hs : s.bus.unitsRule) : (slotBoundary s).bus.unitsRule := by
  unfold slotBoundary
  split
  · rcases askOpening_cases (stopBus s) with ⟨-, h⟩ | ⟨-, -, h⟩ | ⟨-, -, h⟩ <;> rw [h] <;> exact hs
  · exact hs
  · split
    · exact hs
    · have hskipped : Bus.unitsRule { s.bus with position := some s.bus.nextSlot, slotFor := 0, exchange := none } := hs
      exact failUnit_unitsRule (s := { s with bus := _ }) hskipped _ _
    · exact hs

theorem failExchange_unitsRule {s : State} (hs : s.bus.unitsRule) (e : Exchange) (k : ErrorKind) :
    (failExchange e k s).bus.unitsRule := by
  unfold failExchange
  split
  · exact hs
  · have hcounted : (failUnit e.slot.unit k (endExchange s)).bus.unitsRule := failUnit_unitsRule (s := endExchange s) hs _ _
    dsimp only
    split <;> exact hcounted

theorem responseEnds_unitsRule {s : State} (hs : s.bus.unitsRule) (e : Exchange) (data : List Byte) :
    (responseEnds e data s).bus.unitsRule := by
  rcases responseEnds_bus e data s with h | h <;> rw [h]
  · exact hs
  · exact mapUnit_unitsRule (s := endExchange s) hs _ (UnitRec.succeed_failureRule _ _)

theorem step_keeps_unitsOk {s t : State} (hs : s.unitsOk) (h : step s = .next t) : t.unitsOk := by
  refine t.unitsOk_iff.mpr (step_keeps_bus (P := Bus.unitsRule) (fun u => by cases u <;> exact UnitRec.reset_failureRule _)
    (fun _ v _ u => unitTable_failureRule v u) ?_ ?_ (fun s _ hs => slotBoundary_unitsRule hs)
    (fun e data s hs => responseEnds_unitsRule hs e data) (fun e k s _ hs => failExchange_unitsRule hs e k)
    (fun _ _ _ _ => id) ?_ (fun _ _ _ _ _ => id) (fun _ => id) (fun _ => id) (s.unitsOk_iff.mp hs) h)
  · intro s hs
    rcases askOpening_cases s with ⟨-, h⟩ | ⟨-, -, h⟩ | ⟨-, -, h⟩ <;> rw [h] <;> exact hs
  · intro s hs
    rcases askStop_cases s with ⟨-, h⟩ | ⟨-, h⟩ <;> rw [h] <;> exact hs
  · intro s _ hs
    rcases faultCheck_cases s with ⟨-, h⟩ | ⟨-, h⟩ <;> rw [h] <;> exact hs

theorem step_keeps_busRule {s t : State} (hs : s.busRule) (h : step s = .next t) : t.busRule := by
  refine step_keeps_bus (P := Bus.scheduleRule) (by decide)
    (fun _ _ => id) (fun _ => askOpening_scheduleRule) (fun _ => askStop_scheduleRule)
    (fun _ _ => slotBoundary_scheduleRule) (fun e data _ hs => responseEnds_scheduleRule hs e data)
    (fun e k _ hexchange hs => failExchange_scheduleRule hs e k hexchange) ?_ (fun _ _ => faultCheck_scheduleRule) ?_
    (fun _ => endExchange_scheduleRule) (fun _ => Bus.tick_scheduleRule) hs h
  · intro b line hmode hlength hrule
    obtain ⟨hexchange, hstopped, hdeferred, -, -⟩ := hrule
    exact ⟨hexchange, hstopped, hdeferred, Nat.le_of_eq hlength, fun _ => hmode⟩
  · intro b e heard he hheard hrule
    obtain ⟨hexchange, hrest⟩ := hrule
    obtain ⟨hactive, hposition, -⟩ := hexchange e he
    refine ⟨fun e' he' => ?_, hrest⟩
    obtain rfl := Option.some.inj he'
    exact ⟨hactive, hposition, hheard⟩

/-- Settles O13, by the commands that touch the bus. -/
theorem stepKeepsUnitsAndBus : Obligations.StepKeepsUnitsAndBus :=
  fun _ _ h => ⟨fun hs => step_keeps_unitsOk hs h, fun hs => step_keeps_busRule hs h⟩

end Sys2Proof.Machine
end

section
/-!
PROOFS. The frame of each shared operation of the arbiter, the route controller and the compressor controller: which parts of
those three records it leaves, and which conditions it leaves as they are.
-/
namespace Sys2Proof.Machine

/-! ## Conditions that do not look at the arbiter, the route or the commanded speed -/

section Conditions

variable {s t : State}

theorem ArcOnly.present (h : ArcOnly s t) (z : Zone) : t.present z = s.present z := by
  unfold State.present
  rw [h.strap]

theorem ArcOnly.member (h : ArcOnly s t) (z : Zone) : t.member z = s.member z := by
  unfold State.member State.isolated
  rw [h.zones, h.settings, h.present]

theorem ArcOnly.held (h : ArcOnly s t) (z : Zone) : t.held z = s.held z := by
  unfold State.held
  rw [h.zones]

theorem ArcOnly.routeAvailable (h : ArcOnly s t) (z : Zone) : t.routeAvailable z = s.routeAvailable z := by
  unfold State.routeAvailable
  rw [h.bus]

theorem ArcOnly.zoneDoorOpen (h : ArcOnly s t) (z : Zone) : t.zoneDoorOpen z = s.zoneDoorOpen z := by
  unfold State.zoneDoorOpen
  rw [h.doors]

theorem ArcOnly.zoneSelectable (h : ArcOnly s t) (z : Zone) : t.zoneSelectable z = s.zoneSelectable z := by
  unfold State.zoneSelectable
  rw [h.member, h.held, h.routeAvailable]

theorem ArcOnly.selectable (h : ArcOnly s t) (hcomp : t.compAvailable = s.compAvailable) (z : Zone) :
    t.selectable z = s.selectable z := by
  unfold State.selectable
  rw [h.zoneSelectable, h.defrost, hcomp]

theorem ArcOnly.condenserLevel (h : ArcOnly s t) : t.condenserLevel = s.condenserLevel := by
  unfold State.condenserLevel State.ambient
  rw [h.sensing]

theorem ArcOnly.dampersConfirmed (h : ArcOnly s t) (hdampers : t.route.dampers = s.route.dampers) (z : Zone) :
    t.dampersConfirmed z = s.dampersConfirmed z := by
  unfold State.dampersConfirmed
  rw [h.bus, hdampers]

end Conditions

/-! ## Compressor controller -/

@[simp] theorem arb_recompute (s : State) : (recompute s).arb = s.arb := recompute_arb s

@[simp] theorem route_recompute (s : State) : (recompute s).route = s.route := by
  unfold recompute
  split <;> rfl

/-- `c` is the record `b` but for what a recomputation sets, and equal to it while not RUNNING (R121). -/
abbrev Compressor.steady (b c : Compressor) : Prop :=
  c = { b with target := c.target, command := c.command, speedTimer := c.speedTimer, fanLevel := c.fanLevel } ∧
    (b.state ≠ .running → c = b)

theorem Compressor.steady_refl (b : Compressor) : b.steady b := ⟨rfl, fun _ => rfl⟩

theorem Compressor.steady.trans {a b c : Compressor} (h : a.steady b) (k : b.steady c) : a.steady c := by
  obtain ⟨hb, hstands⟩ := h
  obtain ⟨hc, kstands⟩ := k
  refine ⟨by rw [hc, hb], fun ha => ?_⟩
  have hab := hstands ha
  rw [kstands (hab ▸ ha), hab]

theorem recompute_steady (s : State) : s.comp.steady (recompute s).comp := by
  unfold recompute
  split
  · exact ⟨rfl, fun h => absurd ‹_› h⟩
  · exact s.comp.steady_refl

section Steady

variable {b c : Compressor} (h : b.steady c)
include h

theorem Compressor.steady.state : c.state = b.state := by rw [h.1]
theorem Compressor.steady.runFor : c.runFor = b.runFor := by rw [h.1]
theorem Compressor.steady.stopFor : c.stopFor = b.stopFor := by rw [h.1]
theorem Compressor.steady.runWatch : c.runWatch = b.runWatch := by rw [h.1]
theorem Compressor.steady.postRun : c.postRun = b.postRun := by rw [h.1]
theorem Compressor.steady.serviceSpeed : c.serviceSpeed = b.serviceSpeed := by rw [h.1]

end Steady

/-- Availability goes by the compressor state alone (R116). -/
theorem compAvailable_of_steady {s t : State} (h : s.comp.steady t.comp) : t.compAvailable = s.compAvailable := by
  unfold State.compAvailable
  rw [h.state]

@[simp] theorem compReact_arb (s : State) : (compReact s).arb = s.arb := by
  unfold compReact
  split
  · rfl
  · split <;> rfl

@[simp] theorem compReact_route (s : State) : (compReact s).route = s.route := by
  unfold compReact
  split
  · rfl
  · split <;> rfl

/-- A start or a stop is made by an available compressor, and leaves it available. -/
theorem compReact_available (s : State) : (compReact s).compAvailable = s.compAvailable := by
  unfold compReact
  split
  · rename_i h
    simp only [Bool.and_eq_true, decide_eq_true_eq] at h
    simp [State.compAvailable, startComp, h.1.1]
  · split
    · rename_i h
      simp only [Bool.and_eq_true, decide_eq_true_eq] at h
      simp [State.compAvailable, stopComp, h.1.1]
    · rfl

/-! ## Route controller -/

@[simp] theorem setValveTarget_comp (p : ValvePos) (s : State) : (setValveTarget p s).comp = s.comp := rfl
@[simp] theorem holdValve_comp (s : State) : (holdValve s).comp = s.comp := rfl
@[simp] theorem kickValve_comp (s : State) : (kickValve s).comp = s.comp := rfl
@[simp] theorem changeDampers_comp (a b : Nat) (s : State) : (changeDampers a b s).comp = s.comp := rfl
@[simp] theorem clearPreChill_comp (s : State) : (clearPreChill s).comp = s.comp := rfl
@[simp] theorem setValveTarget_arb (p : ValvePos) (s : State) : (setValveTarget p s).arb = s.arb := rfl
@[simp] theorem holdValve_arb (s : State) : (holdValve s).arb = s.arb := rfl
@[simp] theorem kickValve_arb (s : State) : (kickValve s).arb = s.arb := rfl
@[simp] theorem changeDampers_arb (a b : Nat) (s : State) : (changeDampers a b s).arb = s.arb := rfl
@[simp] theorem clearPreChill_arb (s : State) : (clearPreChill s).arb = s.arb := rfl

@[simp] theorem arb_applyRoute (z : Zone) (s : State) : (applyRoute z s).arb = s.arb := applyRoute_arb z s

@[simp] theorem applyRoute_comp (z : Zone) (s : State) : (applyRoute z s).comp = s.comp := by
  unfold applyRoute
  split <;> rfl

@[simp] theorem inPlaceTest_arb (s : State) : (inPlaceTest s).arb = s.arb := by
  unfold inPlaceTest
  split
  · split <;> rfl
  · rfl

@[simp] theorem inPlaceTest_comp (s : State) : (inPlaceTest s).comp = s.comp := by
  unfold inPlaceTest
  split
  · split <;> rfl
  · rfl

/-- The test marks the application in place and changes nothing else (R103). -/
theorem inPlaceTest_route (s : State) :
    (inPlaceTest s).route =
      { s.route with
        app := s.route.app.map fun a =>
          { a with inPlace := a.inPlace || s.route.valve.isAt (outletOf a.zone) && s.dampersConfirmed a.zone } } := by
  unfold inPlaceTest
  cases happ : s.route.app with
  | none =>
    simp only [Option.map_none]
    rw [← happ]
  | some a =>
    dsimp only [Option.map_some]
    split
    · rename_i h
      simp_all
    · rename_i h
      have hmark : (a.inPlace || s.route.valve.isAt (outletOf a.zone) && s.dampersConfirmed a.zone) = a.inPlace := by
        cases hplace : a.inPlace <;> simp_all
      rw [hmark, ← happ]

@[simp] theorem inPlaceTest_valve (s : State) : (inPlaceTest s).route.valve = s.route.valve := by
  rw [inPlaceTest_route]

@[simp] theorem inPlaceTest_dampers (s : State) : (inPlaceTest s).route.dampers = s.route.dampers := by
  rw [inPlaceTest_route]

/-- The comparison can end the fan's own record, and changes nothing else. -/
theorem preChillCompare_cases (f : EvapFan) (s : State) :
    preChillCompare f s = s ∨ preChillCompare f s = { s with route := s.route.setPreChill f .ended } := by
  unfold preChillCompare
  split
  · split
    · split
      · split
        · exact .inr rfl
        · exact .inl rfl
      · exact .inl rfl
    · exact .inl rfl
  · exact .inl rfl

@[simp] theorem setPreChill_valve (r : Route) (f : EvapFan) (p : PreChill) : (r.setPreChill f p).valve = r.valve := by
  cases f <;> rfl

@[simp] theorem setPreChill_dampers (r : Route) (f : EvapFan) (p : PreChill) : (r.setPreChill f p).dampers = r.dampers := by
  cases f <;> rfl

@[simp] theorem setPreChill_app (r : Route) (f : EvapFan) (p : PreChill) : (r.setPreChill f p).app = r.app := by
  cases f <;> rfl

@[simp] theorem setPreChill_fans (r : Route) (f : EvapFan) (p : PreChill) : (r.setPreChill f p).fans = r.fans := by
  cases f <;> rfl

/-- The start of a pre-chill sets the record of the route's fan alone (R108). -/
theorem startPreChill_eq (z : Zone) (s : State) :
    ∃ p, startPreChill z s = { s with route := s.route.setPreChill z.fan p } := by
  unfold startPreChill
  rcases preChillCompare_cases z.fan { s with route := s.route.setPreChill z.fan (.running 0) } with h | h <;> rw [h]
  · exact ⟨_, rfl⟩
  · refine ⟨.ended, ?_⟩
    cases z.fan <;> rfl

@[simp] theorem startPreChill_arb (z : Zone) (s : State) : (startPreChill z s).arb = s.arb := by
  obtain ⟨p, h⟩ := startPreChill_eq z s
  rw [h]

@[simp] theorem startPreChill_comp (z : Zone) (s : State) : (startPreChill z s).comp = s.comp := by
  obtain ⟨p, h⟩ := startPreChill_eq z s
  rw [h]

@[simp] theorem startPreChill_valve (z : Zone) (s : State) : (startPreChill z s).route.valve = s.route.valve := by
  obtain ⟨p, h⟩ := startPreChill_eq z s
  rw [h, setPreChill_valve]

@[simp] theorem startPreChill_dampers (z : Zone) (s : State) :
    (startPreChill z s).route.dampers = s.route.dampers := by
  obtain ⟨p, h⟩ := startPreChill_eq z s
  rw [h, setPreChill_dampers]

@[simp] theorem startPreChill_app (z : Zone) (s : State) : (startPreChill z s).route.app = s.route.app := by
  obtain ⟨p, h⟩ := startPreChill_eq z s
  rw [h, setPreChill_app]

/-- A kick leaves the counts, the rest position and whether a rehome has still to end (R95, R99). -/
theorem Valve.kick_rehoming (v : Valve) : v.kick.rehoming = v.rehoming := by
  unfold Valve.kick
  split
  · rfl
  · split
    · rename_i h
      simp [Valve.rehoming, Valve.beginDrive, h]
    · split
      · split
        · split <;> rfl
        · rfl
      · rfl

@[simp] theorem Valve.kick_outletMoves (v : Valve) : v.kick.outletMoves = v.outletMoves := by
  unfold Valve.kick
  split
  · rfl
  · split
    · rfl
    · split
      · split
        · split <;> rfl
        · rfl
      · rfl

/-- What the kick has begun is under way, so a second one finds nothing to do. -/
theorem Valve.kick_kick (v : Valve) : v.kick.kick = v.kick := by
  unfold Valve.kick
  by_cases hbusy : (v.move.isSome || v.drive.isSome) = true
  · simp [hbusy]
  · by_cases hask : v.rehomeAsk ≠ .none
    · simp [hbusy, hask, Valve.beginDrive]
    · by_cases hhomed : v.homed = true
      · cases htarget : v.target with
        | none => simp [hbusy, hask, hhomed, htarget]
        | some p => by_cases hcounter : v.counter = p.counter <;> simp [hbusy, hask, hhomed, htarget, hcounter]
      · simp [hbusy, hask, hhomed]

/-! ## Arbiter -/

@[simp] theorem relist_comp (s : State) : (relist s).comp = s.comp := rfl
@[simp] theorem relist_route (s : State) : (relist s).route = s.route := rfl

/-- Of the state the moves of R62 change the two pointers. -/
theorem normalise_eq (s : State) :
    normalise s = { s with arb := { s.arb with p1 := (normalise s).arb.p1, p2 := (normalise s).arb.p2 } } := by
  have hp2 : normaliseP2 s = { s with
      arb := { s.arb with p1 := (normaliseP2 s).arb.p1, p2 := (normaliseP2 s).arb.p2 } } := by
    unfold normaliseP2
    split
    · split <;> rfl
    · rfl
  have hp1 : ∀ t : State, normaliseP1 t = { t with
      arb := { t.arb with p1 := (normaliseP1 t).arb.p1, p2 := (normaliseP1 t).arb.p2 } } := by
    intro t
    unfold normaliseP1
    split
    · split <;> rfl
    · rfl
  rw [normalise, hp1, hp2]

@[simp] theorem normalise_grant (s : State) : (normalise s).arb.grant = s.arb.grant := by rw [normalise_eq]
@[simp] theorem normalise_waiting (s : State) : (normalise s).arb.waiting = s.arb.waiting := by rw [normalise_eq]
@[simp] theorem normalise_claim (s : State) : (normalise s).arb.claim = s.arb.claim := by rw [normalise_eq]
@[simp] theorem normalise_forced (s : State) : (normalise s).arb.forced = s.arb.forced := by rw [normalise_eq]
@[simp] theorem normalise_idle (s : State) : (normalise s).arb.idle = s.arb.idle := by rw [normalise_eq]
@[simp] theorem normalise_lastEnd (s : State) : (normalise s).arb.lastEnd = s.arb.lastEnd := by rw [normalise_eq]
@[simp] theorem normalise_comp (s : State) : (normalise s).comp = s.comp := by rw [normalise_eq]
@[simp] theorem normalise_route (s : State) : (normalise s).route = s.route := by rw [normalise_eq]

/-- A grant moves the pointers and nothing else of the state (R61). -/
theorem movePointers_eq (z : Zone) (s : State) :
    movePointers z s = { s with
      arb := { s.arb with p1 := (movePointers z s).arb.p1, p2 := (movePointers z s).arb.p2 } } := by
  unfold movePointers
  split <;> rfl

/-- The arbiter's record after a grant is created (R69). -/
theorem createGrant_arb (z : Zone) (r : GrantReason) (s : State) :
    (createGrant z r s).arb =
      { s.arb with
        p1 := (movePointers z s).arb.p1
        p2 := (movePointers z s).arb.p2
        grant := some (s.newGrant z r)
        waiting := s.arb.waiting.filter fun w => w.zone ≠ z
        claim := if r = .recovery then false else s.arb.claim
        idle := none
        parkTimer := none
        lastRoute := none } := by
  unfold createGrant
  simp only [arb_recompute, arb_applyRoute, clearPreChill_arb]
  rw [movePointers_eq]

/-- A created grant recomputes; nothing else of it reaches the compressor (R121). -/
theorem createGrant_steady (z : Zone) (r : GrantReason) (s : State) : s.comp.steady (createGrant z r s).comp := by
  unfold createGrant
  refine Compressor.steady.trans ?_ (recompute_steady _)
  rw [applyRoute_comp, clearPreChill_comp, movePointers_eq]
  exact s.comp.steady_refl

theorem regrant_steady (z : Zone) (s : State) : s.comp.steady (regrant z s).comp := by
  unfold regrant
  refine Compressor.steady.trans ?_ (recompute_steady _)
  rw [movePointers_eq]
  exact s.comp.steady_refl

@[simp] theorem regrant_route (z : Zone) (s : State) : (regrant z s).route = s.route := by
  unfold regrant
  rw [route_recompute, movePointers_eq]

/-- A grant's end: the record goes, the end and the last route are kept, the application goes, and the list follows (R79). -/
theorem endGrant_some {s : State} {g : Grant} (r : EndReason) (hgrant : s.arb.grant = some g) :
    endGrant r s =
      relist
        { s with
          arb := { s.arb with
            grant := none, lastEnd := some ⟨g.zone, r⟩, lastRoute := s.route.app.map RouteApp.zone }
          route := { s.route with app := none } } := by
  unfold endGrant
  rw [hgrant]

theorem endGrant_none {s : State} (r : EndReason) (hgrant : s.arb.grant = none) : endGrant r s = s := by
  unfold endGrant
  rw [hgrant]

@[simp] theorem endGrant_comp (r : EndReason) (s : State) : (endGrant r s).comp = s.comp := by
  unfold endGrant
  split <;> rfl

@[simp] theorem endGrant_grant (r : EndReason) (s : State) : (endGrant r s).arb.grant = none := (endGrant_spec r s).1

@[simp] theorem endGrant_claim (r : EndReason) (s : State) : (endGrant r s).arb.claim = s.arb.claim := by
  unfold endGrant
  split <;> rfl

@[simp] theorem endGrant_forced (r : EndReason) (s : State) : (endGrant r s).arb.forced = s.arb.forced := by
  unfold endGrant
  split <;> rfl

@[simp] theorem endGrant_valve (r : EndReason) (s : State) : (endGrant r s).route.valve = s.route.valve := by
  unfold endGrant
  split <;> rfl

/-! ## Idle sub-states -/

/-- `b` is the arbiter's record `a` but for the idle sub-state with its park timer, park mode and last route. -/
abbrev Arbiter.idleOnly (a b : Arbiter) : Prop :=
  b = { a with idle := b.idle, parkTimer := b.parkTimer, parkMode := b.parkMode, lastRoute := b.lastRoute }

theorem Arbiter.idleOnly.trans {a b c : Arbiter} (h : a.idleOnly b) (k : b.idleOnly c) : a.idleOnly c := by
  unfold Arbiter.idleOnly at *
  rw [k, h]

section IdleOnly

variable {a b : Arbiter} (h : a.idleOnly b)
include h

theorem Arbiter.idleOnly.grant : b.grant = a.grant := by rw [h]
theorem Arbiter.idleOnly.waiting : b.waiting = a.waiting := by rw [h]
theorem Arbiter.idleOnly.claim : b.claim = a.claim := by rw [h]
theorem Arbiter.idleOnly.forced : b.forced = a.forced := by rw [h]
theorem Arbiter.idleOnly.lastEnd : b.lastEnd = a.lastEnd := by rw [h]
theorem Arbiter.idleOnly.p1 : b.p1 = a.p1 := by rw [h]
theorem Arbiter.idleOnly.p2 : b.p2 = a.p2 := by rw [h]

end IdleOnly

theorem rehomeTest_idleOnly (s : State) : s.arb.idleOnly (rehomeTest s).arb := by
  unfold rehomeTest
  split <;> rfl

theorem enterParked_idleOnly (s : State) : s.arb.idleOnly (enterParked s).arb := by
  unfold enterParked
  refine Arbiter.idleOnly.trans ?_ (rehomeTest_idleOnly _)
  split <;> rfl

theorem enterParkDelay_idleOnly (s : State) : s.arb.idleOnly (enterParkDelay s).arb := by
  unfold enterParkDelay
  dsimp only
  split
  · exact Arbiter.idleOnly.trans (by rfl) (enterParked_idleOnly _)
  · rfl

theorem enterIdle_idleOnly (s : State) : s.arb.idleOnly (enterIdle s).arb := by
  rcases enterIdle_cases s with ⟨-, -, h⟩ | ⟨-, h⟩ <;> rw [h, arb_recompute]
  exact enterParkDelay_idleOnly s

theorem runoutEnd_idleOnly (s : State) : s.arb.idleOnly (runoutEnd s).arb := by
  unfold runoutEnd
  split
  · exact enterParkDelay_idleOnly s
  · rfl

@[simp] theorem rehomeTest_comp (s : State) : (rehomeTest s).comp = s.comp := by
  unfold rehomeTest
  split <;> rfl

@[simp] theorem enterParked_comp (s : State) : (enterParked s).comp = s.comp := by
  unfold enterParked
  rw [rehomeTest_comp]
  split <;> rfl

@[simp] theorem enterParkDelay_comp (s : State) : (enterParkDelay s).comp = s.comp := by
  unfold enterParkDelay
  dsimp only
  split
  · rw [enterParked_comp]
    rfl
  · rfl

@[simp] theorem runoutEnd_comp (s : State) : (runoutEnd s).comp = s.comp := by
  unfold runoutEnd
  split
  · exact enterParkDelay_comp s
  · rfl

theorem enterIdle_steady (s : State) : s.comp.steady (enterIdle s).comp := by
  rcases enterIdle_cases s with ⟨-, -, h⟩ | ⟨-, h⟩ <;> rw [h]
  · exact Compressor.steady.trans s.comp.steady_refl (recompute_steady { s with arb := _ })
  · refine Compressor.steady.trans ?_ (recompute_steady _)
    rw [enterParkDelay_comp]
    exact s.comp.steady_refl

/-! ## Arbitration -/

/-- What follows a grant's end: the winner of the selection is granted, or the arbiter goes idle (R79, R80). -/
theorem afterEnd_cases (s : State) :
    (∃ z r, (normalise s).selection none = some (z, r) ∧ afterEnd s = createGrant z r (normalise s)) ∨
      (normalise s).selection none = none ∧ afterEnd s = enterIdle (normalise s) := by
  unfold afterEnd
  cases h : (normalise s).selection none with
  | none => exact .inr ⟨rfl, by simp only [h]⟩
  | some w => exact .inl ⟨w.1, w.2, rfl, by simp only [h]⟩

/-- What an event brings without a grant in RUN: the winner of the selection, or the idle sub-state's own moves (R63). -/
theorem noGrant_cases (s : State) :
    (∃ z r, (normalise s).selection none = some (z, r) ∧ noGrant s = createGrant z r (normalise s)) ∨
      (normalise s).selection none = none ∧ noGrant s = rehomeTest (runoutEnd s) := by
  unfold noGrant
  cases h : (normalise s).selection none with
  | none => exact .inr ⟨rfl, by simp only [h]⟩
  | some w => exact .inl ⟨w.1, w.2, rfl, by simp only [h]⟩

/-- What an event brings a grant that exists: its end, a preemption, or the continuation mark alone (R68, R72 to R74). -/
theorem heldGrant_cases (g : Grant) (s : State) :
    (∃ r, s.endCause g = some r ∧ heldGrant g s = afterEnd (endGrant r s)) ∨
      s.endCause g = none ∧
        ((∃ z r, (markContinuation s).preemptor g = some (z, r) ∧ g.preemptable = true ∧
            heldGrant g s = createGrant z r (normalise (endGrant .preempted (markContinuation s)))) ∨
          ((markContinuation s).preemptor g = none ∨ g.preemptable = false) ∧ heldGrant g s = markContinuation s) := by
  unfold heldGrant
  cases hend : s.endCause g with
  | some r => exact .inl ⟨r, rfl, rfl⟩
  | none =>
    refine .inr ⟨rfl, ?_⟩
    dsimp only
    cases hpre : (markContinuation s).preemptor g with
    | none => exact .inr ⟨.inl rfl, rfl⟩
    | some w =>
      cases hable : g.preemptable with
      | true => exact .inl ⟨w.1, w.2, rfl, rfl, rfl⟩
      | false => exact .inr ⟨.inr rfl, rfl⟩

/-- The arbitration decides in RUN, by whether a grant exists, and keeps the list alone elsewhere (R56, R63). -/
theorem arbitrate_run_some {s : State} {g : Grant} (hmode : s.mode.opState = .run) (hgrant : s.arb.grant = some g) :
    arbitrate s = heldGrant g (relist s) := by
  unfold arbitrate
  have hmode' : (relist s).mode.opState = .run := hmode
  have hgrant' : (relist s).arb.grant = some g := hgrant
  simp only [hmode', hgrant']

theorem arbitrate_run_none {s : State} (hmode : s.mode.opState = .run) (hgrant : s.arb.grant = none) :
    arbitrate s = noGrant (relist s) := by
  unfold arbitrate
  have hmode' : (relist s).mode.opState = .run := hmode
  have hgrant' : (relist s).arb.grant = none := hgrant
  simp only [hmode', hgrant']

theorem arbitrate_not_run {s : State} (hmode : s.mode.opState ≠ .run) : arbitrate s = relist s := by
  unfold arbitrate
  have hmode' : (relist s).mode.opState ≠ .run := hmode
  dsimp only
  split
  · exact absurd ‹_› hmode'
  · rfl

theorem afterEnd_steady (s : State) : s.comp.steady (afterEnd s).comp := by
  have hnormalised : s.comp.steady (normalise s).comp := by
    rw [normalise_comp]
    exact s.comp.steady_refl
  rcases afterEnd_cases s with ⟨z, r, -, h⟩ | ⟨-, h⟩ <;> rw [h]
  · exact hnormalised.trans (createGrant_steady _ _ _)
  · exact hnormalised.trans (enterIdle_steady _)

theorem heldGrant_steady (g : Grant) (s : State) : s.comp.steady (heldGrant g s).comp := by
  rcases heldGrant_cases g s with ⟨r, -, h⟩ | ⟨-, ⟨z, r, -, -, h⟩ | ⟨-, h⟩⟩ <;> rw [h]
  · have hafter := afterEnd_steady (endGrant r s)
    rwa [endGrant_comp] at hafter
  · have hcreated := createGrant_steady z r (normalise (endGrant .preempted (markContinuation s)))
    rw [normalise_comp, endGrant_comp] at hcreated
    exact hcreated
  · exact s.comp.steady_refl

theorem noGrant_steady (s : State) : s.comp.steady (noGrant s).comp := by
  rcases noGrant_cases s with ⟨z, r, -, h⟩ | ⟨-, h⟩ <;> rw [h]
  · have hcreated := createGrant_steady z r (normalise s)
    rwa [normalise_comp] at hcreated
  · rw [rehomeTest_comp, runoutEnd_comp]
    exact s.comp.steady_refl

/-- The arbitration reaches the compressor by recomputations alone (R121). -/
theorem arbitrate_steady (s : State) : s.comp.steady (arbitrate s).comp := by
  by_cases hmode : s.mode.opState = .run
  · cases hgrant : s.arb.grant with
    | none =>
      rw [arbitrate_run_none hmode hgrant]
      exact noGrant_steady (relist s)
    | some g =>
      rw [arbitrate_run_some hmode hgrant]
      exact heldGrant_steady g (relist s)
  · rw [arbitrate_not_run hmode]
    exact s.comp.steady_refl

/-- The start of COOLING begins a grant's dwell times, or changes nothing (R70, R71). -/
theorem coolingStart_cases (s : State) :
    coolingStart s = s ∨
      ∃ g a, s.arb.grant = some g ∧ s.route.app = some a ∧ g.phase = .routing ∧ a.inPlace = true ∧
        s.commandedOn = true ∧
        coolingStart s =
          startPreChill g.zone
            (recompute
              { s with
                arb :=
                  { s.arb with
                    grant :=
                      some
                        { g with
                          phase := .cooling
                          minLeft := mins (s.settings.timing.get g.zone).minDwell
                          maxLeft := mins (s.settings.timing.get g.zone).maxDwell
                          startTemp := (s.sensing.air.get g.zone).filtered } } }) := by
  unfold coolingStart
  split
  · rename_i g a hgrant happ
    split
    · rename_i h
      simp only [Bool.and_eq_true, decide_eq_true_eq] at h
      obtain ⟨⟨hphase, hplace⟩, hon⟩ := h
      exact .inr ⟨g, a, hgrant, happ, hphase, hplace, hon, rfl⟩
    · exact .inl rfl
  · exact .inl rfl

end Sys2Proof.Machine
end

section
/-!
PROOFS. The selection (R64), and how grants, the claim and the DEFROST hold of FREEZE go together: what every operation of the
reaction keeps of them (R55, R65, R69, R141).
-/
namespace Sys2Proof.Machine

/-! ## The selection (R64) -/

theorem State.waitingSelectable_iff (s : State) (z : Zone) :
    s.waitingSelectable z = true ↔ s.onList z = true ∧ s.selectable z = true := by
  simp [State.waitingSelectable]

/-- The walking order holds the members of the ring, wherever it begins. -/
theorem mem_walkFrom {α : Type} [DecidableEq α] (ring : List α) (last : Option α) (a : α) :
    a ∈ walkFrom ring last ↔ a ∈ ring := by
  cases last with
  | none => rfl
  | some p =>
    have hsplit := List.takeWhile_append_dropWhile (p := fun t => decide (t ≠ p)) (l := ring)
    simp only [walkFrom, List.mem_append]
    constructor
    · rintro ((hafter | hbefore) | hlast)
      · rw [← hsplit]
        exact List.mem_append_right _ (List.mem_of_mem_drop hafter)
      · rw [← hsplit]
        exact List.mem_append_left _ hbefore
      · split at hlast
        · rename_i hmem
          rw [List.mem_singleton.mp hlast]
          exact List.contains_iff_mem.mp hmem
        · cases hlast
    · intro ha
      by_cases hp : a = p
      · exact .inr (by simp [hp ▸ ha, hp])
      · left
        rw [← hsplit] at ha
        rcases List.mem_append.mp ha with hbefore | hrest
        · exact .inr hbefore
        · left
          cases hdrop : ring.dropWhile fun t => decide (t ≠ p) with
          | nil =>
            rw [hdrop] at hrest
            cases hrest
          | cons b rest =>
            rw [hdrop] at hrest
            have hb : b = p := by
              have hhead := List.head?_dropWhile_not (fun t => decide (t ≠ p)) ring
              rw [hdrop] at hhead
              simpa using hhead
            rcases List.mem_cons.mp hrest with rfl | htail
            · exact absurd hb hp
            · simpa using htail

/-- The zone that an entry of the first-level ring gives way to. -/
def State.turnWinner (s : State) : Turn → Option Zone
  | .zone z => if s.waitingSelectable z then some z else none
  | .group => (walkFrom s.ring2 s.arb.p2).find? fun z => s.waitingSelectable z

theorem State.rotation_eq (s : State) : s.rotation = (walkFrom s.ring1 s.arb.p1).findSome? s.turnWinner := rfl

theorem State.turnWinner_selectable {s : State} {t : Turn} {z : Zone} (h : s.turnWinner t = some z) :
    s.waitingSelectable z = true := by
  cases t with
  | zone y =>
    simp only [State.turnWinner] at h
    split at h
    · obtain rfl := Option.some.inj h
      assumption
    · cases h
  | group => exact List.find?_some h

/-- The rotation names a selectable waiting zone. -/
theorem State.rotation_selectable {s : State} {z : Zone} (h : s.rotation = some z) : s.waitingSelectable z = true := by
  rw [State.rotation_eq] at h
  obtain ⟨t, -, ht⟩ := List.exists_of_findSome?_eq_some h
  exact State.turnWinner_selectable ht

/-- Every zone stands in one of the rings, so the rotation finds one where one is selectable. -/
theorem State.rotation_none_iff (s : State) : s.rotation = none ↔ ∀ z, s.waitingSelectable z = false := by
  constructor
  · intro h z
    rw [State.rotation_eq, List.findSome?_eq_none_iff] at h
    by_contra hne
    have hz : s.waitingSelectable z = true := by simpa using hne
    cases hlevel : s.settings.level.get z with
    | l1 =>
      have hmem : Turn.zone z ∈ walkFrom s.ring1 s.arb.p1 := by
        rw [mem_walkFrom]
        simp [State.ring1, mem_allZones, hlevel]
      have hnone := h _ hmem
      simp [State.turnWinner, hz] at hnone
    | group =>
      have hring : z ∈ s.ring2 := by simp [State.ring2, mem_allZones, hlevel]
      have hmem : Turn.group ∈ walkFrom s.ring1 s.arb.p1 := by
        rw [mem_walkFrom]
        have hne : s.ring2.isEmpty = false := by
          cases hcases : s.ring2 with
          | nil => simp [hcases] at hring
          | cons => rfl
        simp [State.ring1, hne]
      have hnone := List.find?_eq_none.mp (h _ hmem) z ((mem_walkFrom _ _ _).mpr hring)
      exact hnone hz
  · intro h
    cases hrotation : s.rotation with
    | none => rfl
    | some z =>
      have hz := State.rotation_selectable hrotation
      rw [h z] at hz
      cases hz

/-- What a selection says of its winner: a candidate, RECOVERY for a placed claim on FREEZE alone, and, where it is not, no
claim that a candidate could be granted for, nor, for the aged and the rotation, a forced zone that is a candidate. -/
theorem State.selection_spec {s : State} {holder : Option Zone} {z : Zone} {r : GrantReason}
    (h : s.selection holder = some (z, r)) :
    s.candidate holder z = true ∧
      (r = .recovery ∧ z = .freeze ∧ s.arb.claim = true ∨
        r ≠ .recovery ∧ (s.arb.claim = true → s.candidate holder .freeze = false) ∧
          ((∃ f, s.arb.forced = some f ∧ f.zone = z ∧ r = .forced) ∨
            (r = .aged ∨ r = .rotation) ∧ s.waitingSelectable z = true ∧
              ∀ f, s.arb.forced = some f → s.candidate holder f.zone = false)) := by
  unfold State.selection at h
  split at h
  · rename_i hclaim
    rw [Bool.and_eq_true] at hclaim
    obtain ⟨rfl, rfl⟩ := Prod.mk.inj (Option.some.inj h)
    exact ⟨hclaim.2, .inl ⟨rfl, rfl, hclaim.1⟩⟩
  · rename_i hclaim
    have hnoclaim : s.arb.claim = true → s.candidate holder .freeze = false := fun hc => by simpa [hc] using hclaim
    split at h
    · rename_i y hforced
      obtain ⟨rfl, rfl⟩ := Prod.mk.inj (Option.some.inj h)
      obtain ⟨f, hf, hy⟩ := Option.bind_eq_some_iff.mp hforced
      split at hy
      · rename_i hcandidate
        obtain rfl := Option.some.inj hy
        exact ⟨hcandidate, .inr ⟨by simp, hnoclaim, .inl ⟨f, hf, rfl, rfl⟩⟩⟩
      · cases hy
    · rename_i hforced
      have hnoforced : ∀ f, s.arb.forced = some f → s.candidate holder f.zone = false := by
        intro f hf
        rw [hf] at hforced
        simpa using hforced
      split at h
      · rename_i w hw
        obtain ⟨rfl, rfl⟩ := Prod.mk.inj (Option.some.inj h)
        have hsatisfied := List.find?_some hw
        rw [Bool.and_eq_true] at hsatisfied
        have hwaits : s.waitingSelectable w.zone = true :=
          (s.waitingSelectable_iff _).mpr ⟨(s.onList_iff _).mpr ⟨w, List.mem_of_find?_eq_some hw, rfl⟩, hsatisfied.2⟩
        exact ⟨by simp [State.candidate, hwaits], .inr ⟨by simp, hnoclaim, .inr ⟨.inl rfl, hwaits, hnoforced⟩⟩⟩
      · obtain ⟨y, hy, hpair⟩ := Option.map_eq_some_iff.mp h
        obtain ⟨rfl, rfl⟩ := Prod.mk.inj hpair
        have hwaits := State.rotation_selectable hy
        exact ⟨by simp [State.candidate, hwaits], .inr ⟨by simp, hnoclaim, .inr ⟨.inr rfl, hwaits, hnoforced⟩⟩⟩

theorem State.candidate_none (s : State) (z : Zone) : s.candidate none z = s.waitingSelectable z := by
  simp [State.candidate]

/-- A candidate meets the terms of R59. -/
theorem State.selectable_of_candidate {s : State} {holder : Option Zone} {z : Zone} (h : s.candidate holder z = true) :
    s.selectable z = true := by
  simp only [State.candidate, State.waitingSelectable, Bool.or_eq_true, Bool.and_eq_true] at h
  rcases h with h | h
  · exact h.2
  · exact h.2

/-- Among waiting zones the selection finds a winner exactly where one of them is selectable (R63, R64). -/
theorem State.selection_none_iff (s : State) : s.selection none = none ↔ ∀ z, s.waitingSelectable z = false := by
  constructor
  · intro h
    unfold State.selection at h
    split at h
    · cases h
    · split at h
      · cases h
      · split at h
        · cases h
        · exact s.rotation_none_iff.mp (Option.map_eq_none_iff.mp h)
  · intro h
    cases hselection : s.selection none with
    | none => rfl
    | some w =>
      obtain ⟨hcandidate, -⟩ := State.selection_spec hselection
      rw [State.candidate_none, h] at hcandidate
      cases hcandidate

/-- What a preemption says of its winner (R68). -/
theorem State.preemptor_spec {s : State} {g : Grant} {z : Zone} {r : GrantReason} (h : s.preemptor g = some (z, r)) :
    s.waitingSelectable z = true ∧ z ≠ g.zone ∧
      (r = .recovery ∧ z = .freeze ∧ s.arb.claim = true ∨
        r = .forced ∧ (∃ f, s.arb.forced = some f ∧ f.zone = z) ∧
          (s.arb.claim = true → s.waitingSelectable .freeze = true → g.zone = .freeze)) := by
  unfold State.preemptor at h
  split at h
  · rename_i hclaim
    simp only [Bool.and_eq_true, decide_eq_true_eq] at hclaim
    obtain ⟨rfl, rfl⟩ := Prod.mk.inj (Option.some.inj h)
    exact ⟨hclaim.1.2, fun he => hclaim.2 he.symm, .inl ⟨rfl, rfl, hclaim.1.1⟩⟩
  · rename_i hclaim
    split at h
    · rename_i f hf
      split at h
      · rename_i hforced
        simp only [Bool.and_eq_true, decide_eq_true_eq] at hforced
        obtain ⟨rfl, rfl⟩ := Prod.mk.inj (Option.some.inj h)
        exact ⟨hforced.1.1, hforced.1.2, .inr ⟨rfl, ⟨f, hf, rfl⟩, fun hc hw => by simpa [hc, hw] using hclaim⟩⟩
      · cases h
    · cases h

/-! ## Grants, the claim and the hold of FREEZE -/

/-- `t` follows `s` without a decision that R55, R65 or R69 forbids: operating state, defrost phase and the hold of FREEZE
stand, a claim is not placed, a grant appears in RUN alone, and one of FREEZE only without its hold and with no claim left. -/
abbrev State.grantsFollow (s t : State) : Prop :=
  t.mode.opState = s.mode.opState ∧ t.defrost.phase = s.defrost.phase ∧
    t.zones.freeze.holdDefrost = s.zones.freeze.holdDefrost ∧ (t.arb.claim = true → s.arb.claim = true) ∧
    (t.arb.grant.isSome = true → s.arb.grant.isSome = true ∨ s.mode.opState = .run) ∧
    ∀ g, t.arb.grant = some g → g.zone = .freeze →
      (∃ h, s.arb.grant = some h ∧ h.zone = .freeze) ∨ s.zones.freeze.holdDefrost = false ∧ t.arb.claim = false

theorem State.grantsFollow_refl (s : State) : s.grantsFollow s :=
  ⟨rfl, rfl, rfl, id, .inl, fun g hg hz => .inl ⟨g, hg, hz⟩⟩

/-- Where the arbiter's record stands, nothing of it changes. -/
theorem State.grantsFollow_of_arb {s t : State} (harb : t.arb = s.arb) (hmode : t.mode.opState = s.mode.opState)
    (hphase : t.defrost.phase = s.defrost.phase) (hhold : t.zones.freeze.holdDefrost = s.zones.freeze.holdDefrost) :
    s.grantsFollow t := by
  refine ⟨hmode, hphase, hhold, ?_⟩
  rw [harb]
  exact ⟨id, .inl, fun g hg hz => .inl ⟨g, hg, hz⟩⟩

/-- The arbiter, the route and the compressor controller touch neither mode, phase nor holds. -/
theorem ArcOnly.grantsFollow {s t : State} (h : ArcOnly s t) (hclaim : t.arb.claim = true → s.arb.claim = true)
    (hgrant : t.arb.grant.isSome = true → s.arb.grant.isSome = true ∨ s.mode.opState = .run)
    (hfreeze : ∀ g, t.arb.grant = some g → g.zone = .freeze →
      (∃ h, s.arb.grant = some h ∧ h.zone = .freeze) ∨ s.zones.freeze.holdDefrost = false ∧ t.arb.claim = false) :
    s.grantsFollow t :=
  ⟨by rw [h.mode], by rw [h.defrost], by rw [h.zones], hclaim, hgrant, hfreeze⟩

theorem State.grantsFollow.trans {s t u : State} (h : s.grantsFollow t) (k : t.grantsFollow u) : s.grantsFollow u := by
  obtain ⟨hmode, hphase, hhold, hclaim, hgrant, hfreeze⟩ := h
  obtain ⟨kmode, kphase, khold, kclaim, kgrant, kfreeze⟩ := k
  refine ⟨kmode.trans hmode, kphase.trans hphase, khold.trans hhold, fun h => hclaim (kclaim h), fun h => ?_,
    fun g hg hz => ?_⟩
  · rcases kgrant h with h | h
    · exact hgrant h
    · exact .inr (hmode ▸ h)
  · rcases kfreeze g hg hz with ⟨g', hg', hz'⟩ | ⟨hnohold, hnoclaim⟩
    · rcases hfreeze g' hg' hz' with h | ⟨hnohold, hnoclaim⟩
      · exact .inl h
      · refine .inr ⟨hnohold, ?_⟩
        by_contra hc
        rw [kclaim (by simpa using hc)] at hnoclaim
        cases hnoclaim
    · exact .inr ⟨hhold ▸ hnohold, hnoclaim⟩

theorem State.grantsFollow.grantInRun {s t : State} (h : s.grantsFollow t) (hs : s.grantInRun) : t.grantInRun := by
  obtain ⟨hmode, -, -, -, hgrant, -⟩ := h
  intro hsome
  rw [hmode]
  rcases hgrant hsome with h | h
  · exact hs h
  · exact h

theorem State.grantsFollow.claimRule {s t : State} (h : s.grantsFollow t) (hs : s.claimRule) : t.claimRule := by
  obtain ⟨-, hphase, hhold, hclaim, -, hfreeze⟩ := h
  obtain ⟨hheld, hgrants⟩ := hs
  refine ⟨by rw [hphase, hhold]; exact hheld, fun g hg hz => ?_⟩
  rw [hhold]
  rcases hfreeze g hg hz with ⟨g', hg', hz'⟩ | h
  · obtain ⟨hnohold, hnoclaim⟩ := hgrants g' hg' hz'
    refine ⟨hnohold, ?_⟩
    by_contra hc
    rw [hclaim (by simpa using hc)] at hnoclaim
    cases hnoclaim
  · exact h

/-! ## The operations -/

/-- A selectable zone is not held. -/
theorem State.not_held_of_selectable {s : State} {z : Zone} (h : s.selectable z = true) : s.held z = false := by
  simp only [State.selectable, State.zoneSelectable, Bool.and_eq_true, Bool.not_eq_true'] at h
  exact h.1.1.1.2

/-- A grant is created in RUN, or where one was, and for FREEZE only without its hold and with no claim left. -/
theorem createGrant_grantsFollow {s t : State} {z : Zone} {r : GrantReason} (h : s.grantsFollow t)
    (hrun : s.arb.grant.isSome = true ∨ s.mode.opState = .run) (hheld : t.held z = false)
    (hclaim : z = .freeze → r ≠ .recovery → t.arb.claim = false) : s.grantsFollow (createGrant z r t) := by
  obtain ⟨hmode, hphase, hhold, hplaced, -, -⟩ := h
  have harc := createGrant_arc z r t
  refine ⟨by rw [harc.mode, hmode], by rw [harc.defrost, hphase], by rw [harc.zones, hhold], fun hc => hplaced ?_,
    fun _ => hrun, fun g hg hz => .inr ?_⟩
  · rw [createGrant_arb] at hc
    by_cases hr : r = .recovery
    · simp [hr] at hc
    · simpa [hr] using hc
  · rw [(createGrant_grant z r t).1] at hg
    obtain rfl := Option.some.inj hg
    have hz' : z = .freeze := hz
    subst hz'
    simp only [State.held, Bool.or_eq_false_iff] at hheld
    refine ⟨hhold ▸ hheld.1, ?_⟩
    rw [createGrant_arb]
    by_cases hr : r = .recovery
    · simp [hr]
    · simpa [hr] using hclaim rfl hr

/-- Where a selection names FREEZE for another reason than the claim, none is placed (R64). -/
theorem State.no_claim_of_selection {s : State} {holder : Option Zone} {r : GrantReason}
    (h : s.selection holder = some (.freeze, r)) (hr : r ≠ .recovery) : s.arb.claim = false := by
  obtain ⟨hcandidate, ⟨hr', -⟩ | ⟨-, hclaim, -⟩⟩ := State.selection_spec h
  · exact absurd hr' hr
  · by_contra hc
    rw [hcandidate] at hclaim
    exact absurd (hclaim (by simpa using hc)) (by simp)

/-- The winner of a selection is granted as R65 and R69 have it. -/
theorem createGrant_of_selection {s t : State} {holder : Option Zone} {z : Zone} {r : GrantReason} (h : s.grantsFollow t)
    (hrun : s.arb.grant.isSome = true ∨ s.mode.opState = .run) (hselection : t.selection holder = some (z, r)) :
    s.grantsFollow (createGrant z r t) := by
  obtain ⟨hcandidate, -⟩ := State.selection_spec hselection
  refine createGrant_grantsFollow h hrun (State.not_held_of_selectable (State.selectable_of_candidate hcandidate))
    fun hz hr => ?_
  subst hz
  exact State.no_claim_of_selection hselection hr

theorem normalise_grantsFollow (s : State) : s.grantsFollow (normalise s) := by
  refine (normalise_arc s).grantsFollow ?_ ?_ ?_
  · rw [normalise_claim]
    exact id
  · rw [normalise_grant]
    exact .inl
  · rw [normalise_grant]
    exact fun g hg hz => .inl ⟨g, hg, hz⟩

/-- After an end no grant exists; the claim stands. -/
theorem endGrant_grantsFollow (r : EndReason) (s : State) : s.grantsFollow (endGrant r s) := by
  refine (endGrant_arc r s).grantsFollow ?_ ?_ ?_
  · rw [endGrant_claim]
    exact id
  · simp
  · simp

theorem Arbiter.idleOnly.grantsFollow {s t : State} (hidle : s.arb.idleOnly t.arb) (harc : ArcOnly s t) :
    s.grantsFollow t := by
  refine harc.grantsFollow ?_ ?_ ?_
  · rw [hidle.claim]
    exact id
  · rw [hidle.grant]
    exact .inl
  · rw [hidle.grant]
    exact fun g hg hz => .inl ⟨g, hg, hz⟩

theorem afterEnd_grantsFollow {s t : State} (h : s.grantsFollow t)
    (hrun : s.arb.grant.isSome = true ∨ s.mode.opState = .run) : s.grantsFollow (afterEnd t) := by
  have hnormalised := h.trans (normalise_grantsFollow t)
  rcases afterEnd_cases t with ⟨z, r, hwinner, hafter⟩ | ⟨-, hafter⟩ <;> rw [hafter]
  · exact createGrant_of_selection hnormalised hrun hwinner
  · exact hnormalised.trans ((enterIdle_idleOnly _).grantsFollow (enterIdle_arc _))

/-- The grant's record is replaced by one for the same zone. -/
theorem mapGrant_grantsFollow (s : State) {f : Grant → Grant} (hzone : ∀ g, (f g).zone = g.zone) :
    s.grantsFollow (s.mapGrant f) := by
  refine ArcOnly.grantsFollow (t := s.mapGrant f) rfl id ?_ ?_
  · rw [State.mapGrant_grant, Option.isSome_map]
    exact .inl
  · intro g hg hz
    obtain ⟨h, hh, rfl⟩ := Option.map_eq_some_iff.mp hg
    exact .inl ⟨h, hh, (hzone h).symm.trans hz⟩

theorem heldGrant_grantsFollow {s : State} (g : Grant) (hrun : s.mode.opState = .run) :
    s.grantsFollow (heldGrant g s) := by
  rcases heldGrant_cases g s with ⟨r, -, h⟩ | ⟨-, ⟨z, r, hwinner, -, h⟩ | ⟨-, h⟩⟩ <;> rw [h]
  · exact afterEnd_grantsFollow (endGrant_grantsFollow r s) (.inr hrun)
  · have hmarked : s.grantsFollow (markContinuation s) := mapGrant_grantsFollow s fun _ => rfl
    have harc : ArcOnly (markContinuation s) (normalise (endGrant .preempted (markContinuation s))) :=
      (endGrant_arc _ _).trans (normalise_arc _)
    obtain ⟨hwaits, hne, hreason⟩ := State.preemptor_spec hwinner
    have hselectable := ((markContinuation s).waitingSelectable_iff z).mp hwaits |>.2
    refine createGrant_grantsFollow ((hmarked.trans (endGrant_grantsFollow .preempted _)).trans (normalise_grantsFollow _))
      (.inr hrun) ?_ fun hz hr => ?_
    · rw [harc.held]
      exact State.not_held_of_selectable hselectable
    · rw [normalise_claim, endGrant_claim]
      rcases hreason with ⟨hr', -⟩ | ⟨-, -, hclaim⟩
      · exact absurd hr' hr
      · subst hz
        by_contra hc
        exact hne (hclaim (by simpa using hc) hwaits).symm
  · exact mapGrant_grantsFollow s fun _ => rfl

theorem noGrant_grantsFollow {s : State} (hrun : s.mode.opState = .run) : s.grantsFollow (noGrant s) := by
  rcases noGrant_cases s with ⟨z, r, hwinner, h⟩ | ⟨-, h⟩ <;> rw [h]
  · exact createGrant_of_selection (normalise_grantsFollow s) (.inr hrun) hwinner
  · exact ((runoutEnd_idleOnly s).grantsFollow (runoutEnd_arc s)).trans
      ((rehomeTest_idleOnly _).grantsFollow (rehomeTest_arc _))

theorem arbitrate_grantsFollow (s : State) : s.grantsFollow (arbitrate s) := by
  have hlist : s.grantsFollow (relist s) := (relist_arc s).grantsFollow id .inl fun g hg hz => .inl ⟨g, hg, hz⟩
  by_cases hmode : s.mode.opState = .run
  · cases hgrant : s.arb.grant with
    | none =>
      rw [arbitrate_run_none hmode hgrant]
      exact hlist.trans (noGrant_grantsFollow hmode)
    | some g =>
      rw [arbitrate_run_some hmode hgrant]
      exact hlist.trans (heldGrant_grantsFollow g hmode)
  · rw [arbitrate_not_run hmode]
    exact hlist

theorem coolingStart_grantsFollow (s : State) : s.grantsFollow (coolingStart s) := by
  rcases coolingStart_cases s with h | ⟨g, a, hgrant, -, -, -, -, h⟩
  · rw [h]
    exact s.grantsFollow_refl
  · refine (coolingStart_arc s).grantsFollow ?_ ?_ ?_ <;> rw [h]
    · simp
    · simp [hgrant]
    · intro g' hg' hz
      simp only [startPreChill_arb, arb_recompute, Option.some.injEq] at hg'
      exact .inl ⟨g, hgrant, by rw [← hg'] at hz; exact hz⟩

theorem settle_grantsFollow (s : State) : s.grantsFollow (settle s) := by
  unfold settle
  refine State.grantsFollow.trans ?_ (coolingStart_grantsFollow _)
  refine State.grantsFollow.trans (t := compReact (kickValve (arbitrate s))) ?_ ?_
  · refine (arbitrate_grantsFollow s).trans ?_
    exact State.grantsFollow_of_arb (by simp) (by rw [(compReact_arc _).mode]; rfl)
      (by rw [(compReact_arc _).defrost]; rfl) (by rw [(compReact_arc _).zones]; rfl)
  · exact State.grantsFollow_of_arb (by simp) (by rw [(inPlaceTest_arc _).mode]) (by rw [(inPlaceTest_arc _).defrost])
      (by rw [(inPlaceTest_arc _).zones])

end Sys2Proof.Machine
end

section
/-!
PROOFS. The defrost controller's operations: what they leave (the arbiter but for the claim, the route, the compressor), and
R65, R69 and R141 through the reaction.
-/
namespace Sys2Proof.Machine

/-! ## The frame of the defrost controller -/

/-- `t` differs from `s` in the zone table, the claim and the defrost controller only. -/
abbrev DefrostOnly (s t : State) : Prop :=
  t = { s with zones := t.zones, arb := { s.arb with claim := t.arb.claim }, defrost := t.defrost }

theorem DefrostOnly.trans {s t u : State} (h : DefrostOnly s t) (k : DefrostOnly t u) : DefrostOnly s u := by
  unfold DefrostOnly at *
  rw [k, h]

section Fields

variable {s t : State} (h : DefrostOnly s t)
include h

theorem DefrostOnly.mode : t.mode = s.mode := by rw [h]
theorem DefrostOnly.strap : t.strap = s.strap := by rw [h]
theorem DefrostOnly.settings : t.settings = s.settings := by rw [h]
theorem DefrostOnly.sensing : t.sensing = s.sensing := by rw [h]
theorem DefrostOnly.doors : t.doors = s.doors := by rw [h]
theorem DefrostOnly.route : t.route = s.route := by rw [h]
theorem DefrostOnly.comp : t.comp = s.comp := by rw [h]
theorem DefrostOnly.bus : t.bus = s.bus := by rw [h]
theorem DefrostOnly.arb : t.arb = { s.arb with claim := t.arb.claim } := by rw [h]
theorem DefrostOnly.grant : t.arb.grant = s.arb.grant := by rw [h.arb]
theorem DefrostOnly.waiting : t.arb.waiting = s.arb.waiting := by rw [h.arb]

end Fields

theorem endDefrost_only (t : Termination) (th : Nat) (s : State) : DefrostOnly s (endDefrost t th s) := rfl

theorem holdDefrost_only (on : Bool) (s : State) : DefrostOnly s (holdDefrost on s) := rfl

theorem mapDefrost_only (s : State) (f : Defrost → Defrost) : DefrostOnly s (s.mapDefrost f) := rfl

theorem completeDefrost_only (s : State) : DefrostOnly s (completeDefrost s) := by
  unfold completeDefrost
  split <;> rfl

theorem fanReleaseTest_only (s : State) : DefrostOnly s (fanReleaseTest s) := by
  rcases fanReleaseTest_cases s with h | ⟨-, h⟩
  · rw [h]
  · exact h ▸ completeDefrost_only s

theorem enterRecover_only (s : State) : DefrostOnly s (enterRecover s) := by
  unfold enterRecover
  refine DefrostOnly.trans ?_ (fanReleaseTest_only _)
  dsimp only
  split <;> rfl

theorem endHeat_only (t : Termination) (s : State) : DefrostOnly s (endHeat t s) := by
  unfold endHeat
  dsimp only
  split
  · split
    · exact DefrostOnly.trans (by rfl) (enterRecover_only _)
    · rfl
  · rfl

theorem enterHeat_only (s : State) : DefrostOnly s (enterHeat s) := by
  unfold enterHeat
  dsimp only
  split
  · split
    · exact DefrostOnly.trans (by rfl) (endHeat_only _ _)
    · rfl
  · rfl

theorem pendingTest_only (s : State) : DefrostOnly s (pendingTest s) := by
  unfold pendingTest
  split
  · exact enterHeat_only s
  · rfl

theorem startDefrost_only (cause : DefrostCause) (s : State) : DefrostOnly s (startDefrost cause s) := rfl

/-- A minute changes the controller's record alone: the phase stands, or PENDING begins (R138, R139). -/
theorem minuteEvaluation_cases (s : State) :
    ∃ d : Defrost, (d.phase = s.defrost.phase ∨ d.phase = .pending) ∧ minuteEvaluation s = { s with defrost := d } := by
  unfold minuteEvaluation
  split
  · dsimp only
    split
    · exact ⟨_, .inr rfl, rfl⟩
    · refine ⟨_, ?_, rfl⟩
      exact .inl rfl
  · exact ⟨_, .inl rfl, rfl⟩

theorem minuteEvaluation_only (s : State) : DefrostOnly s (minuteEvaluation s) := by
  obtain ⟨d, -, h⟩ := minuteEvaluation_cases s
  rw [h]

theorem endDefrostAtOnce_only (s : State) : DefrostOnly s (endDefrostAtOnce s) := by
  unfold endDefrostAtOnce
  split <;> rfl

theorem defrostCoilValue_only (f : Int) (s : State) : DefrostOnly s (defrostCoilValue f s) := by
  unfold defrostCoilValue
  split
  · dsimp only
    split
    · split
      · exact DefrostOnly.trans (by rfl) (endHeat_only _ _)
      · rfl
    · rfl
  · rfl
  · exact DefrostOnly.trans (by rfl) (fanReleaseTest_only _)
  · rfl

theorem defrostCoilFault_only (s : State) : DefrostOnly s (defrostCoilFault s) := by
  unfold defrostCoilFault
  split
  · dsimp only
    split
    · exact DefrostOnly.trans (by rfl) (endHeat_only _ _)
    · rfl
  · rfl

/-- The defrost controller's operations touch neither the operating state nor the grant (R55). -/
theorem DefrostOnly.grantInRun {s t : State} (h : DefrostOnly s t) (hs : s.grantInRun) : t.grantInRun := by
  unfold State.grantInRun
  rw [h.grant, h.mode]
  exact hs

/-! ## The hold of FREEZE and the claim (R65, R69, R141) -/

@[simp] theorem State.present_freeze (s : State) : s.present .freeze = true := by
  unfold State.present
  cases s.strap.variant <;> rfl

/-- No grant of FREEZE exists. -/
abbrev State.noFreezeGrant (s : State) : Prop := ∀ g, s.arb.grant = some g → g.zone ≠ .freeze

theorem State.claimRule.noFreezeGrant {s : State} (h : s.claimRule)
    (hphase : s.defrost.phase = .heat ∨ s.defrost.phase = .drip) : s.noFreezeGrant := by
  obtain ⟨hheld, hgrants⟩ := h
  intro g hg hz
  have hnohold := (hgrants g hg hz).1
  rw [hheld hphase] at hnohold
  cases hnohold

/-- Outside HEAT and DRIP the rule speaks of a grant of FREEZE alone. -/
theorem State.claimRule_of_noFreezeGrant {s : State} (hno : s.noFreezeGrant)
    (hphase : s.defrost.phase = .heat ∨ s.defrost.phase = .drip → s.zones.freeze.holdDefrost = true) : s.claimRule :=
  ⟨hphase, fun g hg hz => absurd hz (hno g hg)⟩

theorem DefrostOnly.noFreezeGrant {s t : State} (h : DefrostOnly s t) (hs : s.noFreezeGrant) : t.noFreezeGrant := by
  unfold State.noFreezeGrant
  rw [h.grant]
  exact hs

/-- A phase other than HEAT and DRIP, with the grants as they are and no claim placed. -/
theorem claimRule_of_phase {s t : State} (hs : s.claimRule) (hphase : t.defrost.phase ≠ .heat ∧ t.defrost.phase ≠ .drip)
    (hgrant : t.arb.grant = s.arb.grant) (hhold : t.zones.freeze.holdDefrost = s.zones.freeze.holdDefrost)
    (hclaim : t.arb.claim = true → s.arb.claim = true) : t.claimRule := by
  refine ⟨fun h => absurd h (by simp [hphase]), fun g hg hz => ?_⟩
  rw [hgrant] at hg
  obtain ⟨hnohold, hnoclaim⟩ := hs.2 g hg hz
  refine ⟨hhold ▸ hnohold, ?_⟩
  by_contra hc
  rw [hclaim (by simpa using hc)] at hnoclaim
  cases hnoclaim

theorem endDefrost_claimRule {s : State} (hs : s.claimRule) (t : Termination) (th : Nat) :
    (endDefrost t th s).claimRule :=
  claimRule_of_phase hs (by simp [endDefrost]) rfl rfl (by simp [endDefrost])

theorem completeDefrost_claimRule {s : State} (hs : s.claimRule) : (completeDefrost s).claimRule := by
  unfold completeDefrost
  split
  · exact endDefrost_claimRule hs _ _
  · exact hs

theorem fanReleaseTest_claimRule {s : State} (hs : s.claimRule) : (fanReleaseTest s).claimRule := by
  rcases fanReleaseTest_cases s with h | ⟨-, h⟩ <;> rw [h]
  · exact hs
  · exact completeDefrost_claimRule hs

theorem enterRecover_claimRule {s : State} (hno : s.noFreezeGrant) : (enterRecover s).claimRule := by
  unfold enterRecover
  refine fanReleaseTest_claimRule ?_
  dsimp only
  split <;> exact State.claimRule_of_noFreezeGrant hno (by simp [holdDefrost])

theorem endHeat_claimRule {s : State} (hno : s.noFreezeGrant) (hheld : s.zones.freeze.holdDefrost = true)
    (t : Termination) : (endHeat t s).claimRule := by
  have hdrip : ∀ u : State, u.arb = s.arb → u.zones = s.zones → u.claimRule := by
    intro u harb hzones
    refine State.claimRule_of_noFreezeGrant ?_ fun _ => by rw [hzones, hheld]
    unfold State.noFreezeGrant
    rw [harb]
    exact hno
  unfold endHeat
  dsimp only
  split
  · split
    · exact enterRecover_claimRule hno
    · exact hdrip _ rfl rfl
  · exact hdrip _ rfl rfl

theorem holdDefrost_freeze (on : Bool) (s : State) : (holdDefrost on s).zones.freeze.holdDefrost = on := by
  have hpresent := s.present_freeze
  simp [holdDefrost, PerZone.map, Zone.fzOutlet, hpresent]

theorem enterHeat_claimRule {s : State} (hno : s.noFreezeGrant) : (enterHeat s).claimRule := by
  have hheld : ∀ f, (((holdDefrost true s).mapDefrost f).zones.freeze.holdDefrost = true) :=
    fun _ => holdDefrost_freeze true s
  have hheat : ∀ f, ((holdDefrost true s).mapDefrost f).claimRule := fun f =>
    State.claimRule_of_noFreezeGrant hno fun _ => hheld f
  unfold enterHeat
  dsimp only
  split
  · split
    · exact endHeat_claimRule (s := (holdDefrost true s).mapDefrost _) hno (hheld _) _
    · exact hheat _
  · exact hheat _

theorem pendingTest_claimRule {s : State} (hs : s.claimRule) : (pendingTest s).claimRule := by
  unfold pendingTest
  split
  · rename_i h
    simp only [Bool.and_eq_true, Bool.not_eq_true'] at h
    obtain ⟨⟨-, hgrant⟩, -⟩ := h
    refine enterHeat_claimRule fun g hg hz => ?_
    simp [State.fzGrant, hg, hz, Zone.fzOutlet] at hgrant
  · exact hs

theorem defrostCoilValue_claimRule {s : State} (hs : s.claimRule) (f : Int) : (defrostCoilValue f s).claimRule := by
  unfold defrostCoilValue
  split
  · rename_i hphase
    dsimp only
    split
    · split
      · exact endHeat_claimRule (s := s.mapContext _) (hs.noFreezeGrant (.inl hphase)) (hs.1 (.inl hphase)) _
      · exact hs
    · exact hs
  · exact hs
  · exact fanReleaseTest_claimRule hs
  · exact hs

theorem defrostCoilFault_claimRule {s : State} (hs : s.claimRule) : (defrostCoilFault s).claimRule := by
  unfold defrostCoilFault
  split
  · rename_i hphase _
    dsimp only
    split
    · exact endHeat_claimRule (s := s.mapContext _) (hs.noFreezeGrant (.inl hphase)) (hs.1 (.inl hphase)) _
    · exact hs
  · exact hs

/-- A minute leaves the phase IDLE or begins PENDING. -/
theorem minuteEvaluation_claimRule {s : State} (hs : s.claimRule) (hphase : s.defrost.phase = .idle) :
    (minuteEvaluation s).claimRule := by
  obtain ⟨d, hd, h⟩ := minuteEvaluation_cases s
  rw [h]
  refine claimRule_of_phase hs ?_ rfl rfl id
  rcases hd with hd | hd <;> simp [hd, hphase]

/-! ## The reaction -/

theorem initEnd_grantInRun {s : State} (hs : s.grantInRun) : (initEnd s).grantInRun := by
  unfold initEnd
  split
  · intro _
    rw [(normalise_arc _).mode]
  · exact hs

theorem initEnd_claimRule {s : State} (hs : s.claimRule) : (initEnd s).claimRule := by
  unfold initEnd
  split
  · exact (normalise_grantsFollow _).claimRule hs
  · exact hs

theorem reaction_grantInRun {s : State} (hs : s.grantInRun) : (reaction s).grantInRun :=
  (settle_grantsFollow _).grantInRun ((pendingTest_only _).grantInRun
    ((settle_grantsFollow _).grantInRun (initEnd_grantInRun hs)))

theorem reaction_claimRule {s : State} (hs : s.claimRule) : (reaction s).claimRule :=
  (settle_grantsFollow _).claimRule (pendingTest_claimRule ((settle_grantsFollow _).claimRule (initEnd_claimRule hs)))

theorem finish_grantInRun {s : State} (hs : s.grantInRun) : (finish s).grantInRun := by
  have hreaction := reaction_grantInRun hs
  unfold State.grantInRun
  rw [finish_eq, publish_arb, publish_mode]
  exact hreaction

theorem finish_claimRule {s : State} (hs : s.claimRule) : (finish s).claimRule := by
  have hreaction := reaction_claimRule hs
  unfold State.claimRule
  rw [finish_eq, publish_arb, publish_zones, publish_phase]
  exact hreaction

end Sys2Proof.Machine
end

section
/-!
PROOFS. R55, R65, R69 and R141 through every command: each direct effect leaves the grants, the claim and the hold of FREEZE
as the rules have them, or belongs to the defrost controller or to SERVICE.
-/
namespace Sys2Proof.Machine

/-- `t` keeps the two rules that `s` meets: a grant in RUN alone, and none of FREEZE beside its hold or a claim. -/
abbrev State.rulesFollow (s t : State) : Prop := (s.grantInRun → t.grantInRun) ∧ (s.claimRule → t.claimRule)

theorem State.rulesFollow.trans {s t u : State} (h : s.rulesFollow t) (k : t.rulesFollow u) : s.rulesFollow u :=
  ⟨fun hs => k.1 (h.1 hs), fun hs => k.2 (h.2 hs)⟩

theorem State.grantsFollow.rules {s t : State} (h : s.grantsFollow t) : s.rulesFollow t :=
  ⟨fun hs => h.grantInRun hs, fun hs => h.claimRule hs⟩

theorem DefrostOnly.rules {s t : State} (h : DefrostOnly s t) (hclaim : s.claimRule → t.claimRule) : s.rulesFollow t :=
  ⟨fun hs => h.grantInRun hs, hclaim⟩

theorem State.rulesFollow.ite {s t u : State} {c : Prop} [Decidable c] (ht : c → s.rulesFollow t)
    (hu : ¬c → s.rulesFollow u) : s.rulesFollow (if c then t else u) := by
  split
  · exact ht ‹_›
  · exact hu ‹_›

/-- A change that leaves the arbiter, mode control, the defrost phase and the hold of FREEZE leaves both rules. -/
theorem State.rulesFollow_of_arb {s t : State} (harb : t.arb = s.arb) (hmode : t.mode.opState = s.mode.opState)
    (hphase : t.defrost.phase = s.defrost.phase) (hhold : t.zones.freeze.holdDefrost = s.zones.freeze.holdDefrost) :
    s.rulesFollow t :=
  (State.grantsFollow_of_arb harb hmode hphase hhold).rules

/-! ## Zone table and sensing -/

/-- The hold of FREEZE stands under a change of a zone record that leaves the DEFROST hold. -/
theorem mapZone_freezeHold (s : State) (z : Zone) {f : ZoneRec → ZoneRec} (hf : ∀ r, (f r).holdDefrost = r.holdDefrost) :
    (s.mapZone z f).zones.freeze.holdDefrost = s.zones.freeze.holdDefrost := by
  cases z with
  | freeze => exact hf s.zones.freeze
  | _ => rfl

theorem mapZone_rules (s : State) (z : Zone) {f : ZoneRec → ZoneRec} (hf : ∀ r, (f r).holdDefrost = r.holdDefrost) :
    s.rulesFollow (s.mapZone z f) :=
  State.rulesFollow_of_arb rfl rfl rfl (mapZone_freezeHold s z hf)

theorem setDemand_rules (z : Zone) (d : Demand) (level : Nat) (s : State) : s.rulesFollow (setDemand z d level s) := by
  have hhold := mapZone_freezeHold s z (f := fun r => { r with demand := d, level := level }) fun _ => rfl
  unfold setDemand
  dsimp only
  split <;> exact State.rulesFollow_of_arb rfl rfl rfl hhold

theorem evaluate_rules (z : Zone) (t : Int) (s : State) : s.rulesFollow (evaluate z t s) := setDemand_rules _ _ _ s

theorem evaluateNow_rules (z : Zone) (s : State) : s.rulesFollow (evaluateNow z s) := by
  unfold evaluateNow
  split
  · exact .ite (fun _ => evaluate_rules z _ s) fun _ => s.grantsFollow_refl.rules
  · exact s.grantsFollow_refl.rules

theorem enterBlindPhase_rules (z : Zone) (phase : Demand) (s : State) : s.rulesFollow (enterBlindPhase z phase s) :=
  (mapZone_rules s z (f := fun r => { r with blind := some ⟨phase, sec (blindSecs z phase)⟩ }) fun _ => rfl).trans
    (setDemand_rules z phase _ _)

theorem warmCompare_rules (z : Zone) (t : Int) (s : State) : s.rulesFollow (warmCompare z t s) := by
  unfold warmCompare
  dsimp only
  refine .ite (fun _ => mapZone_rules s z fun r => ?_) fun _ => s.grantsFollow_refl.rules
  split
  · rfl
  · split <;> rfl

theorem preChillCompare_rules (f : EvapFan) (s : State) : s.rulesFollow (preChillCompare f s) := by
  rcases preChillCompare_cases f s with h | h <;> rw [h]
  · exact s.grantsFollow_refl.rules
  · exact State.rulesFollow_of_arb rfl rfl rfl rfl

theorem deliverValue_rules (ch : Channel) (f : Int) (s : State) : s.rulesFollow (deliverValue ch f s) := by
  cases ch with
  | air z => exact ((evaluate_rules z f s).trans (warmCompare_rules z f _)).trans (preChillCompare_rules _ _)
  | frCoil => exact preChillCompare_rules _ s
  | fzCoil =>
    exact (preChillCompare_rules _ s).trans
      ((defrostCoilValue_only f _).rules fun hs => defrostCoilValue_claimRule hs f)
  | ambient => exact s.grantsFollow_refl.rules

theorem deliver_rules (ch : Channel) (d : Delivery) (s : State) : s.rulesFollow (deliver ch d s) := by
  cases d with
  | nothing => exact s.grantsFollow_refl.rules
  | value f => exact deliverValue_rules ch f s
  | fault =>
    cases ch with
    | air z => exact (enterBlindPhase_rules z .calling s).trans (mapZone_rules _ z fun _ => rfl)
    | fzCoil => exact (defrostCoilFault_only s).rules defrostCoilFault_claimRule
    | frCoil => exact s.grantsFollow_refl.rules
    | ambient => exact s.grantsFollow_refl.rules
  | recovery f =>
    cases ch with
    | air z =>
      exact (mapZone_rules s z (f := fun r => { r with blind := none }) fun _ => rfl).trans (deliverValue_rules (.air z) f _)
    | frCoil => exact deliverValue_rules .frCoil f s
    | fzCoil => exact deliverValue_rules .fzCoil f s
    | ambient => exact deliverValue_rules .ambient f s

/-! ## Arbiter and route -/

/-- MAX_DWELL hands the compressor on, or back to the holder (R76). -/
theorem maxDwellEnd_rules {s : State} {g : Grant} (hgrant : s.arb.grant = some g) : s.rulesFollow (maxDwellEnd g s) := by
  have hchecked : s.grantsFollow (noProgressCheck g s) ∧ (noProgressCheck g s).arb = s.arb := by
    have hsame : ∀ f : ZoneRec → ZoneRec, (∀ r, (f r).holdDefrost = r.holdDefrost) →
        s.grantsFollow (s.mapZone g.zone f) := fun f hf =>
      State.grantsFollow_of_arb rfl rfl rfl (mapZone_freezeHold s g.zone hf)
    unfold noProgressCheck
    split
    · split
      · exact ⟨s.grantsFollow_refl, rfl⟩
      · refine ⟨hsame _ fun r => ?_, rfl⟩
        split
        · split <;> rfl
        · rfl
    · exact ⟨s.grantsFollow_refl, rfl⟩
  have htest := hchecked.1.trans (normalise_grantsFollow _)
  have hheld : (normalise (noProgressCheck g s)).arb.grant = some g := by rw [normalise_grant, hchecked.2, hgrant]
  have hregrant : ∀ t : State, t.arb.grant = some g → t.grantsFollow (regrant g.zone t) := by
    intro t ht
    refine (regrant_arc g.zone t).grantsFollow ?_ ?_ ?_
    · unfold regrant
      rw [arb_recompute, movePointers_eq]
      exact id
    · simp [ht]
    · intro g' hg' hz
      unfold regrant at hg'
      rw [arb_recompute] at hg'
      obtain rfl := Option.some.inj hg'
      exact .inl ⟨g, ht, hz⟩
  refine htest.rules.trans ?_
  unfold maxDwellEnd
  dsimp only
  split
  · rename_i z r hselection
    split
    · rename_i hz
      subst hz
      exact (hregrant _ hheld).rules
    · obtain ⟨hcandidate, -⟩ := State.selection_spec hselection
      refine (createGrant_grantsFollow (endGrant_grantsFollow .maxDwell _) (.inl (by rw [hheld]; rfl)) ?_
        fun hz hr => ?_).rules
      · rw [(endGrant_arc _ _).held]
        exact State.not_held_of_selectable (State.selectable_of_candidate hcandidate)
      · subst hz
        rw [endGrant_claim]
        exact State.no_claim_of_selection hselection hr
  · split
    · exact (hregrant _ hheld).rules
    · exact ((endGrant_grantsFollow _ _).trans ((enterIdle_idleOnly _).grantsFollow (enterIdle_arc _))).rules

/-- A route fault ends a grant and selects anew (R104). -/
theorem routeFault_rules (s : State) : s.rulesFollow (routeFault s) := by
  unfold routeFault
  exact .ite (fun hsome => (afterEnd_grantsFollow (endGrant_grantsFollow .routeFault s) (.inl hsome)).rules)
    fun _ => s.grantsFollow_refl.rules

/-- After the drive the valve's target, the route and REHOME alone change (R98, R99). -/
theorem afterDrive_rules (s : State) : s.rulesFollow (afterDrive s) := by
  unfold afterDrive
  split
  · exact State.rulesFollow_of_arb rfl rfl rfl rfl
  · exact s.grantsFollow_refl.rules
  · split
    · rename_i g _
      have harc := applyRoute_arc g.zone s
      exact State.rulesFollow_of_arb (arb_applyRoute _ _) (by rw [harc.mode]) (by rw [harc.defrost]) (by rw [harc.zones])
    · dsimp only
      refine .ite (fun _ => ?_) fun _ => State.rulesFollow_of_arb rfl rfl rfl rfl
      exact State.grantsFollow.rules ⟨rfl, rfl, rfl, id, .inl, fun g hg hz => .inl ⟨g, hg, hz⟩⟩

/-! ## Service, restart and the unit bus -/

/-- In SERVICE and after a RESTART no grant exists and no defrost is in HEAT or DRIP. -/
theorem State.rulesFollow_of_no_grant {s t : State} (hgrant : t.arb.grant = none)
    (hphase : t.defrost.phase ≠ .heat ∧ t.defrost.phase ≠ .drip) : s.rulesFollow t := by
  refine ⟨fun _ hsome => ?_, fun _ => State.claimRule_of_noFreezeGrant (fun g hg => ?_) fun h => absurd h (by simp [hphase])⟩
  · rw [hgrant] at hsome
    cases hsome
  · rw [hgrant] at hg
    cases hg

theorem endDefrostAtOnce_phase (s : State) : (endDefrostAtOnce s).defrost.phase = .idle := by
  unfold endDefrostAtOnce
  split
  · assumption
  · rfl

theorem enterService_grant (s : State) : (enterService s).arb.grant = none := by
  have hended : (endDefrostAtOnce (serviceArbiter s)).arb.grant = none :=
    (endDefrostAtOnce_only _).grant.trans (endGrant_grant .service s)
  unfold enterService
  dsimp only
  split
  · rw [arb_recompute]
    exact hended
  · exact hended

theorem enterService_phase (s : State) : (enterService s).defrost.phase = .idle := by
  have hended := endDefrostAtOnce_phase (serviceArbiter s)
  unfold enterService
  dsimp only
  split
  · rw [(recompute_arc _).defrost]
    exact hended
  · exact hended

theorem serviceStop_arc (s : State) : ArcOnly s (serviceStop s) := by
  unfold serviceStop
  dsimp only
  split <;> rfl

@[simp] theorem serviceStop_arb (s : State) : (serviceStop s).arb = s.arb := by
  unfold serviceStop
  dsimp only
  split <;> rfl

/-- The exit from SERVICE leaves for RUN with the grants as they are (R203). -/
theorem leaveService_rules (s : State) : s.rulesFollow (leaveService s) := by
  have hstop := serviceStop_arc s
  refine ⟨fun _ _ => ?_, fun hs => ?_⟩
  · unfold leaveService
    rw [(normalise_arc _).mode]
    rfl
  · refine (normalise_grantsFollow _).claimRule ?_
    have hzones : (serviceStop s).zones = s.zones := hstop.zones
    have hdefrost : (serviceStop s).defrost = s.defrost := hstop.defrost
    have harb := serviceStop_arb s
    refine ⟨?_, ?_⟩
    · show (serviceStop s).defrost.phase = .heat ∨ (serviceStop s).defrost.phase = .drip →
        (serviceStop s).zones.freeze.holdDefrost = true
      rw [hzones, hdefrost]
      exact hs.1
    · show ∀ g, (serviceStop s).arb.grant = some g → g.zone = .freeze →
        (serviceStop s).zones.freeze.holdDefrost = false ∧ (serviceStop s).arb.claim = false
      rw [hzones, harb]
      exact hs.2

/-- Where a bus operation leaves all but the bus, the rules stand. -/
theorem beginInit_rules (s : State) : s.rulesFollow (beginInit s) := State.rulesFollow_of_arb rfl rfl rfl rfl

theorem askOpening_rules (s : State) : s.rulesFollow (askOpening s) := by
  rcases askOpening_cases s with ⟨-, h⟩ | ⟨-, -, h⟩ | ⟨-, -, h⟩ <;> rw [h] <;>
    exact State.rulesFollow_of_arb rfl rfl rfl rfl

theorem askStop_rules (s : State) : s.rulesFollow (askStop s) := by
  rcases askStop_cases s with ⟨-, h⟩ | ⟨-, h⟩ <;> rw [h] <;> exact State.rulesFollow_of_arb rfl rfl rfl rfl

/-- After a RESTART's values and the end of any defrost there is neither a grant nor a defrost (R199). -/
theorem restartEffect_rules (s : State) : s.rulesFollow (restartEffect s) := by
  have hended := endDefrostAtOnce_only (restartBlocks s)
  have hphase := endDefrostAtOnce_phase (restartBlocks s)
  unfold restartEffect restartBus
  refine State.rulesFollow.trans ?_ (askOpening_rules _)
  refine State.rulesFollow.trans ?_ (askStop_rules _)
  refine State.rulesFollow.trans (t := endDefrostAtOnce (restartBlocks s)) ?_ (State.rulesFollow_of_arb rfl rfl rfl rfl)
  refine State.rulesFollow_of_no_grant (hended.grant.trans rfl) ?_
  rw [hphase]
  simp

theorem inverterLost_arb (s : State) : (inverterLost s).arb = s.arb := by
  unfold inverterLost
  split
  · rfl
  · split <;> rfl

theorem takeFault_arb (source : FaultSource) (code : Byte) (s : State) : (takeFault source code s).arb = s.arb := by
  unfold takeFault
  split <;> rfl

theorem ArcOnly.rules {s t : State} (h : ArcOnly s t) (harb : t.arb = s.arb) : s.rulesFollow t :=
  State.rulesFollow_of_arb harb (by rw [h.mode]) (by rw [h.defrost]) (by rw [h.zones])

theorem failUnit_rules (u : BusUnit) (k : ErrorKind) (s : State) : s.rulesFollow (failUnit u k s) := by
  have hcounted : s.rulesFollow (s.mapUnit u fun r => r.fail k) := State.rulesFollow_of_arb rfl rfl rfl rfl
  unfold failUnit
  refine .ite (fun _ => s.grantsFollow_refl.rules) fun _ => ?_
  dsimp only
  refine .ite (fun _ => hcounted.trans ?_) fun _ => hcounted
  unfold unitLostEffect
  split
  · exact (inverterLost_arc _).rules (inverterLost_arb _)
  · exact State.rulesFollow_of_arb rfl rfl rfl rfl
  · exact mapZone_rules _ .ice fun _ => rfl

theorem failExchange_rules (e : Exchange) (k : ErrorKind) (s : State) : s.rulesFollow (failExchange e k s) := by
  have hended : s.rulesFollow (endExchange s) := State.rulesFollow_of_arb rfl rfl rfl rfl
  have hfailed := hended.trans (failUnit_rules e.slot.unit k (endExchange s))
  unfold failExchange
  refine .ite (fun _ => hended) fun _ => ?_
  dsimp only
  exact .ite (fun _ => hfailed.trans (State.rulesFollow_of_arb rfl rfl rfl rfl)) fun _ => hfailed

theorem slotBoundary_rules (s : State) : s.rulesFollow (slotBoundary s) := by
  unfold slotBoundary
  split
  · exact State.rulesFollow.trans (State.rulesFollow_of_arb rfl rfl rfl rfl) (askOpening_rules (stopBus s))
  · exact State.rulesFollow_of_arb rfl rfl rfl rfl
  · split
    · exact State.rulesFollow_of_arb rfl rfl rfl rfl
    · unfold skipSlot
      refine State.rulesFollow.trans ?_ (failUnit_rules _ _ _)
      exact State.rulesFollow_of_arb rfl rfl rfl rfl
    · exact s.grantsFollow_refl.rules

theorem interpretStatus_arb (before : Option InvStatus) (st : InvStatus) (s : State) :
    (interpretStatus before st s).arb = s.arb := by
  unfold interpretStatus
  split
  · split
    · split
      · rfl
      · exact takeFault_arb _ _ s
    · exact takeFault_arb _ _ s
  · rfl
  · split <;> rfl

theorem applyInvStatus_arb (st : InvStatus) (s : State) : (applyInvStatus st s).arb = s.arb :=
  interpretStatus_arb _ _ _

theorem react_rules (s : State) : s.rulesFollow (react s) := by
  rw [react_eq_reaction]
  exact ⟨reaction_grantInRun, reaction_claimRule⟩

theorem responseEnds_rules (e : Exchange) (data : List Byte) (s : State) : s.rulesFollow (responseEnds e data s) := by
  have hended : s.rulesFollow (endExchange s) := State.rulesFollow_of_arb rfl rfl rfl rfl
  unfold responseEnds
  refine .ite (fun _ => hended) fun _ => hended.trans ?_
  unfold statusSucceeds
  dsimp only
  have hentered : (endExchange s).rulesFollow ((endExchange s).mapUnit e.slot.unit fun r => r.succeed data) :=
    State.rulesFollow_of_arb rfl rfl rfl rfl
  have happly : ∀ t : State, t.rulesFollow (applyStatus e.slot.unit data t) := by
    intro t
    unfold applyStatus
    split
    · exact (applyInvStatus_arc _ t).rules (applyInvStatus_arb _ t)
    · unfold applyDamperStatus
      dsimp only
      split
      · exact (routeFault_rules t).trans (State.rulesFollow_of_arb rfl rfl rfl rfl)
      · exact State.rulesFollow_of_arb rfl rfl rfl rfl
    · exact mapZone_rules t .ice fun _ => rfl
  split
  · exact (hentered.trans (react_rules _)).trans (happly _)
  · exact hentered.trans (happly _)

/-! ## Every command -/

theorem Effect.rules {s u : State} (h : Effect s u) : s.rulesFollow u := by
  have hsame : ∀ t : State, t.arb = s.arb → t.mode.opState = s.mode.opState → t.defrost.phase = s.defrost.phase →
      t.zones.freeze.holdDefrost = s.zones.freeze.holdDefrost → s.rulesFollow t :=
    fun _ => State.rulesFollow_of_arb
  have hrecompute : ∀ t : State, t.rulesFollow (recompute t) := fun t => (recompute_arc t).rules (recompute_arb t)
  cases h with
  | strapSettled r =>
    unfold Machine.strapSettled
    refine State.rulesFollow.trans ?_ (askOpening_rules _)
    exact hsame _ rfl rfl rfl rfl
  | restart =>
    refine State.rulesFollow.trans ?_ (restartEffect_rules (s.mapLink Link.replied))
    exact hsame _ rfl rfl rfl rfl
  | zoneSet z p =>
    unfold zoneSetEffect
    exact State.rulesFollow.trans (hsame _ rfl rfl rfl rfl) (evaluateNow_rules z (s.mapZoneSettings z _))
  | enable z on =>
    unfold enableEffect
    dsimp only
    split
    · exact hsame _ rfl rfl rfl rfl
    · exact mapZone_rules (s.mapZoneSettings z _) z fun _ => rfl
  | flexMode m =>
    unfold flexModeEffect
    refine State.rulesFollow.trans ?_ (evaluateNow_rules .flex _)
    exact hsame _ rfl rfl rfl rfl
  | compSet p hspan =>
    unfold compSetEffect
    refine State.rulesFollow.trans ?_ (hrecompute _)
    exact hsame _ rfl rfl rfl rfl
  | forced f => exact State.grantsFollow.rules ⟨rfl, rfl, rfl, id, .inl, fun g hg hz => .inl ⟨g, hg, hz⟩⟩
  | endIsolation z => exact mapZone_rules s z fun _ => rfl
  | readmit z => 
    exact State.rulesFollow.trans (t := Machine.endIsolation z s) (mapZone_rules s z fun _ => rfl)
      (mapZone_rules _ z (by intro _; rfl))
  | defrostStart =>
    exact (startDefrost_only _ s).rules fun hs => claimRule_of_phase hs (by simp [startDefrost]) rfl rfl id
  | abortPending => exact (endDefrost_only _ _ s).rules fun hs => endDefrost_claimRule hs _ _
  | abortHeat hphase =>
    exact (endHeat_only _ s).rules fun hs => endHeat_claimRule (hs.noFreezeGrant (.inl hphase)) (hs.1 (.inl hphase)) _
  | heatEnd t hphase =>
    exact DefrostOnly.rules (DefrostOnly.trans (mapDefrost_only s _) (endHeat_only t (heatReached s)))
      fun hs => endHeat_claimRule (s := heatReached s) (hs.noFreezeGrant (.inl hphase)) (hs.1 (.inl hphase)) t
  | dripEnd hphase =>
    exact DefrostOnly.rules (DefrostOnly.trans (mapDefrost_only s _) (enterRecover_only (dripReached s)))
      fun hs => enterRecover_claimRule (s := dripReached s) (hs.noFreezeGrant (.inr hphase))
  | release => exact (completeDefrost_only s).rules completeDefrost_claimRule
  | minute hphase => exact (minuteEvaluation_only s).rules fun hs => minuteEvaluation_claimRule hs hphase
  | serviceEnter =>
    refine State.rulesFollow_of_no_grant (enterService_grant s) ?_
    rw [enterService_phase]
    simp
  | serviceOutput p =>
    unfold applyService
    refine State.rulesFollow.trans ?_ (hrecompute _)
    exact hsame _ rfl rfl rfl rfl
  | serviceExit => exact leaveService_rules s
  | reading ch code =>
    unfold arrival
    refine State.rulesFollow.trans ?_ (deliver_rules ch _ _)
    exact hsame _ rfl rfl rfl rfl
  | blindPhase z =>
    unfold blindExpired
    split
    · exact enterBlindPhase_rules z _ s
    · exact s.grantsFollow_refl.rules
  | warm z => exact mapZone_rules s z fun _ => rfl
  | minDwell => exact State.grantsFollow.rules (mapGrant_grantsFollow s (by intro _; rfl))
  | maxDwell =>
    have hmarked := (mapGrant_grantsFollow s (f := fun g => { g with maxLeft := 0 }) fun _ => rfl).rules
    refine hmarked.trans ?_
    unfold maxDwellExpired
    split
    · exact maxDwellEnd_rules ‹_›
    · exact (State.grantsFollow_refl _).rules
  | park => exact ((enterParked_idleOnly s).grantsFollow (enterParked_arc s)).rules
  | driveEnd =>
    refine State.rulesFollow.trans ?_ (afterDrive_rules _)
    exact hsame _ rfl rfl rfl rfl
  | routeTimeout => exact routeFault_rules s
  | speedPeriod => exact hrecompute s
  | startFailure => exact (takeFault_arc _ _ s).rules (takeFault_arb _ _ s)
  | opening d level =>
    unfold presentOpening
    refine State.rulesFollow.trans (t := State.mapGrant _ _) ?_ (State.rulesFollow_of_arb rfl rfl rfl rfl)
    refine State.rulesFollow.trans ?_ (State.grantsFollow.rules (mapGrant_grantsFollow _ (by intro _; rfl)))
    exact hsame _ rfl rfl rfl rfl
  | slot => exact slotBoundary_rules s
  | response e data => exact responseEnds_rules e data s
  | failure e k => exact failExchange_rules e k s
  | faultCheck line =>
    rcases faultCheck_cases { s with bus := { s.bus with line := line } } with ⟨-, h⟩ | ⟨-, h⟩ <;> rw [h] <;>
      exact hsame _ rfl rfl rfl rfl
  | _ => exact hsame _ rfl rfl rfl rfl

theorem Quiet.rules {s t : State} (h : Quiet s t) : s.rulesFollow t := by
  cases h with
  | sent e =>
    unfold setSucceeds
    dsimp only
    split <;> exact State.rulesFollow_of_arb rfl rfl rfl rfl
  | _ => exact State.rulesFollow_of_arb rfl rfl rfl rfl

theorem Grant.tick_zone (g : Grant) : g.tick.zone = g.zone := by
  unfold Grant.tick
  split <;> rfl

/-- Time alone gives no grant. -/
theorem tick_rules (s : State) : s.rulesFollow (tick s) := by
  refine State.grantsFollow.rules ⟨rfl, rfl, rfl, id, fun hsome => .inl (by simpa [tick, Arbiter.tick] using hsome),
    fun g hg hz => .inl ?_⟩
  obtain ⟨h, hh, rfl⟩ := Option.map_eq_some_iff.mp hg
  exact ⟨h, hh, h.tick_zone ▸ hz⟩

/-- Settles O11, by what every operation leaves of the grants. -/
theorem stepKeepsGrantInRun : Obligations.StepKeepsGrantInRun := fun _ _ hs h =>
  step_keeps (P := State.grantInRun) (by decide) (fun _ _ => id) (fun _ _ => id) (fun _ _ => id)
    (fun _ _ hquiet => hquiet.rules.1) (fun _ _ heffect hs => finish_grantInRun (heffect.rules.1 hs))
    (fun s => (tick_rules s).1) hs h

theorem step_keeps_claimRule {s t : State} (hs : s.claimRule) (h : step s = .next t) : t.claimRule :=
  step_keeps (P := State.claimRule) (by decide) (fun _ _ => id) (fun _ _ => id) (fun _ _ => id)
    (fun _ _ hquiet => hquiet.rules.2) (fun _ _ heffect hs => finish_claimRule (heffect.rules.2 hs))
    (fun s => (tick_rules s).2) hs h

end Sys2Proof.Machine
end

section
/-!
PROOFS. The waiting list (R56, R57, R79): after every arbitration it is exact, and no selectable zone waits without a grant.
-/
namespace Sys2Proof.Machine

/-! ## The list is exact after every arbitration -/

/-- Exactness looks at the list, the members and the holder. -/
theorem listExact_congr {s t : State} (hwaiting : t.arb.waiting = s.arb.waiting) (hmember : ∀ z, t.member z = s.member z)
    (hholds : ∀ z, t.holds z = s.holds z) (hs : s.listExact) : t.listExact := by
  rw [State.listExact_iff] at *
  intro z
  have honList : t.onList z = s.onList z := by
    unfold State.onList
    rw [hwaiting]
  rw [honList, hmember, hholds]
  exact hs z

theorem holds_congr {s t : State} (hgrant : t.arb.grant = s.arb.grant) (z : Zone) : t.holds z = s.holds z := by
  unfold State.holds
  rw [hgrant]

/-- Where the list and the grant stand, the arbiter, the route and the compressor leave the list exact. -/
theorem ArcOnly.listExact {s t : State} (h : ArcOnly s t) (hwaiting : t.arb.waiting = s.arb.waiting)
    (hgrant : t.arb.grant = s.arb.grant) (hs : s.listExact) : t.listExact :=
  listExact_congr hwaiting h.member (holds_congr hgrant) hs

theorem Arbiter.idleOnly.listExact {s t : State} (h : s.arb.idleOnly t.arb) (harc : ArcOnly s t) (hs : s.listExact) :
    t.listExact :=
  harc.listExact h.waiting h.grant hs

theorem normalise_listExact {s : State} (hs : s.listExact) : (normalise s).listExact :=
  (normalise_arc s).listExact (normalise_waiting s) (normalise_grant s) hs

/-- A zone that is granted leaves the list and is its only change; no other holder goes (R69). -/
theorem createGrant_listExact {s : State} (z : Zone) (r : GrantReason) (hs : s.listExact) (hgrant : s.arb.grant = none) :
    (createGrant z r s).listExact := by
  rw [State.listExact_iff] at *
  intro y
  obtain ⟨hnew, -, -⟩ := createGrant_grant z r s
  have hholds : (createGrant z r s).holds y = decide (z = y) := by
    unfold State.holds
    rw [hnew]
    rfl
  have hnone : s.holds y = false := by
    unfold State.holds
    rw [hgrant]
  have hbefore := hs y
  rw [(createGrant_arc z r s).member, hholds]
  rw [hnone] at hbefore
  by_cases hy : z = y
  · subst hy
    unfold State.onList
    rw [createGrant_arb]
    simp
  · have honList : (createGrant z r s).onList y = s.onList y := by
      unfold State.onList
      rw [createGrant_arb, Bool.eq_iff_iff]
      simp only [List.any_eq_true, List.mem_filter, decide_eq_true_eq]
      constructor
      · rintro ⟨w, ⟨hw, -⟩, rfl⟩
        exact ⟨w, hw, rfl⟩
      · rintro ⟨w, hw, rfl⟩
        exact ⟨w, ⟨hw, fun h => hy h.symm⟩, rfl⟩
    simpa [honList, hy] using hbefore

/-- The list follows a grant's end (R79). -/
theorem endGrant_listExact {s : State} (r : EndReason) (hs : s.listExact) : (endGrant r s).listExact := by
  unfold endGrant
  split
  · exact relist_exact _
  · exact hs

theorem afterEnd_listExact {s : State} (hs : s.listExact) (hgrant : s.arb.grant = none) : (afterEnd s).listExact := by
  rcases afterEnd_cases s with ⟨z, r, -, h⟩ | ⟨-, h⟩ <;> rw [h]
  · exact createGrant_listExact z r (normalise_listExact hs) (by rw [normalise_grant, hgrant])
  · exact (enterIdle_idleOnly _).listExact (enterIdle_arc _) (normalise_listExact hs)

/-- Marks on the grant's record leave the list exact. -/
theorem mapGrant_listExact {s : State} {f : Grant → Grant} (hzone : ∀ g, (f g).zone = g.zone) (hs : s.listExact) :
    (s.mapGrant f).listExact := by
  refine listExact_congr (s := s) rfl (fun _ => rfl) (fun z => ?_) hs
  unfold State.holds
  rw [State.mapGrant_grant]
  cases s.arb.grant with
  | none => rfl
  | some g => simp [hzone g]

theorem heldGrant_listExact {s : State} (g : Grant) (hs : s.listExact) : (heldGrant g s).listExact := by
  have hmarked : (markContinuation s).listExact := mapGrant_listExact (fun _ => rfl) hs
  rcases heldGrant_cases g s with ⟨r, -, h⟩ | ⟨-, ⟨z, r, -, -, h⟩ | ⟨-, h⟩⟩ <;> rw [h]
  · exact afterEnd_listExact (endGrant_listExact r hs) (endGrant_grant r s)
  · exact createGrant_listExact z r (normalise_listExact (endGrant_listExact _ hmarked)) (by rw [normalise_grant, endGrant_grant])
  · exact hmarked

theorem noGrant_listExact {s : State} (hs : s.listExact) (hgrant : s.arb.grant = none) : (noGrant s).listExact := by
  rcases noGrant_cases s with ⟨z, r, -, h⟩ | ⟨-, h⟩ <;> rw [h]
  · exact createGrant_listExact z r (normalise_listExact hs) (by rw [normalise_grant, hgrant])
  · exact (rehomeTest_idleOnly _).listExact (rehomeTest_arc _) ((runoutEnd_idleOnly s).listExact (runoutEnd_arc s) hs)

theorem arbitrate_listExact (s : State) : (arbitrate s).listExact := by
  by_cases hmode : s.mode.opState = .run
  · cases hgrant : s.arb.grant with
    | none =>
      rw [arbitrate_run_none hmode hgrant]
      exact noGrant_listExact (relist_exact s) hgrant
    | some g =>
      rw [arbitrate_run_some hmode hgrant]
      exact heldGrant_listExact g (relist_exact s)
  · rw [arbitrate_not_run hmode]
    exact relist_exact s

/-! ## No selectable zone waits without a grant -/

/-- In RUN, with no grant, no waiting zone meets the terms of R59. -/
abbrev State.noneWaits (s : State) : Prop :=
  s.mode.opState = .run → s.arb.grant = none → ∀ z, s.waitingSelectable z = false

/-- Where the list and the compressor's availability stand, so do the selectable waiting zones. -/
theorem ArcOnly.waitingSelectable {s t : State} (h : ArcOnly s t) (hwaiting : t.arb.waiting = s.arb.waiting)
    (hcomp : t.compAvailable = s.compAvailable) (z : Zone) : t.waitingSelectable z = s.waitingSelectable z := by
  unfold State.waitingSelectable State.onList
  rw [hwaiting, h.selectable hcomp]

theorem normalise_waitingSelectable (s : State) (z : Zone) : (normalise s).waitingSelectable z = s.waitingSelectable z :=
  (normalise_arc s).waitingSelectable (normalise_waiting s) (by unfold State.compAvailable; rw [normalise_comp]) z

theorem Arbiter.idleOnly.noneWaits {s t : State} (h : s.arb.idleOnly t.arb) (harc : ArcOnly s t)
    (hcomp : s.comp.steady t.comp) (hs : ∀ z, s.waitingSelectable z = false) : ∀ z, t.waitingSelectable z = false :=
  fun z => (harc.waitingSelectable h.waiting (compAvailable_of_steady hcomp) z).trans (hs z)

/-- A selection that finds nobody leaves nobody selectable. -/
theorem noneWaits_of_no_winner {s : State} (h : (normalise s).selection none = none) :
    ∀ z, s.waitingSelectable z = false := by
  intro z
  rw [← normalise_waitingSelectable]
  exact (State.selection_none_iff _).mp h z

theorem createGrant_noneWaits (z : Zone) (r : GrantReason) (s : State) : (createGrant z r s).noneWaits := by
  intro _ hnone
  rw [(createGrant_grant z r s).1] at hnone
  cases hnone

theorem afterEnd_noneWaits (s : State) : (afterEnd s).noneWaits := by
  rcases afterEnd_cases s with ⟨z, r, -, h⟩ | ⟨hnobody, h⟩ <;> rw [h]
  · exact createGrant_noneWaits z r _
  · intro _ _
    exact (enterIdle_idleOnly _).noneWaits (enterIdle_arc _) (enterIdle_steady _) ((State.selection_none_iff _).mp hnobody)

theorem arbitrate_noneWaits (s : State) : (arbitrate s).noneWaits := by
  by_cases hmode : s.mode.opState = .run
  · cases hgrant : s.arb.grant with
    | none =>
      rw [arbitrate_run_none hmode hgrant]
      rcases noGrant_cases (relist s) with ⟨z, r, -, h⟩ | ⟨hnobody, h⟩ <;> rw [h]
      · exact createGrant_noneWaits z r _
      · intro _ _ z
        have hrunout : (relist s).comp.steady (runoutEnd (relist s)).comp := by
          rw [runoutEnd_comp]
          exact Compressor.steady_refl _
        have hrehome : (runoutEnd (relist s)).comp.steady (rehomeTest (runoutEnd (relist s))).comp := by
          rw [rehomeTest_comp]
          exact Compressor.steady_refl _
        exact (rehomeTest_idleOnly _).noneWaits (rehomeTest_arc _) hrehome
          ((runoutEnd_idleOnly _).noneWaits (runoutEnd_arc _) hrunout (noneWaits_of_no_winner hnobody)) z
    | some g =>
      rw [arbitrate_run_some hmode hgrant]
      rcases heldGrant_cases g (relist s) with ⟨r, -, h⟩ | ⟨-, ⟨z, r, -, -, h⟩ | ⟨-, h⟩⟩ <;> rw [h]
      · exact afterEnd_noneWaits _
      · exact createGrant_noneWaits z r _
      · intro _ hnone
        simp [markContinuation, relist, hgrant] at hnone
  · intro hrun
    rw [(arbitrate_arc s).mode] at hrun
    exact absurd hrun hmode

/-! ## The rest of a pass -/

/-- After the arbitration a pass leaves the list, and the grant but for the start of COOLING. -/
theorem settle_waiting (s : State) : (settle s).arb.waiting = (arbitrate s).arb.waiting := by
  unfold settle
  rcases coolingStart_cases (inPlaceTest (compReact (kickValve (arbitrate s)))) with h | ⟨g, a, -, -, -, -, -, h⟩ <;>
    rw [h] <;> simp

theorem settle_claim (s : State) : (settle s).arb.claim = (arbitrate s).arb.claim := by
  unfold settle
  rcases coolingStart_cases (inPlaceTest (compReact (kickValve (arbitrate s)))) with h | ⟨g, a, -, -, -, -, -, h⟩ <;>
    rw [h] <;> simp

theorem settle_forced (s : State) : (settle s).arb.forced = (arbitrate s).arb.forced := by
  unfold settle
  rcases coolingStart_cases (inPlaceTest (compReact (kickValve (arbitrate s)))) with h | ⟨g, a, -, -, -, -, -, h⟩ <;>
    rw [h] <;> simp

/-- The start of COOLING keeps the holder. -/
theorem settle_grant (s : State) :
    (settle s).arb.grant = (arbitrate s).arb.grant ∨
      ∃ g, (arbitrate s).arb.grant = some g ∧ g.phase = .routing ∧
        (settle s).arb.grant =
          some
            { g with
              phase := .cooling
              minLeft := mins (s.settings.timing.get g.zone).minDwell
              maxLeft := mins (s.settings.timing.get g.zone).maxDwell
              startTemp := (s.sensing.air.get g.zone).filtered } := by
  have harc : ArcOnly s (inPlaceTest (compReact (kickValve (arbitrate s)))) :=
    (((arbitrate_arc s).trans (kickValve_arc _)).trans (compReact_arc _)).trans (inPlaceTest_arc _)
  unfold settle
  rcases coolingStart_cases (inPlaceTest (compReact (kickValve (arbitrate s)))) with h | ⟨g, a, hgrant, -, hphase, -, -, h⟩ <;>
    rw [h]
  · left
    simp
  · right
    refine ⟨g, by simpa using hgrant, hphase, ?_⟩
    rw [startPreChill_arb, arb_recompute, harc.settings, harc.sensing]

theorem settle_holds (s : State) (z : Zone) : (settle s).holds z = (arbitrate s).holds z := by
  rcases settle_grant s with h | ⟨g, hgrant, -, h⟩
  · exact holds_congr h z
  · simp [State.holds, h, hgrant]

theorem compAvailable_of_comp {s t : State} (h : t.comp = s.comp) : t.compAvailable = s.compAvailable := by
  unfold State.compAvailable
  rw [h]

/-- A pass recomputes, starts or stops the compressor; none of it changes its availability (R116). -/
theorem settle_available (s : State) : (settle s).compAvailable = s.compAvailable := by
  have hcooling : ∀ t : State, (coolingStart t).compAvailable = t.compAvailable := by
    intro t
    rcases coolingStart_cases t with h | ⟨g, a, -, -, -, -, -, h⟩ <;> rw [h]
    rw [compAvailable_of_comp (startPreChill_comp _ _), compAvailable_of_steady (recompute_steady _)]
    rfl
  unfold settle
  rw [hcooling, compAvailable_of_comp (inPlaceTest_comp _), compReact_available,
    compAvailable_of_comp (kickValve_comp _), compAvailable_of_steady (arbitrate_steady s)]

theorem settle_listExact (s : State) : (settle s).listExact :=
  listExact_congr (settle_waiting s) (fun z => ((settle_arc s).member z).trans ((arbitrate_arc s).member z).symm)
    (settle_holds s) (arbitrate_listExact s)

theorem settle_noneWaits (s : State) : (settle s).noneWaits := by
  intro hrun hnone z
  have harc : (settle s).waitingSelectable z = (arbitrate s).waitingSelectable z := by
    unfold State.waitingSelectable State.onList State.selectable
    rw [settle_waiting, (settle_arc s).zoneSelectable, (arbitrate_arc s).zoneSelectable, (settle_arc s).defrost,
      (arbitrate_arc s).defrost, settle_available, compAvailable_of_steady (arbitrate_steady s)]
  rw [harc]
  refine arbitrate_noneWaits s ?_ ?_ z
  · rw [(arbitrate_arc s).mode]
    rwa [(settle_arc s).mode] at hrun
  · rcases settle_grant s with h | ⟨g, -, -, h⟩
    · rw [← h, hnone]
    · rw [h] at hnone
      cases hnone

theorem publish_member (s : State) (z : Zone) : (publish s).member z = s.member z := rfl

theorem publish_waitingSelectable (s : State) (z : Zone) : (publish s).waitingSelectable z = s.waitingSelectable z := rfl

theorem publish_listExact {s : State} (hs : s.listExact) : (publish s).listExact :=
  listExact_congr (publish_arb s ▸ rfl) (publish_member s) (holds_congr (publish_arb s ▸ rfl)) hs

theorem publish_noneWaits {s : State} (hs : s.noneWaits) : (publish s).noneWaits := by
  intro hrun hnone z
  rw [publish_waitingSelectable]
  exact hs (by rwa [publish_mode] at hrun) (by rwa [publish_arb] at hnone) z

/-- A reaction ends with a pass. -/
theorem finish_eq_settle (s : State) : finish s = publish (settle (pendingTest (settle (initEnd s)))) := finish_eq s

theorem finish_listExact (s : State) : (finish s).listExact :=
  finish_eq_settle s ▸ publish_listExact (settle_listExact _)

theorem finish_noneWaits (s : State) : (finish s).noneWaits :=
  finish_eq_settle s ▸ publish_noneWaits (settle_noneWaits _)

/-! ## The list through every command -/

theorem Touch.keeps_listNodup {s t : State} (h : Touch s t) (hs : s.arb.listNodup) : t.arb.listNodup := by
  cases h with
  | follow hchange =>
    cases hchange with
    | arb a hlist => exact hlist hs
    | recompute =>
      rw [arb_recompute]
      exact hs
    | _ => exact hs
  | fault source code =>
    rw [takeFault_arb]
    exact hs
  | inverterLost =>
    rw [inverterLost_arb]
    exact hs
  | _ => exact hs

theorem tick_listNodup (s : State) (hs : s.arb.listNodup) : (tick s).arb.listNodup := by
  have hzones : (tick s).arb.waiting.map Waiting.zone = s.arb.waiting.map Waiting.zone := by
    simp [tick, Arbiter.tick, Function.comp_def]
  unfold Arbiter.listNodup
  rw [hzones]
  exact hs

theorem step_keeps_listNodup {s t : State} (hs : s.arb.listNodup) (h : step s = .next t) : t.arb.listNodup :=
  step_keeps_of_touch (P := fun s => s.arb.listNodup) (by decide) (fun _ _ => id)
    (fun _ _ => Touch.keeps_listNodup) (fun _ => id) tick_listNodup hs h

/-- Time changes no zone's membership. -/
theorem tick_member (s : State) (z : Zone) : (tick s).member z = s.member z := by
  unfold State.member State.isolated
  simp [tick, ZoneRec.tick, State.present]

theorem tick_listExact {s : State} (hs : s.listExact) : (tick s).listExact := by
  rw [State.listExact_iff] at *
  intro z
  have honList : (tick s).onList z = s.onList z := by
    simp [State.onList, tick, Arbiter.tick, Function.comp_def]
  have hholds : (tick s).holds z = s.holds z := by
    unfold State.holds
    cases h : s.arb.grant with
    | none => simp [tick, Arbiter.tick, h]
    | some g => simp [tick, Arbiter.tick, h, g.tick_zone]
  rw [honList, hholds, tick_member]
  exact hs z

theorem Quiet.keeps_listExact {s t : State} (h : Quiet s t) (hs : s.listExact) : t.listExact := by
  cases h with
  | sent e =>
    unfold setSucceeds
    dsimp only
    split <;> exact hs
  | _ => exact hs

theorem reset_listExact : State.reset.listExact := by
  rw [State.listExact_iff]
  intro z
  cases z <;> decide

theorem step_keeps_listExact {s t : State} (hs : s.listExact) (h : step s = .next t) : t.listExact :=
  step_keeps (P := State.listExact) reset_listExact (fun _ _ => id) (fun _ _ => id) (fun _ _ => id)
    (fun _ _ hquiet => hquiet.keeps_listExact) (fun _ u _ _ => finish_listExact u) (fun _ => tick_listExact) hs h

/-- Settles O12: Th, D and the list by the single changes, the claim by what every operation leaves of the grants. -/
theorem stepKeepsRangesAndList : Obligations.StepKeepsRangesAndList := by
  intro s t h
  refine ⟨fun hs => step_keeps_of_touch (P := State.thInRange) (by decide) (fun _ _ => id)
      (fun _ _ => Touch.keeps_thInRange) (fun _ => id) (fun _ => id) hs h,
    fun hs => step_keeps_of_touch (P := State.levelsOk) (by decide) (fun _ _ => id)
      (fun _ _ => Touch.keeps_levelsOk) (fun _ => id) tick_levelsOk hs h, fun ⟨hnodup, hexact⟩ => ⟨step_keeps_listNodup hnodup h, step_keeps_listExact hexact h⟩,
    fun _ hs => step_keeps_claimRule hs h⟩

end Sys2Proof.Machine
end

section
/-!
PROOFS. The step and the queue, the values of the hard reset, and the strap code (statements O1, O2, O5, O16, O23).
-/
namespace Sys2Proof.Machine

/-- Settles O1. -/
theorem stepRunsFrontCommand : Obligations.StepRunsFrontCommand := fun _ _ _ => rfl

/-- With an empty queue a step does what an idle part does. -/
theorem step_of_empty {s : State} (h : s.pending = []) : step s = .next (idle s) := by
  unfold step
  rw [h]

/-- Settles O2, by the three things an idle part does. -/
theorem emptyQueueStep : Obligations.EmptyQueueStep := by
  intro s hempty
  rw [step_of_empty hempty]
  refine ⟨fun type p hhandling hreply hbuffer => ?_, fun hhandling hpending htransmitter hopen => ?_,
    fun hhandling hpending => ?_⟩
  · simp [idle, Link.waitingRequest, hhandling, hreply, hbuffer]
  · simp [idle, Link.waitingRequest, Link.noticeDue, hhandling, hpending, htransmitter, hopen]
  · simp [idle, Link.waitingRequest, Link.noticeDue, hhandling, hpending]

/-- Settles O16: each invariant is decided on the one state, the list by its exactness. -/
theorem resetMeetsInvariants : Obligations.ResetMeetsInvariants :=
  ⟨by decide, by decide, by decide, by decide, by decide, by decide, ⟨by decide, reset_listExact⟩, by decide, by decide,
    by decide, by decide⟩

/-- Settles O5: the values of State.reset, read one by one. -/
theorem resetValues : Obligations.ResetValues := by
  refine ⟨fun _ => rfl, rfl, rfl, rfl, rfl, rfl, rfl, rfl, rfl, rfl, rfl, rfl, rfl, rfl, rfl, rfl, rfl, rfl, rfl,
    fun ch => ?_, fun d => ?_, fun z => ?_, rfl, rfl, rfl, rfl, rfl, rfl, fun z q hq => ?_, fun z => ?_, fun z => ?_⟩
  · cases ch with
    | air z => cases z <;> exact ⟨rfl, rfl⟩
    | _ => exact ⟨rfl, rfl⟩
  · cases d <;> rfl
  · cases z <;> exact ⟨rfl, rfl, rfl⟩
  · subst hq
    cases z <;> rfl
  · cases z <;> rfl
  · cases z <;> rfl

/-- A code that lies in none of the windows of Table 1-2 is an error. -/
theorem classify_cases (c : Code) :
    c.toNat ≤ 400 ∧ classify c = .a ∨ (1800 ≤ c.toNat ∧ c.toNat ≤ 2300) ∧ classify c = .b ∨
      (2950 ≤ c.toNat ∧ c.toNat ≤ 3300) ∧ classify c = .c ∨ (3600 ≤ c.toNat ∧ c.toNat ≤ 3850) ∧ classify c = .d ∨
      4051 ≤ c.toNat ∧ classify c = .isOpen ∨
      (401 ≤ c.toNat ∧ c.toNat ≤ 1799 ∨ 2301 ≤ c.toNat ∧ c.toNat ≤ 2949 ∨ 3301 ≤ c.toNat ∧ c.toNat ≤ 3599 ∨
        3851 ≤ c.toNat ∧ c.toNat ≤ 4050) ∧ classify c = .error := by
  unfold classify
  dsimp only
  split
  · exact .inl ⟨‹_›, rfl⟩
  · split
    · rename_i h
      simp only [Bool.and_eq_true, decide_eq_true_eq] at h
      exact .inr (.inl ⟨h, rfl⟩)
    · split
      · rename_i h
        simp only [Bool.and_eq_true, decide_eq_true_eq] at h
        exact .inr (.inr (.inl ⟨h, rfl⟩))
      · split
        · rename_i h
          simp only [Bool.and_eq_true, decide_eq_true_eq] at h
          exact .inr (.inr (.inr (.inl ⟨h, rfl⟩)))
        · split
          · exact .inr (.inr (.inr (.inr (.inl ⟨‹_›, rfl⟩))))
          · refine .inr (.inr (.inr (.inr (.inr ⟨?_, rfl⟩))))
            simp only [Bool.and_eq_true, decide_eq_true_eq] at *
            omega

/-- Settles O23: the windows exclude each other, so each bound picks its case. -/
theorem strapClassification : Obligations.StrapClassification := by
  refine ⟨fun c => ?_, fun c1 c2 c3 c4 r => ⟨fun h1 h2 h3 h4 => ?_, fun h => ?_⟩⟩
  · have hcases := classify_cases c
    refine ⟨fun _ => ?_, fun _ _ => ?_, fun _ _ => ?_, fun _ _ => ?_, fun _ => ?_, fun _ => ?_⟩ <;>
      rcases hcases with h | h | h | h | h | h <;> first | exact h.2 | omega
  · simp [strapResult, h1, h2, h3, h4]
  · unfold strapResult
    dsimp only
    split
    · rename_i heq
      simp only [Bool.and_eq_true, decide_eq_true_eq] at heq
      obtain ⟨⟨h2, h3⟩, h4⟩ := heq
      rcases h with h | h | h
      · exact absurd h2.symm h
      · exact absurd h3.symm h
      · exact absurd h4.symm h
    · rfl

end Sys2Proof.Machine
end

section
/-!
PROOFS. What follows an event: its frame, and what it presents (statements O6, O7).
-/
namespace Sys2Proof.Machine

/-! ## The frame -/

/-- `t` has of the compressor's record what no reaction changes: faults, hold timer, last status, loss mark, service speed. -/
abbrev Compressor.sameRecord (b c : Compressor) : Prop :=
  c.faults = b.faults ∧ c.hold = b.hold ∧ c.lastInv = b.lastInv ∧ c.lossMark = b.lossMark ∧
    c.serviceSpeed = b.serviceSpeed

theorem recompute_sameRecord (s : State) : s.comp.sameRecord (recompute s).comp := by
  rw [(recompute_steady s).1]
  exact ⟨rfl, rfl, rfl, rfl, rfl⟩

theorem Changes.sameRecord {s t : State} (h : Changes s t) : s.comp.sameRecord t.comp := by
  refine h.keeps (P := fun t => s.comp.sameRecord t.comp) ?_ ⟨rfl, rfl, rfl, rfl, rfl⟩
  intro t u hchange ht
  cases hchange with
  | recompute =>
    obtain ⟨hfaults, hhold, hlast, hmark, hspeed⟩ := ht
    obtain ⟨kfaults, khold, klast, kmark, kspeed⟩ := recompute_sameRecord t
    exact ⟨kfaults.trans hfaults, khold.trans hhold, klast.trans hlast, kmark.trans hmark, kspeed.trans hspeed⟩
  | _ => exact ht

theorem Changes.fans {s t : State} (h : Changes s t) : t.route.fans = s.route.fans := by
  refine h.keeps (P := fun t => t.route.fans = s.route.fans) ?_ rfl
  intro t u hchange ht
  cases hchange with
  | recompute =>
    rw [route_recompute]
    exact ht
  | _ => exact ht

theorem Changes.outletMoves {s t : State} (h : Changes s t) : t.route.valve.outletMoves = s.route.valve.outletMoves := by
  refine h.keeps (P := fun t => t.route.valve.outletMoves = s.route.valve.outletMoves) ?_ rfl
  intro t u hchange ht
  cases hchange with
  | kick => exact (Valve.kick_outletMoves _).trans ht
  | recompute =>
    rw [route_recompute]
    exact ht
  | _ => exact ht

@[simp] theorem FanRec.drive_stalled (f : FanRec) (n : Nat) : (f.drive n).stalled = f.stalled := rfl

@[simp] theorem FanRec.drive_rest (f : FanRec) (n : Nat) : (f.drive n).rest = f.rest := rfl

/-- The record a fan takes with the outputs is its own with its commanded drive (R107, R109, R132). -/
theorem State.drivenFans_get (s : State) (f : Fan) :
    s.drivenFans.get f =
      (s.route.fans.get f).drive
        (match f with | .freezer => s.freezerDrive | .fresh => s.freshDrive | .condenser => s.condenserDrive) := by
  cases f <;> rfl

/-- Settles O6, by what no single change touches and what the outputs set. -/
theorem whatFollowsKeeps : Obligations.WhatFollowsKeeps := by
  intro s
  have hchanges := react_changes s
  refine ⟨⟨finish_strap s, finish_settings s, finish_sensing s, finish_service s, finish_pending s⟩, finish_doors s,
    finish_bus s, finish_link s, fun z => ⟨finish_holdOnly s z, ?_, ?_⟩, rfl, rfl, ?_, ?_, ?_, ?_, ?_, fun f => ?_,
    hchanges.outletMoves⟩
  · show ((publish (react s)).events.zone.get z).rise = _
    rw [publish_zoneSet, EventSet.present_rise, react_events]
  · show ((publish (react s)).events.zone.get z).fall = _
    rw [publish_zoneSet, EventSet.present_fall, react_events]
  · exact hchanges.sameRecord.1
  · exact hchanges.sameRecord.2.1
  · exact hchanges.sameRecord.2.2.1
  · exact hchanges.sameRecord.2.2.2.1
  · exact hchanges.sameRecord.2.2.2.2
  · show ((react s).drivenFans.get f).stalled = _ ∧ ((react s).drivenFans.get f).rest = _
    rw [State.drivenFans_get, hchanges.fans]
    exact ⟨rfl, rfl⟩

/-! ## What is presented -/

/-- The commanded drive of a fan by its rule (R107, R109, R132). -/
def State.ruledDrive (s : State) : Fan → Nat
  | .freezer => s.freezerDrive
  | .fresh => s.freshDrive
  | .condenser => s.condenserDrive

theorem State.drivenFans_commanded (s : State) (f : Fan) : (s.drivenFans.get f).commanded = s.ruledDrive f := by
  cases f <;> rfl

/-- The drives read nothing that the outputs and the presentation change. -/
theorem publish_ruledDrive (r : State) (f : Fan) : (publish r).ruledDrive f = r.ruledDrive f := by
  cases f <;> rfl

/-- After an event every fan stands at its drive by the rule, read from that same state. -/
theorem finish_commanded (s : State) (f : Fan) : ((finish s).route.fans.get f).commanded = (finish s).ruledDrive f := by
  unfold finish
  rw [publish_ruledDrive, publish_fans, State.drivenFans_commanded]

theorem finish_output (s : State) (f : Fan) :
    ((finish s).route.fans.get f).output =
      if ((finish s).route.fans.get f).rest.isSome then 0 else ((finish s).route.fans.get f).commanded := by
  unfold finish
  rw [publish_fans, State.drivenFans_get]
  rfl

theorem publish_heaterRule (r : State) : (publish r).heaterRule = r.heaterRule := rfl

theorem finish_heater (s : State) : (finish s).defrost.heater = (finish s).heaterRule := by
  unfold finish
  rw [publish_heater, publish_heaterRule]

theorem publish_deviceConditions (r : State) : (publish r).deviceConditions = (drive r).deviceConditions := rfl

theorem publish_zoneConditions (r : State) (z : Zone) : (publish r).zoneConditions z = (drive r).zoneConditions z := rfl

/-- The conditions read nothing that the presentation changes, so the live parts are those of the state after the event. -/
theorem finish_deviceLive (s : State) : (finish s).events.device.live = (finish s).deviceConditions := by
  unfold finish
  rw [publish_device, EventSet.present_live, publish_deviceConditions]

theorem finish_zoneLive (s : State) (z : Zone) : ((finish s).events.zone.get z).live = (finish s).zoneConditions z := by
  unfold finish
  rw [publish_zoneSet, EventSet.present_live, publish_zoneConditions]

/-- A presentation latches the enabled edges between the live part before and after it (R190). -/
theorem EventSet.present_latched (e : EventSet) (now : Byte) :
    (e.present now).latched =
      e.latched ||| (((e.present now).live &&& ~~~e.live) &&& e.rise) |||
        ((e.live &&& ~~~(e.present now).live) &&& e.fall) := rfl

/-- An enabled edge between the conditions before and after the event is latched (R190). -/
theorem finish_deviceLatched (s : State) :
    (finish s).events.device.latched =
      s.events.device.latched ||| (((finish s).events.device.live &&& ~~~s.events.device.live) &&& s.events.device.rise) |||
        ((s.events.device.live &&& ~~~(finish s).events.device.live) &&& s.events.device.fall) := by
  unfold finish
  rw [publish_device, EventSet.present_latched, react_events]

theorem finish_zoneLatched (s : State) (z : Zone) :
    ((finish s).events.zone.get z).latched =
      (s.events.zone.get z).latched |||
          ((((finish s).events.zone.get z).live &&& ~~~(s.events.zone.get z).live) &&& (s.events.zone.get z).rise) |||
        (((s.events.zone.get z).live &&& ~~~((finish s).events.zone.get z).live) &&& (s.events.zone.get z).fall) := by
  unfold finish
  rw [publish_zoneSet, EventSet.present_latched, react_events]

theorem getLsbD_bits (b0 b1 b2 b3 b4 b5 b6 b7 : Bool) :
    (bits b0 b1 b2 b3 b4 b5 b6 b7).getLsbD 0 = b0 ∧ (bits b0 b1 b2 b3 b4 b5 b6 b7).getLsbD 1 = b1 ∧
      (bits b0 b1 b2 b3 b4 b5 b6 b7).getLsbD 2 = b2 ∧ (bits b0 b1 b2 b3 b4 b5 b6 b7).getLsbD 3 = b3 ∧
      (bits b0 b1 b2 b3 b4 b5 b6 b7).getLsbD 4 = b4 ∧ (bits b0 b1 b2 b3 b4 b5 b6 b7).getLsbD 5 = b5 ∧
      (bits b0 b1 b2 b3 b4 b5 b6 b7).getLsbD 6 = b6 ∧ (bits b0 b1 b2 b3 b4 b5 b6 b7).getLsbD 7 = b7 := by
  revert b0 b1 b2 b3 b4 b5 b6 b7
  decide

/-- The bits of a present zone's set, in the order of Table 10-6. -/
theorem State.zoneConditions_bits {s : State} {z : Zone} (h : s.present z = true) :
    s.zoneConditions z =
      bits ((s.zones.get z).demand = .calling) (s.holds z) (s.doors.zone.get z).isOpen (s.doors.zone.get z).ajar
        (s.sensorFault z) (s.isolated z) (s.held z) (s.zones.get z).warm := by
  unfold State.zoneConditions
  rw [if_pos h]

/-- SENSOR_FAULT names the zone's own channels in FAULT or RECOVERING (R37). -/
theorem State.sensorFault_iff (s : State) (z : Zone) :
    s.sensorFault z = true ↔
      ∃ ch, (ch = .air z ∨ z = .fresh ∧ ch = .frCoil ∨ z = .freeze ∧ ch = .fzCoil) ∧
        ((s.sensing.get ch).state = .fault ∨ (s.sensing.get ch).state = .recovering) := by
  cases z <;> simp [State.sensorFault, ChannelRec.inFault, Sensing.get, or_and_right, exists_or]

theorem State.unitLost_iff (s : State) : s.unitLost = true ↔ ∃ u, (s.bus.unit.get u).state = .lost := by
  constructor
  · intro h
    simp only [State.unitLost, Bool.or_eq_true, decide_eq_true_eq] at h
    rcases h with (h | h) | h
    · exact ⟨.inverter, h⟩
    · exact ⟨.damper, h⟩
    · exact ⟨.ice, h⟩
  · rintro ⟨u, hu⟩
    cases u <;> simp_all [State.unitLost, PerUnit.get]

theorem State.fanFault_iff (s : State) : s.fanFault = true ↔ ∃ f, (s.route.fans.get f).stalled = true := by
  constructor
  · intro h
    simp only [State.fanFault, Bool.or_eq_true] at h
    rcases h with (h | h) | h
    · exact ⟨.freezer, h⟩
    · exact ⟨.fresh, h⟩
    · exact ⟨.condenser, h⟩
  · rintro ⟨f, hf⟩
    cases f <;> simp_all [State.fanFault, PerFan.get]

theorem State.holds_iff (s : State) (z : Zone) : s.holds z = true ↔ ∃ g, s.arb.grant = some g ∧ g.zone = z := by
  unfold State.holds
  cases s.arb.grant <;> simp

/-! ## The drives in RUN -/

theorem State.anyOpen_freeze (s : State) :
    s.anyOpen [.freeze] = true ↔ (s.doors.door.get .freeze).state = .isOpen := by
  simp [State.anyOpen]

/-- The doors asked of the freezer fan are those of the zone of the route in force (R107). -/
theorem State.freezerDrive_run {s : State} (hrun : s.mode.opState = .run) :
    s.freezerDrive =
      if s.defrost.fanBlock = true ∨ (s.doors.door.get .freeze).state = .isOpen ∨
          ∃ z, s.routeZone = some z ∧ s.zoneDoorOpen z = true then 0
      else (s.coolingDrive .freezer).getD 0 := by
  have hdoor : ∀ z, s.zoneDoorOpen z = s.anyOpen z.doors := fun _ => rfl
  have hnone : s.anyOpen [] = false := rfl
  simp only [hdoor, ← s.anyOpen_freeze]
  unfold State.freezerDrive
  rw [hrun]
  dsimp only
  cases hblock : s.defrost.fanBlock with
  | true => simp
  | false =>
    cases hfreeze : s.anyOpen [.freeze] with
    | true => simp
    | false => cases hzone : s.routeZone <;> simp [hnone]

/-- The freezer fan's share of Table 5-1, by the grant in COOLING or RUNOUT (R107). -/
theorem State.coolingDrive_freezer (s : State) :
    (s.coolingDrive .freezer).getD 0 =
      match s.arb.grant with
      | some g =>
        if g.phase = .cooling ∧ s.route.preFreezer = .ended then
          (match g.zone with | .fresh => 0 | .freeze => 100 | .flex => 70 | .ice => 60)
        else 0
      | none =>
        if s.arb.idle = some .runout ∧ s.route.preFreezer = .ended then
          (match s.arb.lastRoute with
          | some .freeze => 100 | some .flex => 70 | some .ice => 60 | some .fresh => 0 | none => 0)
        else 0 := by
  unfold State.coolingDrive State.routeZone
  cases hgrant : s.arb.grant with
  | some g =>
    by_cases hphase : g.phase = .cooling <;> by_cases hended : s.route.preFreezer = .ended <;>
      cases hz : g.zone <;> simp [hphase, hended, hz, Zone.fan, Zone.fanDrive, Route.preChill]
  | none =>
    by_cases hidle : s.arb.idle = some .runout
    · cases hlast : s.arb.lastRoute with
      | none => simp [hidle]
      | some z =>
        by_cases hended : s.route.preFreezer = .ended <;> cases z <;>
          simp [hidle, hended, Zone.fan, Zone.fanDrive, Route.preChill]
    · simp [hidle]

/-- The fresh fan's share, where a grant or RUNOUT has one, before the air defrost (R109). -/
theorem State.coolingDrive_fresh (s : State) (air : Nat) :
    (match s.coolingDrive .fresh with | some d => d | none => air) =
      match s.arb.grant with
      | some g => if g.phase = .cooling ∧ g.zone = .fresh then (if s.route.preFresh = .ended then 80 else 0) else air
      | none =>
        if s.arb.idle = some .runout ∧ s.arb.lastRoute = some .fresh ∧ s.route.preFresh = .ended then 80 else air := by
  unfold State.coolingDrive State.routeZone
  cases hgrant : s.arb.grant with
  | some g =>
    by_cases hphase : g.phase = .cooling <;> cases hz : g.zone <;>
      simp [hphase, hz, Zone.fan, Zone.fanDrive, Route.preChill]
  | none =>
    by_cases hidle : s.arb.idle = some .runout
    · cases hlast : s.arb.lastRoute with
      | none => simp [hidle]
      | some z =>
        by_cases hended : s.route.preFresh = .ended <;> cases z <;>
          simp [hidle, hended, Zone.fan, Zone.fanDrive, Route.preChill]
    · simp [hidle]

/-- The fresh fan's drive in RUN: stopped by FRESH's doors, else the route's drive or the air defrost's (R109). -/
theorem State.freshDrive_run {s : State} (hrun : s.mode.opState = .run) :
    s.freshDrive =
      if s.zoneDoorOpen .fresh = true then 0
      else
        match s.coolingDrive .fresh with
        | some d => d
        | none =>
          match s.sensing.frCoil.filtered with
          | some c => if s.sensing.frCoil.state = .valid ∧ c < 0 then 40 else 0
          | none => 0 := by
  unfold State.freshDrive
  rw [hrun]
  simp only [State.anyOpen, State.zoneDoorOpen, Zone.doors, Bool.and_eq_true, decide_eq_true_eq]
  rfl

theorem State.commandedOn_or_postRun (s : State) :
    (s.commandedOn || s.comp.postRun.isSome) = true ↔ s.comp.command ≠ 0 ∨ s.comp.postRun ≠ none := by
  simp [State.commandedOn, Option.isSome_iff_ne_none]

/-! ## The statement -/

/-- The fans after an event in each operating state (R107, R109, R132). -/
theorem condenserDrive_run {s : State} (hrun : s.mode.opState = .run) :
    s.condenserDrive = if s.comp.command ≠ 0 ∨ s.comp.postRun ≠ none then s.comp.fanLevel else 0 := by
  unfold State.condenserDrive
  rw [hrun]
  simp only [s.commandedOn_or_postRun]

theorem condenserDrive_service {s : State} (hservice : s.mode.opState = .service) :
    s.condenserDrive =
      if s.comp.command ≠ 0 ∨ s.comp.postRun ≠ none then max s.comp.fanLevel s.service.fanCondenser
      else s.service.fanCondenser := by
  unfold State.condenserDrive
  rw [hservice]
  simp only [s.commandedOn_or_postRun]

/-- Settles O7: the outputs and the live conditions are those of the state after the event, by their rules. -/
theorem whatFollowsPresents : Obligations.WhatFollowsPresents := by
  rintro s f rfl
  have hfreezer : (finish s).route.fans.freezer.commanded = (finish s).freezerDrive := finish_commanded s .freezer
  have hfresh : (finish s).route.fans.fresh.commanded = (finish s).freshDrive := finish_commanded s .fresh
  have hcondenser : (finish s).route.fans.condenser.commanded = (finish s).condenserDrive :=
    finish_commanded s .condenser
  have hheater := finish_heater s
  have hdeviceLive := finish_deviceLive s
  have hzoneLive := finish_zoneLive s
  have hpending : (finish s).link.noticePending =
      (s.link.noticePending || (s.events.latchEmpty && !(finish s).events.latchEmpty)) := rfl
  have hdeviceLatched := finish_deviceLatched s
  have hzoneLatched := finish_zoneLatched s
  have houtput := finish_output s
  generalize finish s = f at *
  refine ⟨?_, houtput, fun hinit => ?_, fun hservice => ?_, fun hrun => ?_, rfl, ?_, ?_, hpending⟩
  · rw [hheater]
    simp only [State.heaterRule, State.commandedOn, Bool.and_eq_true, Bool.or_eq_true, Bool.not_eq_true', decide_eq_true_eq,
      Bool.and_eq_false_iff, decide_eq_false_iff_not, not_and_or]
  · rw [hfreezer, hfresh, hcondenser]
    simp [State.freezerDrive, State.freshDrive, State.condenserDrive, hinit]
  · rw [hfreezer, hfresh, hcondenser, condenserDrive_service hservice]
    simp [State.freezerDrive, State.freshDrive, hservice]
  · rw [hfreezer, hfresh, hcondenser, condenserDrive_run hrun, State.freezerDrive_run hrun, State.freshDrive_run hrun]
    refine ⟨rfl, fun hblock => if_pos (.inl hblock), fun hfreeze => if_pos (.inr (.inl hfreeze)),
      fun z hz hopen => if_pos (.inr (.inr ⟨z, hz, hopen⟩)), fun hblock hfreeze hclosed => ?_, fun hopen => if_pos hopen,
      fun hclosed air hair => ?_⟩
    · have hdrive : ¬ (f.defrost.fanBlock = true ∨ (f.doors.door.get .freeze).state = .isOpen ∨
          ∃ z, f.routeZone = some z ∧ f.zoneDoorOpen z = true) := by
        rintro (h | h | ⟨z, hz, hopen⟩)
        · simp [hblock] at h
        · exact hfreeze h
        · simp [hclosed z hz] at hopen
      exact (if_neg hdrive).trans (State.coolingDrive_freezer f)
    · subst hair
      rw [if_neg (by simp [hclosed])]
      exact State.coolingDrive_fresh f _
  · intro z e he
    subst he
    rw [hzoneLive z]
    refine ⟨fun habsent => by simp [State.zoneConditions, habsent], fun hpresent => ?_, hzoneLive z ▸ hzoneLatched z⟩
    obtain ⟨h0, h1, h2, h3, h4, h5, h6, h7⟩ := getLsbD_bits ((f.zones.get z).demand = .calling) (f.holds z)
      (f.doors.zone.get z).isOpen (f.doors.zone.get z).ajar (f.sensorFault z) (f.isolated z) (f.held z) (f.zones.get z).warm
    rw [State.zoneConditions_bits hpresent, h0, h1, h2, h3, h4, h5, h6, h7]
    exact ⟨by simp, f.holds_iff z, rfl, rfl, f.sensorFault_iff z, rfl, rfl, rfl⟩
  · intro e he
    subst he
    rw [hdeviceLive]
    obtain ⟨h0, h1, h2, h3, h4, h5, h6, h7⟩ := getLsbD_bits (f.defrost.phase ≠ .idle) (f.comp.state = .faultHold)
      (f.comp.state = .lockout) f.unitLost f.fanFault f.strap.fault (f.mode.opState = .service) f.arb.forced.isSome
    unfold State.deviceConditions at hdeviceLive ⊢
    rw [h0, h1, h2, h3, h4, h5, h6, h7]
    exact ⟨by simp, by simp, by simp, f.unitLost_iff, f.fanFault_iff, rfl, by simp, rfl, hdeviceLive ▸ hdeviceLatched⟩

end Sys2Proof.Machine
end

section
/-!
PROOFS. A tick: which events fall due with it, and what it does at each block (statement O3).
-/
namespace Sys2Proof.Machine

/-! ## The events that fall due -/

theorem dueUp_iff (limit t : Ticks) : dueUp limit t = true ↔ limit ≤ t + 1 := by simp [dueUp]

theorem dueDown_iff (t : Ticks) : dueDown t = true ↔ t ≤ 1 := by simp [dueDown]

@[simp] theorem mem_due (i j : Instr) (b : Bool) : i ∈ due b j ↔ b = true ∧ i = j := by
  cases b <;> simp [due]

/-- The commands that end an exchange. -/
def endsExchange : Instr → Bool
  | .setExchangeSuccess => true
  | .statusExchangeSuccess _ => true
  | .exchangeFailure _ => true
  | .responseLimitExpiry _ => true
  | _ => false

/-- The commands of a door's debounce. -/
def ofDebounce : Instr → Bool
  | .doorFirstReading _ _ => true
  | .doorOpening _ => true
  | .doorClosing _ => true
  | _ => false

theorem endsExchange_of_mem {b : Bus} {i : Instr} (h : i ∈ exchangeDue b) : endsExchange i = true := by
  unfold exchangeDue at h
  split at h
  · dsimp only at h
    split at h
    · obtain rfl := List.mem_singleton.mp h
      rfl
    · obtain rfl := List.mem_singleton.mp h
      rfl
    · split at h <;> obtain rfl := List.mem_singleton.mp h <;> rfl
    · cases h
  · cases h

theorem ofDebounce_of_mem_doorDue {d : Door} {r : DoorRec} {i : Instr} (h : i ∈ doorDue d r) : ofDebounce i = true := by
  unfold doorDue at h
  split at h
  · split at h
    · obtain rfl := List.mem_singleton.mp h
      rfl
    · obtain rfl := List.mem_singleton.mp h
      rfl
    · obtain rfl := List.mem_singleton.mp h
      rfl
    · cases h
  · cases h

theorem ofDebounce_of_mem {s : State} {i : Instr} (h : i ∈ doorsDue s) : ofDebounce i = true := by
  unfold doorsDue at h
  split at h
  · simp only [List.mem_append] at h
    rcases h with ((h | h) | h) | h <;> exact ofDebounce_of_mem_doorDue h
  · cases h

/-- The events that neither an exchange nor a door's debounce brings. -/
theorem mem_dueEvents {s : State} {i : Instr} (hexchange : endsExchange i = false) (hdoor : ofDebounce i = false) :
    i ∈ dueEvents s ↔
      i ∈ linkDue s ∨ s.bus.checkDue = true ∧ i = .faultCheckExpiry s.bus.nextLine ∨
        s.bus.boundaryDue = true ∧ i = .slotBoundary ∨ s.sweepDue = true ∧ i = .sensingSweepStart ∨ i ∈ zoneDue s ∨
        i ∈ routeDue s ∨ i ∈ compDue s ∨ i ∈ arbDue s ∨ i ∈ defrostDue s ∨
        s.serviceTimerDue = true ∧ i = .serviceTimerExpiry := by
  have hx : i ∉ exchangeDue s.bus := fun h => by
    rw [endsExchange_of_mem h] at hexchange
    cases hexchange
  have hd : i ∉ doorsDue s := fun h => by
    rw [ofDebounce_of_mem h] at hdoor
    cases hdoor
  simp only [dueEvents, busDue, List.mem_append, mem_due, hx, hd, false_or, or_assoc]

theorem mem_linkDue (s : State) (i : Instr) :
    i ∈ linkDue s ↔
      (s.link.receiver ≠ .hunt ∧ 13 ≤ s.link.gap + 1) ∧ i = .gapTimeout ∨
        (s.link.transmitter = .sendingReply ∧ s.link.sendLeft ≤ 2) ∧ i = .replyEnd ∨
        (s.link.transmitter = .sendingNotice ∧ s.link.sendLeft ≤ 2) ∧ i = .noticeEnd := by
  simp [linkDue, dueUp, gapSilence, Link.sendDue]

theorem mem_zoneDue (s : State) (i : Instr) :
    i ∈ zoneDue s ↔
      ∃ z, s.blindDue z = true ∧ i = .blindPhaseExpiry z ∨ s.warmDue z = true ∧ i = .warmTimerExpiry z ∨
        s.ajarDue z = true ∧ i = .ajarDelayReached z ∨ s.isolationDue z = true ∧ i = .isolationHoldExpiry z := by
  simp only [zoneDue, List.mem_flatMap, List.mem_append, mem_due, or_assoc]
  exact exists_congr fun z => and_iff_right (mem_allZones z)

theorem mem_fanDue (f : Fan) (r : FanRec) (i : Instr) :
    i ∈ fanDue f r ↔ r.stallDue = true ∧ i = .fanStall f ∨ r.restDue = true ∧ i = .fanRestEnd f := by
  simp [fanDue]

theorem mem_routeDue (s : State) (i : Instr) :
    i ∈ routeDue s ↔
      s.route.valve.moveDue = true ∧ i = .valveMoveEnd ∨ s.route.valve.driveDue = true ∧ i = .homingDriveEnd ∨
        s.routeTimeoutDue = true ∧ i = .routeTimeout ∨ s.preChillDue .freezer = true ∧ i = .preChillTimeout .freezer ∨
        s.preChillDue .fresh = true ∧ i = .preChillTimeout .fresh ∨ ∃ f, i ∈ fanDue f (s.route.fans.get f) := by
  have hfans : (∃ f, i ∈ fanDue f (s.route.fans.get f)) ↔
      i ∈ fanDue .freezer s.route.fans.freezer ∨ i ∈ fanDue .fresh s.route.fans.fresh ∨
        i ∈ fanDue .condenser s.route.fans.condenser := by
    constructor
    · rintro ⟨f, hf⟩
      cases f
      · exact .inl hf
      · exact .inr (.inl hf)
      · exact .inr (.inr hf)
    · rintro (h | h | h)
      · exact ⟨.freezer, h⟩
      · exact ⟨.fresh, h⟩
      · exact ⟨.condenser, h⟩
  rw [hfans]
  simp only [routeDue, List.mem_append, mem_due, or_assoc]

theorem mem_ageDues (c : Compressor) (i : Instr) :
    i ∈ ageDues c ↔
      (c.state ≠ .lockout ∧ ∃ f ∈ c.faults, 3600 * 9600 ≤ f.age + 1) ∧ i = .faultEntryAgeOut := by
  unfold ageDues
  by_cases h : c.state = .lockout
  · simp [h]
  · rw [if_neg h, List.mem_map]
    constructor
    · rintro ⟨f, hf, rfl⟩
      obtain ⟨hmem, hdue⟩ := List.mem_filter.mp hf
      exact ⟨⟨h, f, hmem, (dueUp_iff _ _).mp hdue⟩, rfl⟩
    · rintro ⟨⟨-, f, hmem, hdue⟩, rfl⟩
      exact ⟨f, List.mem_filter.mpr ⟨hmem, (dueUp_iff _ _).mpr hdue⟩, rfl⟩

theorem mem_compDue (s : State) (i : Instr) :
    i ∈ compDue s ↔
      i ∈ ageDues s.comp ∨ s.comp.speedDue = true ∧ i = .speedPeriodExpiry ∨ s.minOffDue = true ∧ i = .minOffElapsed ∨
        s.minOnDue = true ∧ i = .minOnMet ∨ s.runWatchDue = true ∧ i = .runWatchExpiry ∨
        s.comp.holdDue = true ∧ i = .faultHoldExpiry ∨ s.comp.postRunDue = true ∧ i = .postRunExpiry := by
  simp only [compDue, List.mem_append, mem_due, or_assoc]

theorem mem_arbDue (s : State) (i : Instr) :
    i ∈ arbDue s ↔
      s.minDwellDue = true ∧ i = .minDwellMet ∨ s.maxDwellDue = true ∧ i = .maxDwellExpiry ∨
        s.forcedDue = true ∧ i = .forcedRecordExpiry ∨ s.parkDue = true ∧ i = .parkTimerExpiry := by
  simp only [arbDue, List.mem_append, mem_due, or_assoc]

theorem mem_defrostDue (s : State) (i : Instr) :
    i ∈ defrostDue s ↔
      s.defrost.minuteDue = true ∧ i = .minuteEvaluation ∨ s.defrost.heatDue false = true ∧ i = .maxHeatExpiry ∨
        s.defrost.heatDue true = true ∧ i = .timeBlindExpiry ∨ s.defrost.dripDue = true ∧ i = .dripEnd ∨
        s.defrost.releaseDue = true ∧ i = .fanReleaseTimeout := by
  simp only [defrostDue, List.mem_append, mem_due, or_assoc]

/-! ## When each of them is due -/

section Due

variable (s : State)

theorem State.blindDue_iff (z : Zone) : s.blindDue z = true ↔ ∃ b, (s.zones.get z).blind = some b ∧ b.left ≤ 1 := by
  unfold State.blindDue
  cases (s.zones.get z).blind <;> simp [dueDown]

theorem State.warmDue_iff (z : Zone) :
    s.warmDue z = true ↔ (s.zones.get z).warmRunning = true ∧ s.zoneDoorOpen z = false ∧ (s.zones.get z).warm = false ∧
      3600 * 9600 ≤ (s.zones.get z).warmFor + 1 := by
  simp [State.warmDue, State.warmGathering, dueUp, sec, and_assoc]

theorem State.ajarDue_iff (z : Zone) :
    s.ajarDue z = true ↔ (s.doors.zone.get z).isOpen = true ∧ (s.doors.zone.get z).ajar = false ∧
      s.settings.door.ajarDelay * 9600 ≤ (s.doors.zone.get z).openFor + 1 := by
  simp only [State.ajarDue, Bool.and_eq_true, Bool.not_eq_true', dueUp_iff, and_assoc, sec]

theorem State.isolationDue_iff (z : Zone) :
    s.isolationDue z = true ↔ ∃ x, (s.zones.get z).isolation = some x ∧ x ≤ 1 := by
  unfold State.isolationDue
  cases (s.zones.get z).isolation <;> simp [dueDown]

theorem Bus.boundaryDue_iff (b : Bus) : b.boundaryDue = true ↔ b.mode ≠ .stopped ∧ 384 ≤ b.slotFor + 1 := by
  simp [Bus.boundaryDue, dueUp, slotTicks]

theorem Bus.checkDue_iff (b : Bus) :
    b.checkDue = true ↔ b.mode = .fault ∧ ∃ x, b.checkTimer = some x ∧ 9600 ≤ x + 1 := by
  unfold Bus.checkDue
  cases b.checkTimer <;> simp [dueUp, sec]

theorem State.sweepDue_iff : s.sweepDue = true ↔ ∃ x, s.sensing.sweepTimer = some x ∧ 19200 ≤ x + 1 := by
  unfold State.sweepDue
  cases s.sensing.sweepTimer <;> simp [dueUp, sweepTicks, sec]

theorem stepsLeft_le_one (counter target : Nat) :
    stepsLeft counter target ≤ 1 ↔ target ≤ counter + 1 ∧ counter ≤ target + 1 := by
  unfold stepsLeft
  omega

theorem Move.stepDue_iff (m : Move) : m.stepDue = true ↔ 240 ≤ m.step + 1 := by simp [Move.stepDue, dueUp, stepTicks]

theorem Valve.moveDue_iff (v : Valve) :
    v.moveDue = true ↔
      ∃ m goal, v.move = some m ∧ goal = m.target.counter ∧ 240 ≤ m.step + 1 ∧ goal ≤ v.counter + 1 ∧
        v.counter ≤ goal + 1 := by
  unfold Valve.moveDue
  cases v.move with
  | none => simp
  | some m =>
    simp only [Bool.and_eq_true, decide_eq_true_eq, stepsLeft_le_one, Move.stepDue_iff, Option.some.injEq]
    constructor
    · rintro ⟨⟨hlow, hhigh⟩, hstep⟩
      exact ⟨m, _, rfl, rfl, hstep, hlow, hhigh⟩
    · rintro ⟨_, _, rfl, rfl, hstep, hlow, hhigh⟩
      exact ⟨⟨hlow, hhigh⟩, hstep⟩

theorem Valve.driveDue_iff (v : Valve) : v.driveDue = true ↔ ∃ x, v.drive = some x ∧ 184 * 240 ≤ x + 1 := by
  unfold Valve.driveDue
  cases v.drive <;> simp [dueUp, driveTicks, stepTicks]

theorem State.routeTimeoutDue_iff :
    s.routeTimeoutDue = true ↔ ∃ a, s.route.app = some a ∧ a.inPlace = false ∧ 20 * 9600 ≤ a.timer + 1 := by
  unfold State.routeTimeoutDue
  cases s.route.app <;> simp [dueUp, sec]

/-- A grant in COOLING counts the pre-chill record of its route's fan (R108). -/
theorem State.preChillCounts_iff (f : EvapFan) :
    s.preChillCounts f = true ↔ ∃ g, s.arb.grant = some g ∧ g.phase = .cooling ∧ g.zone.fan = f := by
  unfold State.preChillCounts
  cases s.arb.grant <;> simp

theorem State.preChillDue_iff (f : EvapFan) :
    s.preChillDue f = true ↔
      s.preChillCounts f = true ∧ ∃ e, s.route.preChill f = .running e ∧ 90 * 9600 ≤ e + 1 := by
  unfold State.preChillDue
  cases s.route.preChill f <;> simp [dueUp, sec]

theorem FanRec.stallDue_iff (r : FanRec) :
    r.stallDue = true ↔ r.rest = none ∧ 20 ≤ r.output ∧ 10 * 9600 ≤ r.watch + 1 := by
  simp [FanRec.stallDue, dueUp, sec, and_assoc]

theorem FanRec.restDue_iff (r : FanRec) : r.restDue = true ↔ ∃ x, r.rest = some x ∧ 50 * 9600 ≤ x + 1 := by
  unfold FanRec.restDue
  cases r.rest <;> simp [dueUp, sec]

theorem Compressor.speedDue_iff (c : Compressor) :
    c.speedDue = true ↔ c.state = .running ∧ ∃ x, c.speedTimer = some x ∧ 10 * 9600 ≤ x + 1 := by
  unfold Compressor.speedDue
  cases c.speedTimer <;> simp [dueUp, sec]

theorem State.minOffDue_iff : s.minOffDue = true ↔ s.comp.stopFor + 1 = s.settings.comp.minOff * 9600 := by
  have hdue : s.minOffDue = true ↔
      ¬s.settings.comp.minOff * 9600 ≤ s.comp.stopFor ∧ s.settings.comp.minOff * 9600 ≤ s.comp.stopFor + 1 := by
    rw [State.minOffDue, Bool.and_eq_true, dueUp_iff, Bool.not_eq_true', State.minOffElapsed, decide_eq_false_iff_not]
    rfl
  rw [hdue]
  unfold Ticks
  omega

theorem State.minOnDue_iff :
    s.minOnDue = true ↔ s.comp.state = .running ∧ s.comp.runFor + 1 = s.settings.comp.minOn * 9600 := by
  have hdue : s.minOnDue = true ↔
      (s.comp.state = .running ∧ ¬s.settings.comp.minOn * 9600 ≤ s.comp.runFor) ∧
        s.settings.comp.minOn * 9600 ≤ s.comp.runFor + 1 := by
    rw [State.minOnDue, Bool.and_eq_true, Bool.and_eq_true, decide_eq_true_eq, dueUp_iff, Bool.not_eq_true',
      State.minOnMet, decide_eq_false_iff_not]
    rfl
  rw [hdue, and_assoc]
  refine and_congr_right fun _ => ?_
  unfold Ticks
  omega

theorem State.runWatchDue_iff :
    s.runWatchDue = true ↔ s.compAvailable = true ∧ ∃ x, s.comp.runWatch = some x ∧ 30 * 9600 ≤ x + 1 := by
  unfold State.runWatchDue
  cases s.comp.runWatch <;> simp [dueUp, sec]

theorem Compressor.holdDue_iff (c : Compressor) :
    c.holdDue = true ↔ c.state = .faultHold ∧ ∃ x, c.hold = some x ∧ x ≤ 1 := by
  unfold Compressor.holdDue
  cases c.hold <;> simp [dueDown]

theorem Compressor.postRunDue_iff (c : Compressor) : c.postRunDue = true ↔ ∃ x, c.postRun = some x ∧ x ≤ 1 := by
  unfold Compressor.postRunDue
  cases c.postRun <;> simp [dueDown]

theorem State.minDwellDue_iff :
    s.minDwellDue = true ↔ ∃ g, s.arb.grant = some g ∧ g.phase = .cooling ∧ g.minLeft = 1 := by
  unfold State.minDwellDue
  cases s.arb.grant <;> simp

theorem State.maxDwellDue_iff :
    s.maxDwellDue = true ↔ ∃ g, s.arb.grant = some g ∧ g.phase = .cooling ∧ g.maxLeft ≤ 1 := by
  unfold State.maxDwellDue
  cases s.arb.grant <;> simp [dueDown]

theorem State.forcedDue_iff : s.forcedDue = true ↔ ∃ f, s.arb.forced = some f ∧ f.left ≤ 1 := by
  unfold State.forcedDue
  cases s.arb.forced <;> simp [dueDown]

theorem State.parkDue_iff :
    s.parkDue = true ↔ s.arb.idle = some .parkDelay ∧ ∃ x, s.arb.parkTimer = some x ∧ x ≤ 1 := by
  unfold State.parkDue
  cases s.arb.parkTimer <;> simp [dueDown]

theorem Defrost.minuteDue_iff (d : Defrost) :
    d.minuteDue = true ↔ d.phase = .idle ∧ ∃ m, d.minute = some m ∧ 60 * 9600 ≤ m.elapsed + 1 := by
  unfold Defrost.minuteDue
  cases d.minute <;> simp [dueUp, mins]

theorem Defrost.heatDue_iff (d : Defrost) (blind : Bool) :
    d.heatDue blind = true ↔
      d.phase = .heat ∧ ∃ c, d.context = some c ∧ c.blind = blind ∧ c.heatLimit ≤ c.heatFor + 1 := by
  unfold Defrost.heatDue
  cases d.context <;> simp [dueUp, and_assoc]

theorem Defrost.dripDue_iff (d : Defrost) :
    d.dripDue = true ↔ d.phase = .drip ∧ ∃ c, d.context = some c ∧ c.drip * 60 * 9600 ≤ c.dripFor + 1 := by
  unfold Defrost.dripDue
  cases d.context <;> simp [dueUp_iff, DefrostContext.dripLimit, sec]

theorem Defrost.releaseDue_iff (d : Defrost) :
    d.releaseDue = true ↔ d.phase = .recover ∧ 240 * 9600 ≤ d.phaseFor + 1 := by
  simp [Defrost.releaseDue, dueUp, sec]

theorem State.serviceTimerDue_iff :
    s.serviceTimerDue = true ↔ s.mode.opState = .service ∧ ∃ x, s.mode.serviceTimer = some x ∧ x ≤ 1 := by
  unfold State.serviceTimerDue
  cases s.mode.serviceTimer <;> simp [dueDown]

/-- The limit of a HEAT as the blind mark gives it (R143(b), R144). -/
theorem DefrostContext.heatLimit_eq (c : DefrostContext) :
    c.heatLimit = (if c.blind = true then min 1200 (c.maxHeat * 60) else c.maxHeat * 60) * 9600 := by
  unfold DefrostContext.heatLimit DefrostContext.blindLimit sec
  split <;> rfl

end Due

/-! ## One tick at each block -/

theorem ZoneDoor.tick_eq (delay : Nat) (m : ZoneDoor) :
    m.tick delay =
      { m with
        openFor :=
          if m.isOpen = true ∧ (m.ajar = true ∨ m.openFor + 1 < delay * 9600) then satUp m.openFor else m.openFor } := by
  have hlimit : dueUp (sec delay) m.openFor = true ↔ ¬m.openFor + 1 < delay * 9600 := by
    rw [dueUp_iff]
    exact Nat.not_lt.symm
  unfold ZoneDoor.tick
  congr 1
  cases hopen : m.isOpen
  · simp
  · cases hajar : m.ajar
    · by_cases hdue : dueUp (sec delay) m.openFor = true
      · simp [hdue, hlimit.mp hdue]
      · simp [hdue, not_not.mp (mt hlimit.mpr hdue)]
    · simp

theorem PerDoor.get_tick (s : State) (d : Door) :
    (s.doors.tick s.settings.door.ajarDelay).door.get d = (s.doors.door.get d).tick s.doors.sampling := by
  cases d <;> rfl

theorem PerFan.get_tick (s : State) (f : Fan) : (tickRoute s).fans.get f = (s.route.fans.get f).tick := by
  cases f <;> rfl

theorem FanRec.tick_eq (r : FanRec) :
    r.tick =
      { r with
        rest := r.rest.map (countUp (sec 50))
        watch := if r.rest = none ∧ 20 ≤ r.output then countUp (sec 10) r.watch else r.watch } := by
  unfold FanRec.tick
  simp only [Bool.and_eq_true, decide_eq_true_eq, Option.isNone_iff_eq_none]

theorem Grant.tick_eq (g : Grant) :
    g.tick =
      if g.phase = .cooling then
        { g with coolingFor := satUp g.coolingFor, minLeft := countDown g.minLeft, maxLeft := countDown g.maxLeft }
      else g := by
  unfold Grant.tick
  cases g.phase <;> rfl

/-- Without a move the valve's tick reaches its drive alone. -/
theorem Valve.tick_of_no_move {v : Valve} (h : v.move = none) :
    v.tick = { v with drive := v.drive.map (countUp driveTicks) } := by
  unfold Valve.tick Valve.tickMove
  simp only [h]

/-- A move advances within its step; at the end of one it goes a step toward its target, the last apart (R95). -/
theorem Valve.tick_of_move {v : Valve} {m : Move} (h : v.move = some m) :
    (m.step + 1 < 240 → v.tick = { v with
        move := some { m with step := m.step + 1 }, drive := v.drive.map (countUp driveTicks) }) ∧
      (240 ≤ m.step + 1 →
        (v.counter + 1 < m.target.counter → v.tick = { v with
            counter := v.counter + 1, move := some { m with step := 0 }, drive := v.drive.map (countUp driveTicks) }) ∧
        (m.target.counter + 1 < v.counter → v.tick = { v with
            counter := v.counter - 1, move := some { m with step := 0 }, drive := v.drive.map (countUp driveTicks) }) ∧
        (v.counter ≤ m.target.counter + 1 → m.target.counter ≤ v.counter + 1 →
          v.tick = { v with drive := v.drive.map (countUp driveTicks) })) := by
  have hstep := m.stepDue_iff
  unfold Valve.tick Valve.tickMove
  simp only [h, stepsLeft_le_one]
  refine ⟨fun hless => ?_, fun hdue => ⟨fun hup => ?_, fun hdown => ?_, fun hlow hhigh => ?_⟩⟩
  · rw [if_neg (by rw [hstep]; exact Nat.not_le.mpr hless)]
  · rw [if_pos (hstep.mpr hdue), if_neg (by omega), if_pos (by omega)]
  · rw [if_pos (hstep.mpr hdue), if_neg (by omega), if_neg (by omega)]
  · rw [if_pos (hstep.mpr hdue), if_pos ⟨hhigh, hlow⟩, h]

/-- Counter, move and drive are all that time changes of the valve. -/
theorem Valve.tick_frame (v : Valve) :
    v.tick = { v with counter := v.tick.counter, move := v.tick.move, drive := v.drive.map (countUp driveTicks) } := by
  unfold Valve.tick Valve.tickMove
  split
  · split
    · split <;> rfl
    · rfl
  · rfl

theorem Minute.tick_eq (running : Bool) (m : Minute) :
    m.tick running =
      if 60 * 9600 ≤ m.elapsed + 1 then m
      else if (m.elapsed + 1) % 9600 = 0 then
        ⟨m.elapsed + 1, m.fzRun + (if m.unbroken = true then 1 else 0), running, m.door⟩
      else { m with elapsed := m.elapsed + 1 } := by
  have hlimit : dueUp (mins 1) m.elapsed = true ↔ 60 * 9600 ≤ m.elapsed + 1 := dueUp_iff _ _
  unfold Minute.tick
  by_cases hdue : dueUp (mins 1) m.elapsed = true
  · rw [if_pos hdue, if_pos (hlimit.mp hdue)]
  · rw [if_neg hdue, if_neg (mt hlimit.mpr hdue)]
    cases m.unbroken <;> rfl

theorem DefrostContext.tick_eq (phase : DefrostPhase) (c : DefrostContext) :
    c.tick phase =
      { c with
        heatFor :=
          if phase = .heat then
            countUp ((if c.blind = true then min 1200 (c.maxHeat * 60) else c.maxHeat * 60) * 9600) c.heatFor
          else c.heatFor
        dripFor := if phase = .drip then countUp (c.drip * 60 * 9600) c.dripFor else c.dripFor } := by
  unfold DefrostContext.tick
  rw [c.heatLimit_eq]
  rfl

/-- A pre-chill record that counts advances while it runs; another one stands (R108). -/
theorem PreChill.tick_running (counts : Bool) (e : Ticks) :
    (PreChill.running e).tick counts = if counts = true then .running (countUp (sec 90) e) else .running e := rfl

theorem PreChill.tick_stands {counts : Bool} {p : PreChill} (h : counts = false ∨ ∀ e, p ≠ .running e) :
    p.tick counts = p := by
  cases p with
  | running e =>
    rcases h with h | h
    · simp [PreChill.tick, h]
    · exact absurd rfl (h e)
  | _ => rfl

/-- Time leaves slot and data of an exchange. -/
theorem Exchange.advance_bare (slotFor : Ticks) (e : Exchange) :
    ({ e.advance slotFor with heard := [] } : Exchange) = { e with heard := [] } := by
  obtain ⟨hslot, hdata, -, -⟩ := e.advance_spec slotFor
  dsimp only
  rw [hslot, hdata]

/-- The grants that count the pre-chill record of the freezer fan. -/
theorem State.preChillCounts_freezer (s : State) :
    s.preChillCounts .freezer = true ↔
      (∃ g, s.arb.grant = some g ∧ g.phase = .cooling ∧ g.zone = .freeze) ∨
        (∃ g, s.arb.grant = some g ∧ g.phase = .cooling ∧ g.zone = .flex) ∨
        ∃ g, s.arb.grant = some g ∧ g.phase = .cooling ∧ g.zone = .ice := by
  rw [State.preChillCounts_iff]
  constructor
  · rintro ⟨g, hg, hphase, hfan⟩
    cases hz : g.zone with
    | fresh => simp [hz, Zone.fan] at hfan
    | freeze => exact .inl ⟨g, hg, hphase, hz⟩
    | flex => exact .inr (.inl ⟨g, hg, hphase, hz⟩)
    | ice => exact .inr (.inr ⟨g, hg, hphase, hz⟩)
  · rintro (⟨g, hg, hphase, hz⟩ | ⟨g, hg, hphase, hz⟩ | ⟨g, hg, hphase, hz⟩) <;>
      exact ⟨g, hg, hphase, by rw [hz]; rfl⟩

theorem State.preChillCounts_fresh (s : State) :
    s.preChillCounts .fresh = true ↔ ∃ g, s.arb.grant = some g ∧ g.phase = .cooling ∧ g.zone = .fresh := by
  rw [State.preChillCounts_iff]
  refine exists_congr fun g => and_congr_right fun _ => and_congr_right fun _ => ?_
  cases g.zone <;> simp [Zone.fan]

end Sys2Proof.Machine
end

section
/-!
PROOFS. The statement about a tick, block by block (statement O3).
-/
namespace Sys2Proof.Machine

theorem tick_pending (s : State) : (tick s).pending = dueEvents s := rfl

/-- The membership of a due event, by the lists of the blocks. -/
theorem mem_tick_pending {s : State} {i : Instr} (hexchange : endsExchange i = false) (hdoor : ofDebounce i = false) :
    i ∈ (tick s).pending ↔
      i ∈ linkDue s ∨ s.bus.checkDue = true ∧ i = .faultCheckExpiry s.bus.nextLine ∨
        s.bus.boundaryDue = true ∧ i = .slotBoundary ∨ s.sweepDue = true ∧ i = .sensingSweepStart ∨ i ∈ zoneDue s ∨
        i ∈ routeDue s ∨ i ∈ compDue s ∨ i ∈ arbDue s ∨ i ∈ defrostDue s ∨
        s.serviceTimerDue = true ∧ i = .serviceTimerExpiry :=
  mem_dueEvents hexchange hdoor

/-- A zone's timers raise their own events. -/
theorem mem_tick_zone (s : State) (z : Zone) :
    (.blindPhaseExpiry z ∈ (tick s).pending ↔ s.blindDue z = true) ∧
      (.warmTimerExpiry z ∈ (tick s).pending ↔ s.warmDue z = true) ∧
      (.ajarDelayReached z ∈ (tick s).pending ↔ s.ajarDue z = true) ∧
      (.isolationHoldExpiry z ∈ (tick s).pending ↔ s.isolationDue z = true) := by
  refine ⟨?_, ?_, ?_, ?_⟩ <;> rw [mem_tick_pending rfl rfl] <;>
    simp [mem_linkDue, mem_zoneDue, mem_routeDue, mem_fanDue, mem_compDue, mem_ageDues, mem_arbDue, mem_defrostDue]

theorem mem_tick_fan (s : State) (f : Fan) :
    (.fanStall f ∈ (tick s).pending ↔ (s.route.fans.get f).stallDue = true) ∧
      (.fanRestEnd f ∈ (tick s).pending ↔ (s.route.fans.get f).restDue = true) := by
  refine ⟨?_, ?_⟩ <;> rw [mem_tick_pending rfl rfl] <;>
    simp [mem_linkDue, mem_zoneDue, mem_routeDue, mem_fanDue, mem_compDue, mem_ageDues, mem_arbDue, mem_defrostDue]

theorem mem_tick_preChill (s : State) (f : EvapFan) :
    .preChillTimeout f ∈ (tick s).pending ↔ s.preChillDue f = true := by
  rw [mem_tick_pending rfl rfl]
  cases f <;>
    simp [mem_linkDue, mem_zoneDue, mem_routeDue, mem_fanDue, mem_compDue, mem_ageDues, mem_arbDue, mem_defrostDue]

theorem mem_tick_faultCheck (s : State) (line : List Bool) :
    .faultCheckExpiry line ∈ (tick s).pending ↔ s.bus.checkDue = true ∧ line = s.bus.nextLine := by
  rw [mem_tick_pending rfl rfl]
  simp [mem_linkDue, mem_zoneDue, mem_routeDue, mem_fanDue, mem_compDue, mem_ageDues, mem_arbDue, mem_defrostDue]

/-- Link, bus and sensing. -/
theorem mem_tick_link (s : State) :
    (.gapTimeout ∈ (tick s).pending ↔ s.link.receiver ≠ .hunt ∧ 13 ≤ s.link.gap + 1) ∧
      (.replyEnd ∈ (tick s).pending ↔ s.link.transmitter = .sendingReply ∧ s.link.sendLeft ≤ 2) ∧
      (.noticeEnd ∈ (tick s).pending ↔ s.link.transmitter = .sendingNotice ∧ s.link.sendLeft ≤ 2) ∧
      (.slotBoundary ∈ (tick s).pending ↔ s.bus.boundaryDue = true) ∧
      (.sensingSweepStart ∈ (tick s).pending ↔ s.sweepDue = true) ∧
      (.serviceTimerExpiry ∈ (tick s).pending ↔ s.serviceTimerDue = true) := by
  refine ⟨?_, ?_, ?_, ?_, ?_, ?_⟩ <;> rw [mem_tick_pending rfl rfl] <;>
    simp [mem_linkDue, mem_zoneDue, mem_routeDue, mem_fanDue, mem_compDue, mem_ageDues, mem_arbDue, mem_defrostDue]

theorem mem_tick_route (s : State) :
    (.valveMoveEnd ∈ (tick s).pending ↔ s.route.valve.moveDue = true) ∧
      (.homingDriveEnd ∈ (tick s).pending ↔ s.route.valve.driveDue = true) ∧
      (.routeTimeout ∈ (tick s).pending ↔ s.routeTimeoutDue = true) := by
  refine ⟨?_, ?_, ?_⟩ <;> rw [mem_tick_pending rfl rfl] <;>
    simp [mem_linkDue, mem_zoneDue, mem_routeDue, mem_fanDue, mem_compDue, mem_ageDues, mem_arbDue, mem_defrostDue]

theorem mem_tick_comp (s : State) :
    (.faultEntryAgeOut ∈ (tick s).pending ↔ s.comp.state ≠ .lockout ∧ ∃ f ∈ s.comp.faults, 3600 * 9600 ≤ f.age + 1) ∧
      (.speedPeriodExpiry ∈ (tick s).pending ↔ s.comp.speedDue = true) ∧
      (.minOffElapsed ∈ (tick s).pending ↔ s.minOffDue = true) ∧ (.minOnMet ∈ (tick s).pending ↔ s.minOnDue = true) ∧
      (.runWatchExpiry ∈ (tick s).pending ↔ s.runWatchDue = true) ∧
      (.faultHoldExpiry ∈ (tick s).pending ↔ s.comp.holdDue = true) ∧
      (.postRunExpiry ∈ (tick s).pending ↔ s.comp.postRunDue = true) := by
  refine ⟨?_, ?_, ?_, ?_, ?_, ?_, ?_⟩ <;> rw [mem_tick_pending rfl rfl] <;>
    simp [mem_linkDue, mem_zoneDue, mem_routeDue, mem_fanDue, mem_compDue, mem_ageDues, mem_arbDue, mem_defrostDue]

theorem mem_tick_arb (s : State) :
    (.minDwellMet ∈ (tick s).pending ↔ s.minDwellDue = true) ∧ (.maxDwellExpiry ∈ (tick s).pending ↔ s.maxDwellDue = true) ∧
      (.forcedRecordExpiry ∈ (tick s).pending ↔ s.forcedDue = true) ∧
      (.parkTimerExpiry ∈ (tick s).pending ↔ s.parkDue = true) := by
  refine ⟨?_, ?_, ?_, ?_⟩ <;> rw [mem_tick_pending rfl rfl] <;>
    simp [mem_linkDue, mem_zoneDue, mem_routeDue, mem_fanDue, mem_compDue, mem_ageDues, mem_arbDue, mem_defrostDue]

theorem mem_tick_defrost (s : State) :
    (.minuteEvaluation ∈ (tick s).pending ↔ s.defrost.minuteDue = true) ∧
      (.maxHeatExpiry ∈ (tick s).pending ↔ s.defrost.heatDue false = true) ∧
      (.timeBlindExpiry ∈ (tick s).pending ↔ s.defrost.heatDue true = true) ∧
      (.dripEnd ∈ (tick s).pending ↔ s.defrost.dripDue = true) ∧
      (.fanReleaseTimeout ∈ (tick s).pending ↔ s.defrost.releaseDue = true) := by
  refine ⟨?_, ?_, ?_, ?_, ?_⟩ <;> rw [mem_tick_pending rfl rfl] <;>
    simp [mem_linkDue, mem_zoneDue, mem_routeDue, mem_fanDue, mem_compDue, mem_ageDues, mem_arbDue, mem_defrostDue]

/-- A HEAT reaches its limit by its blind mark (R143(b), R144). -/
theorem Defrost.heatDue_false_iff (d : Defrost) :
    d.heatDue false = true ↔
      d.phase = .heat ∧ ∃ c, d.context = some c ∧ c.blind = false ∧ c.maxHeat * 60 * 9600 ≤ c.heatFor + 1 := by
  rw [Defrost.heatDue_iff]
  refine and_congr_right fun _ => exists_congr fun c => and_congr_right fun _ => and_congr_right fun hblind => ?_
  rw [c.heatLimit_eq, hblind]
  rfl

theorem Defrost.heatDue_true_iff (d : Defrost) :
    d.heatDue true = true ↔
      d.phase = .heat ∧
        ∃ c, d.context = some c ∧ c.blind = true ∧ min 1200 (c.maxHeat * 60) * 9600 ≤ c.heatFor + 1 := by
  rw [Defrost.heatDue_iff]
  refine and_congr_right fun _ => exists_congr fun c => and_congr_right fun _ => and_congr_right fun hblind => ?_
  rw [c.heatLimit_eq, hblind]
  rfl

/-- Run and stop seconds stand one tick short of min-on and min-off, where their events are due (R119, R120). -/
theorem tickComp_eq (s : State) :
    tickComp s =
      { s.comp with
        runFor :=
          if s.comp.state = .running ∧ s.comp.runFor + 1 ≠ s.settings.comp.minOn * 9600 then satUp s.comp.runFor
          else s.comp.runFor
        stopFor :=
          if s.comp.stopFor + 1 ≠ s.settings.comp.minOff * 9600 then satUp s.comp.stopFor else s.comp.stopFor
        speedTimer := s.comp.speedTimer.map (countUp (10 * 9600))
        runWatch := s.comp.runWatch.map (countUp (30 * 9600))
        hold := s.comp.hold.map countDown
        faults :=
          if s.comp.state = .lockout then s.comp.faults
          else s.comp.faults.map fun e => { e with age := countUp (3600 * 9600) e.age }
        postRun := s.comp.postRun.map countDown } := by
  have hrun : (if s.comp.state = .running then (if s.minOnDue = true then s.comp.runFor else satUp s.comp.runFor)
        else s.comp.runFor) =
      if s.comp.state = .running ∧ s.comp.runFor + 1 ≠ s.settings.comp.minOn * 9600 then satUp s.comp.runFor
      else s.comp.runFor := by
    by_cases hstate : s.comp.state = .running
    · by_cases hdue : s.comp.runFor + 1 = s.settings.comp.minOn * 9600
      · rw [if_pos hstate, if_pos (s.minOnDue_iff.mpr ⟨hstate, hdue⟩), if_neg fun h => h.2 hdue]
      · rw [if_pos hstate, if_neg fun h => hdue (s.minOnDue_iff.mp h).2, if_pos ⟨hstate, hdue⟩]
    · rw [if_neg hstate, if_neg fun h => hstate h.1]
  have hstop : (if s.minOffDue = true then s.comp.stopFor else satUp s.comp.stopFor) =
      if s.comp.stopFor + 1 ≠ s.settings.comp.minOff * 9600 then satUp s.comp.stopFor else s.comp.stopFor := by
    by_cases hdue : s.comp.stopFor + 1 = s.settings.comp.minOff * 9600
    · rw [if_pos (s.minOffDue_iff.mpr hdue), if_neg fun h => h hdue]
    · rw [if_neg fun h => hdue (s.minOffDue_iff.mp h), if_pos hdue]
  unfold tickComp
  dsimp only
  rw [hrun, hstop]
  rfl

theorem tickDefrost_eq (s : State) :
    tickDefrost s =
      { s.defrost with
        phaseFor :=
          if s.defrost.phase = .recover ∧ 240 * 9600 ≤ s.defrost.phaseFor + 1 then s.defrost.phaseFor
          else satUp s.defrost.phaseFor
        minute :=
          if s.defrost.phase = .idle then s.defrost.minute.map (Minute.tick s.fzRunning) else s.defrost.minute
        context := s.defrost.context.map (DefrostContext.tick s.defrost.phase) } := by
  have hphase : (if s.defrost.releaseDue = true then s.defrost.phaseFor else satUp s.defrost.phaseFor) =
      if s.defrost.phase = .recover ∧ 240 * 9600 ≤ s.defrost.phaseFor + 1 then s.defrost.phaseFor
      else satUp s.defrost.phaseFor := by
    by_cases hdue : s.defrost.releaseDue = true
    · rw [if_pos hdue, if_pos ((Defrost.releaseDue_iff _).mp hdue)]
    · rw [if_neg hdue, if_neg (mt (Defrost.releaseDue_iff _).mpr hdue)]
  unfold tickDefrost
  dsimp only
  rw [hphase]

/-- Settles O3, block by block. -/
theorem tickFrame : Obligations.TickFrame := by
  rintro s t up down sat rfl rfl rfl rfl
  refine ⟨⟨rfl, rfl, rfl, rfl, rfl, rfl, rfl⟩, ⟨rfl, ?_, ?_⟩, ?_, ?_, ?_, ⟨rfl, ?_, ?_⟩, tickComp_eq s, ?_, ⟨?_, ?_, ?_⟩,
    ?_, ?_⟩
  · rintro d r rfl
    exact PerDoor.get_tick s d
  · rintro z m rfl
    have hzone : (tick s).doors.zone.get z = (s.doors.zone.get z).tick s.settings.door.ajarDelay := by cases z <;> rfl
    rw [hzone, ZoneDoor.tick_eq]
    rfl
  · rintro z r rfl
    have hzone : (tick s).zones.get z = (s.zones.get z).tick (s.warmGathering z) := by cases z <;> rfl
    rw [hzone]
    unfold ZoneRec.tick State.warmGathering
    simp only [Bool.and_eq_true, Bool.not_eq_true', and_assoc]
    rfl
  · have hgrant : Grant.tick = fun g =>
        if g.phase = .cooling then
          { g with coolingFor := satUp g.coolingFor, minLeft := countDown g.minLeft, maxLeft := countDown g.maxLeft }
        else g := funext Grant.tick_eq
    show s.arb.tick = _
    unfold Arbiter.tick
    rw [hgrant]
    rfl
  · rintro v rfl
    have hframe := s.route.valve.tick_frame
    refine ⟨hframe, fun hnone => ?_, fun m goal hmove hgoal => ?_⟩
    · have htick : (tick s).route.valve = _ := Valve.tick_of_no_move hnone
      rw [htick]
      exact ⟨rfl, hnone⟩
    · have hgoal' : goal = m.target.counter := by
        rw [hgoal]
        cases m.target <;> rfl
      obtain ⟨hwithin, hend⟩ := Valve.tick_of_move hmove
      refine ⟨fun hless => ?_, fun hdue => ⟨fun hup => ?_, fun hdown => ?_, fun hlow hhigh => ?_⟩⟩
      · have htick : (tick s).route.valve = _ := hwithin hless
        rw [htick]
        exact ⟨rfl, rfl⟩
      · have htick : (tick s).route.valve = _ := (hend hdue).1 (hgoal' ▸ hup)
        rw [htick]
        exact ⟨rfl, rfl⟩
      · have htick : (tick s).route.valve = _ := (hend hdue).2.1 (hgoal' ▸ hdown)
        rw [htick]
        exact ⟨rfl, rfl⟩
      · have htick : (tick s).route.valve = _ := (hend hdue).2.2 (hgoal' ▸ hlow) (hgoal' ▸ hhigh)
        rw [htick]
  · rintro cools rfl
    have hfreezer : (tick s).route.preFreezer = s.route.preFreezer.tick (s.preChillCounts .freezer) := rfl
    have hfresh : (tick s).route.preFresh = s.route.preFresh.tick (s.preChillCounts .fresh) := rfl
    dsimp only
    rw [hfreezer, hfresh, mem_tick_preChill, mem_tick_preChill, s.preChillDue_iff, s.preChillDue_iff,
      ← s.preChillCounts_freezer, ← s.preChillCounts_fresh]
    refine ⟨fun e hcounts he => ?_, fun e hcounts he => ?_, fun h => PreChill.tick_stands ?_,
      fun h => PreChill.tick_stands ?_, Iff.rfl, Iff.rfl⟩
    · rw [he, PreChill.tick_running, if_pos hcounts]
      rfl
    · rw [he, PreChill.tick_running, if_pos hcounts]
      rfl
    · rwa [Bool.not_eq_true] at h
    · rwa [Bool.not_eq_true] at h
  · rintro f r rfl
    obtain ⟨hstall, hrest⟩ := mem_tick_fan s f
    rw [hstall, hrest, FanRec.stallDue_iff, FanRec.restDue_iff]
    exact ⟨(PerFan.get_tick s f).trans (FanRec.tick_eq _), Iff.rfl, Iff.rfl⟩
  · rintro d rfl
    show tickDefrost s = _
    have hminute : Minute.tick s.fzRunning = _ := funext (Minute.tick_eq s.fzRunning)
    have hcontext : DefrostContext.tick s.defrost.phase = _ := funext (DefrostContext.tick_eq s.defrost.phase)
    rw [tickDefrost_eq, hminute, hcontext]
    rfl
  · have hline : s.bus.nextLine = (s.bus.line ++ [true]).drop (s.bus.line.length + 1 - 10) := by
      unfold Bus.nextLine lastLevels
      rw [List.length_append]
      rfl
    show s.bus.tick = _
    unfold Bus.tick
    rw [hline]
    rfl
  · have hexchange : (tick s).bus.exchange =
        if s.bus.mode = .stopped then s.bus.exchange else s.bus.exchange.map (Exchange.advance s.bus.slotFor) := rfl
    rw [hexchange]
    split
    · rfl
    · rw [Option.map_map]
      congr 1
      funext e
      exact Exchange.advance_bare s.bus.slotFor e
  · intro line
    rw [mem_tick_faultCheck, Bus.checkDue_iff]
    have hline : s.bus.mode = .fault → (tick s).bus.line = s.bus.nextLine := fun hfault => if_pos hfault
    constructor
    · rintro ⟨⟨hfault, hdue⟩, rfl⟩
      exact ⟨(hline hfault).symm, hfault, hdue⟩
    · rintro ⟨rfl, hfault, hdue⟩
      exact ⟨⟨hfault, hdue⟩, hline hfault⟩
  · rintro z r m rfl rfl
    obtain ⟨hblind, hwarm, hajar, hisolation⟩ := mem_tick_zone s z
    simp only [List.forall_mem_cons, List.not_mem_nil, false_imp_iff, implies_true, and_true]
    exact ⟨hblind.trans (s.blindDue_iff z), hwarm.trans (s.warmDue_iff z), hajar.trans (s.ajarDue_iff z),
      hisolation.trans (s.isolationDue_iff z)⟩
  · obtain ⟨hgap, hreply, hnotice, hslot, hsweep, hservice⟩ := mem_tick_link s
    obtain ⟨hmove, hdrive, hroute⟩ := mem_tick_route s
    obtain ⟨hage, hspeed, hoff, hon, hwatch, hhold, hpost⟩ := mem_tick_comp s
    obtain ⟨hmin, hmax, hforced, hpark⟩ := mem_tick_arb s
    obtain ⟨hminute, hheat, hblind, hdrip, hrelease⟩ := mem_tick_defrost s
    simp only [List.forall_mem_cons, List.not_mem_nil, false_imp_iff, implies_true, and_true]
    refine ⟨hgap, hreply, hnotice, hslot.trans (Bus.boundaryDue_iff _), hsweep.trans s.sweepDue_iff, ?_,
      hdrive.trans (Valve.driveDue_iff _), hroute.trans s.routeTimeoutDue_iff, hage, hspeed.trans (Compressor.speedDue_iff _),
      hoff.trans s.minOffDue_iff, hon.trans s.minOnDue_iff, hwatch.trans s.runWatchDue_iff,
      hhold.trans (Compressor.holdDue_iff _), hpost.trans (Compressor.postRunDue_iff _), hmin.trans s.minDwellDue_iff,
      hmax.trans s.maxDwellDue_iff, hforced.trans s.forcedDue_iff, hpark.trans s.parkDue_iff,
      hminute.trans (Defrost.minuteDue_iff _), hheat.trans (Defrost.heatDue_false_iff _),
      hblind.trans (Defrost.heatDue_true_iff _), hdrip.trans (Defrost.dripDue_iff _),
      hrelease.trans (Defrost.releaseDue_iff _), hservice.trans s.serviceTimerDue_iff⟩
    refine hmove.trans ((Valve.moveDue_iff _).trans ?_)
    refine exists_congr fun m => exists_congr fun goal => and_congr_right fun _ => and_congr_left fun _ => ?_
    cases m.target <;> rfl

end Sys2Proof.Machine
end

section
/-!
PROOFS. The host link (Chapter 10): the receiver's table (O18), the frame of a request (O17), requests without an owner
(O19), the ends of transmissions and the transmit line (O22).
-/
namespace Sys2Proof.Machine

/-! ## The receiver (Table 10-2) -/

theorem exec_hostCharacterReceived (c : RxChar) (s : State) :
    exec (.hostCharacterReceived c) s = .next { s with link := s.link.receive c } := rfl

theorem exec_gapTimeout (s : State) :
    exec .gapTimeout s = .next (if s.link.gapDue then { s with link := s.link.drop } else s) := rfl

section
variable {l : Link} {c : RxChar}

theorem Link.receive_error (hopen : l.isOpen = true) (hfree : l.handling = false) (hc : c.stopHigh = false) :
    l.receive c = if l.receiver = .hunt then l else l.drop := by
  simp [Link.receive, hopen, hfree, hc]

theorem Link.receive_hunt (hopen : l.isOpen = true) (hfree : l.handling = false) (hc : c.stopHigh = true)
    (hr : l.receiver = .hunt) : l.receive c = l.inHunt c.byte := by
  simp [Link.receive, hopen, hfree, hc, hr]

theorem Link.receive_length (hopen : l.isOpen = true) (hfree : l.handling = false) (hc : c.stopHigh = true)
    (hr : l.receiver = .length) : l.receive c = l.inLength c.byte := by
  simp [Link.receive, hopen, hfree, hc, hr]

theorem Link.receive_body (hopen : l.isOpen = true) (hfree : l.handling = false) (hc : c.stopHigh = true)
    (hr : l.receiver = .body) : l.receive c = l.inBody c.byte := by
  simp [Link.receive, hopen, hfree, hc, hr]

theorem Link.receive_check (hopen : l.isOpen = true) (hfree : l.handling = false) (hc : c.stopHigh = true)
    (hr : l.receiver = .check) : l.receive c = l.inCheck c.byte := by
  simp [Link.receive, hopen, hfree, hc, hr]

theorem Link.inLength_good {b : Byte} (hlow : 1 ≤ b.toNat) (hhigh : b.toNat ≤ 61) :
    l.inLength b = { l with receiver := .body, len := b.toNat, gap := 0 } := by
  simp [Link.inLength, hlow, hhigh]

theorem Link.inLength_bad {b : Byte} (h : b.toNat = 0 ∨ 61 < b.toNat) : l.inLength b = l.drop := by
  simp only [Link.inLength, Bool.and_eq_true, decide_eq_true_eq]
  exact if_neg (by omega)

end

/-- Settles O18, by the state of the receiver. -/
theorem receiverTable : Obligations.ReceiverTable := by
  intro c s l dropped
  have hreceive := exec_hostCharacterReceived c s
  refine ⟨fun hr hgap => ?_, fun hdeaf => ?_, fun hopen hfree => ⟨fun hc hr => ?_, fun hc hr => ?_, fun hc =>
    ⟨fun hr hb => ?_, fun hr hb => ?_, fun hr hlow hhigh => ?_, fun hr hb => ?_, fun hr => ?_, fun hr => ?_⟩⟩⟩
  · have hdue : s.link.gapDue = true := by
      simp only [Link.gapDue, Bool.and_eq_true, decide_eq_true_eq]
      refine ⟨hr, (dueUp_iff _ _).2 ?_⟩
      exact Nat.succ_le_succ hgap
    rw [exec_gapTimeout, if_pos hdue]
    rfl
  · rw [hreceive, Link.receive_deaf _ _ hdeaf]
  · rw [hreceive, Link.receive_error hopen hfree hc, if_pos hr]
  · rw [hreceive, Link.receive_error hopen hfree hc, if_neg hr]
    rfl
  · rw [hreceive, Link.receive_hunt hopen hfree hc hr, Link.inHunt, if_neg hb]
  · rw [hreceive, Link.receive_hunt hopen hfree hc hr, Link.inHunt, if_pos hb]
  · rw [hreceive, Link.receive_length hopen hfree hc hr, Link.inLength_good hlow hhigh]
  · rw [hreceive, Link.receive_length hopen hfree hc hr, Link.inLength_bad hb]
    rfl
  · rw [hreceive, Link.receive_body hopen hfree hc hr]
    rfl
  · rw [hreceive, Link.receive_check hopen hfree hc hr]
    rfl

/-! ## The frame of a request (Table 10-1) -/

theorem exec_hostFrameReceived (chars : List RxChar) (s : State) :
    exec (.hostFrameReceived chars) s = .next { s with link := chars.foldl Link.receive s.link } := rfl

theorem foldl_add_eq (bs : List Byte) (a : Byte) : bs.foldl (fun x y => x + y) a = a + byteSum bs := by
  induction bs generalizing a with
  | nil => simp [byteSum]
  | cons b bs ih =>
    have hrest : byteSum (b :: bs) = b + byteSum bs := by
      rw [byteSum, List.foldl_cons, ih, zero_add]
    rw [List.foldl_cons, ih, hrest, BitVec.add_assoc]

/-- The CHECK makes the sum from LEN on 0. -/
theorem byteSum_append_check (bs : List Byte) : byteSum (bs ++ [-(byteSum bs)]) = 0 := by
  rw [byteSum, List.foldl_append, ← byteSum, foldl_add_eq]
  simp [byteSum]

/-- The receiver in BODY with the bytes still to come gathers them all and awaits the CHECK. -/
theorem Link.foldl_receive_body (bs : List Byte) (l : Link) (hne : bs ≠ []) (hopen : l.isOpen = true)
    (hfree : l.handling = false) (hr : l.receiver = .body) (hlen : l.len = l.buffer.length + bs.length) :
    (lineChars bs).foldl Link.receive l = { l with receiver := .check, buffer := l.buffer ++ bs, gap := 0 } := by
  induction bs generalizing l with
  | nil => exact absurd rfl hne
  | cons b bs ih =>
    have hfirst : l.receive ⟨b, true⟩ = l.inBody b := Link.receive_body hopen hfree rfl hr
    show (lineChars bs).foldl Link.receive (l.receive ⟨b, true⟩) = _
    rw [hfirst]
    cases bs with
    | nil =>
      have hlast : l.len ≤ l.buffer.length + 1 := by simp [hlen]
      simp [lineChars, Link.inBody, hlast]
    | cons b' rest =>
      have hmore : ¬ l.len ≤ l.buffer.length + 1 := by simp [hlen]
      rw [ih (l.inBody b) (by simp) hopen hfree (if_neg hmore) (by simp [Link.inBody, hlen]; omega)]
      simp [Link.inBody]

theorem lineChars_append (as bs : List Byte) : lineChars (as ++ bs) = lineChars as ++ lineChars bs := List.map_append

theorem Link.receive_sof {l : Link} (hopen : l.isOpen = true) (hfree : l.handling = false) (hr : l.receiver = .hunt) :
    l.receive ⟨0xC3, true⟩ = { l with receiver := .length, len := 0, buffer := [], gap := 0 } :=
  (Link.receive_hunt hopen hfree rfl hr).trans (if_pos rfl)

/-- A frame is received with its TYPE and payload in the buffer, and handling begins (R184, R185, R187). -/
theorem Link.foldl_receive_frame {l : Link} {type : Byte} {p : List Byte} (hopen : l.isOpen = true)
    (hfree : l.handling = false) (hr : l.receiver = .hunt) (hlen : p.length ≤ 60) :
    (requestFrame type p).foldl Link.receive l =
      { l with receiver := .hunt, len := p.length + 1, buffer := type :: p, gap := 0, handling := true } := by
  have hnat : (BitVec.ofNat 8 (p.length + 1)).toNat = p.length + 1 := by
    rw [BitVec.toNat_ofNat]
    omega
  have hframe : requestFrame type p =
      ⟨0xC3, true⟩ :: ⟨BitVec.ofNat 8 (p.length + 1), true⟩ :: (lineChars (type :: p) ++
        [⟨-(byteSum (BitVec.ofNat 8 (p.length + 1) :: type :: p)), true⟩]) := by
    simp [requestFrame, hostFrame, lineChars]
  have hlength : ({ l with receiver := .length, len := 0, buffer := [], gap := 0 } : Link).receive
        ⟨BitVec.ofNat 8 (p.length + 1), true⟩ =
      { l with receiver := .body, len := p.length + 1, buffer := [], gap := 0 } := by
    refine (Link.receive_length ?_ ?_ rfl rfl).trans ((Link.inLength_good ?_ ?_).trans ?_)
    · exact hopen
    · exact hfree
    · show 1 ≤ (BitVec.ofNat 8 (p.length + 1)).toNat
      omega
    · show (BitVec.ofNat 8 (p.length + 1)).toNat ≤ 61
      omega
    · simp only [hnat]
  have hbody := Link.foldl_receive_body (type :: p) { l with receiver := .body, len := p.length + 1, buffer := [], gap := 0 }
    (by simp) hopen hfree rfl (by simp)
  rw [hframe, List.foldl_cons, Link.receive_sof hopen hfree hr, List.foldl_cons, hlength, List.foldl_append, hbody,
    List.foldl_cons, List.foldl_nil]
  refine (Link.receive_check ?_ ?_ rfl rfl).trans ?_
  · exact hopen
  · exact hfree
  · exact if_pos (byteSum_append_check (BitVec.ofNat 8 (p.length + 1) :: type :: p))

/-- A TYPE names the request whose parts it and the payload are. -/
theorem requestOf_requestParts {i : Instr} {type : Byte} {p : List Byte} (hparts : requestParts i = some (type, p))
    (hwf : i.wellFormed = true) : requestOf type p = i := by
  cases i with
  | unknownRequest t q =>
    cases hparts
    have hnot : type ∉ requestTypes := by
      intro hmem
      simp [Instr.wellFormed, requestParts, hmem] at hwf
    simp only [requestTypes, List.mem_cons, List.not_mem_nil, or_false, not_or] at hnot
    simp only [requestOf, hnot, if_false]
  | _ => first | (cases hparts; rfl) | simp [requestParts] at hparts

theorem length_le_of_wellFormed {i : Instr} {type : Byte} {p : List Byte} (hparts : requestParts i = some (type, p))
    (hwf : i.wellFormed = true) : p.length ≤ 60 := by
  simp only [Instr.wellFormed, hparts, Bool.and_eq_true, decide_eq_true_eq] at hwf
  exact hwf.1

/-- Settles O17: the receiver gathers the frame, and its parts name the request. -/
theorem requestFrameRoundTrip : Obligations.RequestFrameRoundTrip := by
  intro i type p s hparts hwf hopen hfree hreply hr
  have hrequest := requestOf_requestParts hparts hwf
  have hlink := Link.foldl_receive_frame (type := type) hopen hfree hr (length_le_of_wellFormed hparts hwf)
  refine ⟨_, exec_hostFrameReceived _ s, ?_⟩
  rw [hlink]
  exact ⟨rfl, rfl, rfl, hrequest, by simp [Link.waitingRequest, hreply, hrequest]⟩

/-! ## Requests without an owner (R188) -/

theorem takeRequest_badLength {type : Byte} {p : List Byte} {n : Nat} {s : State} (htaking : s.taking type p = true)
    (hlength : p.length ≠ n) (owner : State → Status × State) (fields : State → List Byte) :
    takeRequest type p n owner fields s = s.answer (replyFrame type .badLength []) :=
  (if_pos htaking).trans (if_neg hlength)

/-- A request of Table 10-5 is executed by taking it with its length of Chapter 12. -/
theorem exec_request {type : Byte} {p : List Byte} {n : Nat} (h : (type, n) ∈ payloadLengths) :
    ∃ (owner : State → Status × State) (fields : State → State → List Byte),
      ∀ s, exec (requestOf type p) s = .next (takeRequest type p n owner (fields s) s) := by
  simp only [payloadLengths, List.mem_cons, Prod.mk.injEq, List.not_mem_nil, or_false] at h
  rcases h with ⟨rfl, rfl⟩ | ⟨rfl, rfl⟩ | ⟨rfl, rfl⟩ | ⟨rfl, rfl⟩ | ⟨rfl, rfl⟩ | ⟨rfl, rfl⟩ | ⟨rfl, rfl⟩ | ⟨rfl, rfl⟩ |
    ⟨rfl, rfl⟩ | ⟨rfl, rfl⟩ | ⟨rfl, rfl⟩ | ⟨rfl, rfl⟩ | ⟨rfl, rfl⟩ | ⟨rfl, rfl⟩ | ⟨rfl, rfl⟩ | ⟨rfl, rfl⟩ | ⟨rfl, rfl⟩ |
    ⟨rfl, rfl⟩ | ⟨rfl, rfl⟩ | ⟨rfl, rfl⟩ | ⟨rfl, rfl⟩ | ⟨rfl, rfl⟩ | ⟨rfl, rfl⟩ | ⟨rfl, rfl⟩ | ⟨rfl, rfl⟩ <;>
  exact ⟨_, fun s => _, fun s => rfl⟩

/-- The reply to a request of Table 10-5 has the TYPE with its top bit set. -/
theorem replyType_request {type : Byte} {n : Nat} (h : (type, n) ∈ payloadLengths) : replyType type = type + 0x80 := by
  have hall : ∀ x ∈ payloadLengths, replyType x.1 = x.1 + 0x80 := by decide
  exact hall _ h

/-- Settles O19. -/
theorem requestsWithoutOwner : Obligations.RequestsWithoutOwner := by
  refine ⟨fun type p s htaking hunknown => ?_, fun i type p n s hparts hmem hlength hrequest htaking => ?_⟩
  · have hcond : (s.taking type p && !requestTypes.contains type) = true := by simp [htaking, hunknown]
    show Host.Outcome.next (if s.taking type p && !requestTypes.contains type then _ else s) = _
    rw [if_pos hcond]
    rfl
  · obtain ⟨owner, fields, hexec⟩ := exec_request (p := p) hmem
    rw [← hrequest, hexec s, takeRequest_badLength htaking hlength, replyFrame, replyType_request hmem]
    rfl

/-! ## The ends of transmissions and the transmit line (R183, R187, R193, R194) -/

theorem exec_replyEnd (s : State) :
    exec .replyEnd s =
      .next
        (if s.link.transmitter = .sendingReply && s.link.sendDue then
          if s.link.restartDue then finish (restartEffect { s with link := s.link.replied })
          else { s with link := s.link.replied }
        else s) := rfl

theorem exec_noticeEnd (s : State) :
    exec .noticeEnd s =
      .next
        (if s.link.transmitter = .sendingNotice && s.link.sendDue then { s with link := s.link.noticed } else s) := rfl

theorem exec_noticeStart (s : State) :
    exec .noticeStart s =
      .next (if s.link.noticeDue then { s with link := s.link.startNotice s.events.latchedSets } else s) := rfl

/-- The count of sets holding latched bits is 0 exactly where the latch is empty, and at most 5. -/
theorem Events.latchedSets_spec (e : Events) :
    e.latchedSets ≤ 5 ∧ (e.latchEmpty = true ↔ e.latchedSets = 0) := by
  refine ⟨?_, decide_eq_true_iff⟩
  have hone : ∀ b : Bool, b.toNat ≤ 1 := Bool.toNat_le
  exact Nat.add_le_add (Nat.add_le_add (Nat.add_le_add (Nat.add_le_add (hone _) (hone _)) (hone _)) (hone _)) (hone _)

theorem Link.length_txBits (l : Link) : l.txBits.length = 10 * l.sending.length := by
  have hchar : ∀ b, (charBits b).length = 10 := fun _ => rfl
  simp [Link.txBits, List.length_flatMap, hchar, Nat.mul_comm]

theorem Link.txLevels_idle {l : Link} (h : l.sending = []) : l.txLevels = [true, true, true, true] := by
  simp [Link.txLevels, Link.txBits, h]

/-- After `k` ticks of a frame the line carries the next four of its levels. -/
theorem Link.txLevels_sending {l : Link} {k : Nat} (hk : l.sendLeft + 2 * k = 5 * l.sending.length)
    (hleft : 2 ≤ l.sendLeft) : l.txLevels = (l.txBits.drop (4 * k)).take 4 := by
  have hlength := l.length_txBits
  have hfour : 4 ≤ (l.txBits.drop (4 * k)).length := by
    rw [List.length_drop]
    omega
  have hstart : l.txBits.length - 2 * l.sendLeft = 4 * k := by omega
  rw [Link.txLevels, hstart, List.take_append_of_le_length (by rw [List.length_take]; omega), List.take_take, min_self]

/-- Settles O22. -/
theorem repliesAndNotices : Obligations.RepliesAndNotices := by
  intro s
  refine ⟨fun ht hr hdue => ?_, fun hleft => ⟨?_, ?_⟩, fun ht hr hdue => ?_, fun frame ht hr hdue => ?_,
    fun hp ht hh ho => ?_, fun line hline => ?_⟩
  · simp [exec_replyEnd, ht, Link.sendDue, hdue, hr, Link.replied, Link.sent]
  · simp [exec_replyEnd, Link.sendDue, hleft]
  · simp [exec_noticeEnd, Link.sendDue, hleft]
  · simp [exec_noticeEnd, ht, Link.sendDue, hdue, hr, Link.noticed, Link.sent]
  · simp [exec_noticeEnd, ht, Link.sendDue, hdue, hr, Link.noticed, sendTime]
  · have hdue : s.link.noticeDue = true := by simp [Link.noticeDue, hp, ht, hh, ho]
    obtain ⟨hle, hempty⟩ := s.events.latchedSets_spec
    rw [exec_noticeStart, if_pos hdue]
    refine ⟨fun h => ?_, fun h => ⟨s.events.latchedSets, ?_, hle, rfl, ?_⟩⟩
    · rw [hempty.1 h]
      rfl
    · exact Nat.one_le_iff_ne_zero.2 fun h0 => by simp [hempty.2 h0] at h
    · have hne : s.events.latchedSets ≠ 0 := fun h0 => by simp [hempty.2 h0] at h
      rw [Link.startNotice, if_neg hne]
      rfl
  · subst hline
    exact ⟨s.link.length_txBits, Link.txLevels_idle, fun k hk hleft => Link.txLevels_sending hk hleft⟩

end Sys2Proof.Machine
end

section
/-!
PROOFS. Requests that store settings (statements O41, O42, O51), the mean of a window and the rules of demand and ambient
(O34, O50), and the compressor controller's timers (O52).
-/
namespace Sys2Proof.Machine

/-! ## The mean of a window (R27) -/

theorem sum_bounds {w : List Int} {lo hi : Int} (h : ∀ t ∈ w, lo ≤ t ∧ t ≤ hi) :
    lo * w.length ≤ w.sum ∧ w.sum ≤ hi * w.length := by
  induction w with
  | nil => simp
  | cons t w ih =>
    have ht := h t List.mem_cons_self
    have hw := ih fun x hx => h x (List.mem_cons_of_mem t hx)
    simp only [List.sum_cons, List.length_cons, Nat.cast_add, Nat.cast_one, mul_add, mul_one]
    omega

/-- Settles O34: the floor division of twice the sum by twice the length, with a half added. -/
theorem filterRounds : Obligations.FilterRounds := by
  intro w hne
  have hpos : 0 < 2 * (w.length : Int) := by
    have := List.length_pos_iff.2 hne
    omega
  have hlow : 2 * (w.length : Int) * filterOf w ≤ 2 * w.sum + w.length := Int.mul_ediv_self_le hpos.ne'
  have hhigh : 2 * w.sum + w.length < 2 * (w.length : Int) * (filterOf w + 1) := by
    rw [mul_comm (2 * (w.length : Int))]
    exact Int.lt_ediv_add_one_mul_self (2 * w.sum + w.length) hpos
  refine ⟨hlow, hhigh, fun lo hi h => ?_⟩
  obtain ⟨hlo, hhi⟩ := sum_bounds h
  have hlength : (0 : Int) ≤ w.length := by omega
  refine ⟨Int.le_ediv_of_mul_le hpos ?_, Int.lt_add_one_iff.1 (Int.ediv_lt_of_lt_mul hpos ?_)⟩
  · calc
      lo * (2 * (w.length : Int)) = 2 * (lo * w.length) := by ring
      _ ≤ 2 * w.sum + w.length := by omega
  · calc
      2 * w.sum + (w.length : Int) ≤ 2 * (hi * w.length) + w.length := by omega
      _ < (hi + 1) * (2 * (w.length : Int)) := by
        have hring : (hi + 1) * (2 * (w.length : Int)) = 2 * (hi * w.length) + 2 * w.length := by ring
        omega

/-! ## D_eff and Ta (R50, R123, R132) -/

theorem State.dEff_eq {s : State} {g : Grant} (hg : s.arb.grant = some g) :
    s.dEff = some
      (let d := (s.zones.get g.zone).level
      let boosted := if (s.doors.zone.get g.zone).recovery then min 100 (d + s.settings.door.boost) else d
      if g.continuation then 0
      else
        match s.arb.forced with
        | some f => if f.zone = g.zone then max 80 boosted else boosted
        | none => boosted) := by
  simp only [State.dEff, hg, Option.map_some] <;> rfl

theorem State.ambient_valid {s : State} {f : Int} (hv : s.sensing.ambient.state = .valid)
    (hf : s.sensing.ambient.filtered = some f) : s.ambient = min f 500 := by
  simp only [State.ambient, hv, hf, if_true]

theorem State.condenserLevel_valid {s : State} (hv : s.sensing.ambient.state = .valid) :
    s.condenserLevel =
      if s.ambient ≤ 250 then 40
      else if 400 ≤ s.ambient then 100 else 40 + ((s.ambient - 250) * 60 / 150).toNat := by
  simp only [State.condenserLevel, hv, if_true]

/-- Settles O50. -/
theorem effectiveDemandAndAmbient : Obligations.EffectiveDemandAndAmbient := by
  refine ⟨fun s g hg => ⟨fun hc => ?_, fun hc boosted hb => ⟨fun f hf hz => ?_, fun hother => ?_⟩⟩,
    fun s => ⟨fun f hv hf => ⟨?_, fun h => ?_, fun h => ?_, fun hlow hhigh => ?_⟩, fun hv => ⟨if_neg hv, if_neg hv⟩⟩,
    fun ta hta => ⟨fun h => ?_, fun h => ?_, ?_⟩⟩
  · simp [State.dEff_eq hg, hc]
  · simp [State.dEff_eq hg, hc, hf, hz, hb]
  · cases hf : s.arb.forced with
    | none => simp [State.dEff_eq hg, hc, hf, hb]
    | some f => simp [State.dEff_eq hg, hc, hf, hother f hf, hb]
  · exact State.ambient_valid hv hf
  · rw [State.condenserLevel_valid hv, State.ambient_valid hv hf, if_pos (by omega)]
  · rw [State.condenserLevel_valid hv, State.ambient_valid hv hf, if_neg (by omega), if_pos (by omega)]
  · have hmin : min f 500 = f := by omega
    rw [State.condenserLevel_valid hv, State.ambient_valid hv hf, hmin, if_neg (by omega), if_neg (by omega)]
    omega
  · rw [ambientOffset, if_pos h]
    omega
  · exact if_neg (by omega)
  · unfold ambientOffset
    split <;> omega

/-! ## Requests that are taken (R187 to R189) -/

/-- A request of the right length is answered by its owner's status on the state its owner left. -/
theorem takeRequest_owner {type : Byte} {p : List Byte} {n : Nat} {s : State} {owner : State → Status × State}
    {r : Status} {t : State} (htaking : s.taking type p = true) (hlength : p.length = n) (howner : owner s = (r, t))
    (fields : State → List Byte) :
    takeRequest type p n owner fields s = t.answer (replyFrame type r (fields t)) := by
  rw [takeRequest_of_taking htaking hlength, howner]

/-- Where nothing has changed the status is OK, else CLAMPED. -/
theorem ofClamp_ne {α : Type} [DecidableEq α] (a b : α) :
    Status.ofClamp (a ≠ b) = if a = b then .ok else .clamped := by
  by_cases h : a = b <;> simp [Status.ofClamp, h]

theorem not_present {s : State} {z : Zone} (h : s.present z = false) : (!s.present z) = true := by simp [h]

/-! ## The forced-priority record (R66) -/

@[simp] theorem createGrant_forced (z : Zone) (r : GrantReason) (s : State) :
    (createGrant z r s).arb.forced = s.arb.forced := by rw [createGrant_arb]

@[simp] theorem afterEnd_forced (s : State) : (afterEnd s).arb.forced = s.arb.forced := by
  rcases afterEnd_cases s with ⟨z, r, -, h⟩ | ⟨-, h⟩ <;> rw [h]
  · simp
  · rw [(enterIdle_idleOnly _).forced, normalise_forced]

@[simp] theorem arbitrate_forced (s : State) : (arbitrate s).arb.forced = s.arb.forced := by
  by_cases hmode : s.mode.opState = .run
  · cases hgrant : s.arb.grant with
    | none =>
      rw [arbitrate_run_none hmode hgrant]
      rcases noGrant_cases (relist s) with ⟨z, r, -, h⟩ | ⟨-, h⟩ <;> rw [h]
      · simp [relist]
      · rw [(rehomeTest_idleOnly _).forced, (runoutEnd_idleOnly _).forced]
        rfl
    | some g =>
      rw [arbitrate_run_some hmode hgrant]
      rcases heldGrant_cases g (relist s) with ⟨r, -, h⟩ | ⟨-, ⟨z, r, -, -, h⟩ | ⟨-, h⟩⟩ <;> rw [h]
      · simp [relist]
      · rw [createGrant_forced, normalise_forced, endGrant_forced]
        rfl
      · rfl
  · rw [arbitrate_not_run hmode]
    rfl

theorem initEnd_forced (s : State) : (initEnd s).arb.forced = s.arb.forced := by
  unfold initEnd
  split
  · simp
  · rfl

/-- What follows an event never touches the forced record. -/
@[simp] theorem finish_forced (s : State) : (finish s).arb.forced = s.arb.forced := by
  rw [finish_eq_settle, publish_arb, settle_forced, arbitrate_forced, (pendingTest_only _).arb]
  exact (settle_forced _).trans ((arbitrate_forced _).trans (initEnd_forced s))

/-! ## Two passes where no defrost is pending -/

/-- The end of INIT changes the operating state, the pointers and the idle sub-state alone (R198). -/
theorem initEnd_eq (s : State) :
    initEnd s =
      { s with
        mode := (initEnd s).mode
        arb := { s.arb with p1 := (initEnd s).arb.p1, p2 := (initEnd s).arb.p2, idle := (initEnd s).arb.idle } } := by
  unfold initEnd
  split
  · rw [normalise_eq]
  · rfl

theorem initEnd_of_not_init {s : State} (h : s.mode.opState ≠ .init) : initEnd s = s := by
  simp [initEnd, h]

theorem pendingTest_of_not_pending {s : State} (h : s.defrost.phase ≠ .pending) : pendingTest s = s := by
  simp [pendingTest, h]

theorem settle_defrost (s : State) : (settle s).defrost = s.defrost := (settle_arc s).defrost

/-- With no defrost PENDING the two passes follow each other directly (R140). -/
theorem finish_of_not_pending {s : State} (hphase : s.defrost.phase ≠ .pending) :
    finish s = publish (settle (settle (initEnd s))) := by
  rw [finish_eq_settle, pendingTest_of_not_pending]
  rwa [settle_defrost, initEnd_eq]

theorem finish_th_of_not_pending {s : State} (hphase : s.defrost.phase ≠ .pending) :
    (finish s).defrost.th = s.defrost.th := by
  rw [finish_of_not_pending hphase, publish_th, settle_defrost, settle_defrost, initEnd_eq]

end Sys2Proof.Machine
end

section
/-!
PROOFS. Requests that store settings (statements O41, O42, O51) and the compressor controller's timers (O52).
-/
namespace Sys2Proof.Machine

section Requests

variable {p : List Byte} {s : State} {z : Zone}

theorem s16At_range (p : List Byte) (i : Nat) : -32768 ≤ s16At p i ∧ s16At p i < 32768 := by
  have hlow := (p.getD i 0).isLt
  have hhigh := (p.getD (i + 1) 0).isLt
  unfold s16At u16At u8At
  split <;> omega

/-! ## ZONE_TIMING (R86) -/

theorem zoneTimingOwner_badZone (hz : zoneOf p = none) : zoneTimingOwner p s = (.badValue, s) := by
  simp [zoneTimingOwner, hz, refuse]

theorem zoneTimingOwner_absent (hz : zoneOf p = some z) (hpresent : s.present z = false) :
    zoneTimingOwner p s = (.notPresent, s) := by
  simp [zoneTimingOwner, hz, hpresent, refuse]

theorem zoneTimingOwner_crossed (hz : zoneOf p = some z) (hpresent : s.present z = true)
    (hdwell : (timingClamped p).maxDwell ≤ (timingClamped p).minDwell) : zoneTimingOwner p s = (.badValue, s) := by
  simp [zoneTimingOwner, hz, hpresent, hdwell, refuse]

theorem zoneTimingOwner_stored (hz : zoneOf p = some z) (hpresent : s.present z = true)
    (hdwell : (timingClamped p).minDwell < (timingClamped p).maxDwell) :
    zoneTimingOwner p s =
      (.ofClamp (timingClamped p ≠ timingGiven p), finish (storeTiming z (timingClamped p) s)) := by
  simp [zoneTimingOwner, hz, hpresent, hdwell, accept]

/-- The fields of a request of one zone are that zone's. -/
theorem zoneFields_some (f : Zone → State → List Byte) (hz : zoneOf p = some z) : zoneFields p f = f z := by
  funext t
  simp [zoneFields, hz]

theorem exec_zoneTiming (htaking : s.taking 0x11 p = true) (hlength : p.length = 5) :
    (zoneOf p = none → exec (.zoneTiming p) s = .next (s.answer (hostFrame 0x91 [4]))) ∧
      ∀ z v, zoneOf p = some z →
        v = ⟨max 1200 (min 5000 (u16At p 1)), max 1 (min 15 (u8At p 3)), max 5 (min 60 (u8At p 4))⟩ →
        (s.present z = false → exec (.zoneTiming p) s = .next (s.answer (hostFrame 0x91 [6]))) ∧
        (s.present z = true → v.maxDwell ≤ v.minDwell →
          exec (.zoneTiming p) s = .next (s.answer (hostFrame 0x91 [4]))) ∧
        (s.present z = true → v.minDwell < v.maxDwell →
          exec (.zoneTiming p) s =
            .next
              ((finish { s with settings := { s.settings with timing := s.settings.timing.set z v } }).answer
                (replyFrame 0x11 (if v = ⟨u16At p 1, u8At p 3, u8At p 4⟩ then .ok else .clamped)
                  (putU16 v.speedCap ++ putU8 v.minDwell ++ putU8 v.maxDwell)))) := by
  refine ⟨fun hz => congrArg Host.Outcome.next (takeRequest_owner htaking hlength (zoneTimingOwner_badZone hz) _), fun z v hz hv => ?_⟩
  have hclamped : timingClamped p = v := hv.symm
  refine ⟨fun hp => congrArg Host.Outcome.next (takeRequest_owner htaking hlength (zoneTimingOwner_absent hz hp) _),
    fun hp hd => congrArg Host.Outcome.next
      (takeRequest_owner htaking hlength (zoneTimingOwner_crossed hz hp (hclamped ▸ hd)) _),
    fun hp hd => congrArg Host.Outcome.next
      ((takeRequest_owner htaking hlength (zoneTimingOwner_stored hz hp (hclamped ▸ hd)) _).trans ?_)⟩
  rw [zoneFields_some zoneTimingFields hz, ofClamp_ne, hclamped]
  simp only [zoneTimingFields, finish_settings, storeTiming, PerZone.get_set_self, timingGiven]
  rfl

/-! ## ARB_SET (R87) -/

theorem arbBad_iff (p : List Byte) :
    arbBad p = true ↔ 1 < u8At p 0 ∨ 1 < u8At p 1 ∨ 1 < u8At p 2 ∨ 1 < u8At p 3 ∨ 1 < u8At p 7 := by
  simp [arbBad, or_assoc]

theorem levelOfCode_byteCode {n : Nat} (h : n ≤ 1) : (levelOfCode n).byteCode = n := by
  have hn : n = 0 ∨ n = 1 := by omega
  rcases hn with rfl | rfl <;> rfl

theorem parkModeOf_byteCode {n : Nat} (h : n ≤ 1) : (parkModeOf n).byteCode = n := by
  have hn : n = 0 ∨ n = 1 := by omega
  rcases hn with rfl | rfl <;> rfl

theorem levelOfCode_eq {level : Nat → Level} (h0 : level 0 = .l1) (h1 : level 1 = .group) {n : Nat} (h : n ≤ 1) :
    level n = levelOfCode n := by
  have hn : n = 0 ∨ n = 1 := by omega
  rcases hn with rfl | rfl
  · exact h0
  · exact h1

theorem exec_arbSet_stored (htaking : s.taking 0x30 p = true) (hlength : p.length = 10) (hgood : arbBad p = false) :
    exec (.arbSet p) s =
      .next
        ((finish (storeArb (arbLevels p) (arbClamped p) s)).answer
          (replyFrame 0x30 (if arbClamped p = arbGiven p then .ok else .clamped)
            (arbSetFields (storeArb (arbLevels p) (arbClamped p) s)))) := by
  have howner : arbSetOwner p s =
      (.ofClamp (arbClamped p ≠ arbGiven p), finish (storeArb (arbLevels p) (arbClamped p) s)) := by
    simp [arbSetOwner, hgood, accept]
  refine congrArg Host.Outcome.next ((takeRequest_owner htaking hlength howner _).trans ?_)
  rw [ofClamp_ne]
  simp only [arbSetFields, finish_settings]

/-! ## DEFROST_SET (R153) and DOOR_SET (R164) -/

theorem exec_defrostSet_stored (htaking : s.taking 0x40 p = true) (hlength : p.length = 9) :
    exec (.defrostSet p) s =
      .next
        ((finish (storeDefrost (defrostTh p) (defrostClamped p) s)).answer
          (replyFrame 0x40 (.ofClamp (defrostTh p ≠ u16At p 0 || defrostClamped p ≠ defrostGiven p))
            (defrostSetFields (finish (storeDefrost (defrostTh p) (defrostClamped p) s))))) :=
  congrArg Host.Outcome.next (takeRequest_owner (owner := defrostSetOwner p) htaking hlength rfl _)

theorem exec_doorSet_stored (htaking : s.taking 0x15 p = true) (hlength : p.length = 3) :
    exec (.doorSet p) s =
      .next
        ((finish (doorSetEffect (doorClamped p) s)).answer
          (replyFrame 0x15 (.ofClamp (doorClamped p ≠ doorGiven p))
            (doorSetFields (finish (doorSetEffect (doorClamped p) s))))) :=
  congrArg Host.Outcome.next (takeRequest_owner (owner := doorSetOwner p) htaking hlength rfl _)

theorem length_doorSetFields (s : State) : (doorSetFields s).length = 27 := rfl

end Requests

/-- Settles O41, request by request. -/
theorem settingsRequests : Obligations.SettingsRequests := by
  intro p s
  refine ⟨exec_zoneTiming, fun htaking hlength => ⟨fun hbad => ?_, fun h0 h1 h2 h3 h7 level v w hl0 hl1 hw hv => ?_⟩,
    fun htaking hlength v w th hw hv hth t ht => ⟨?_, fun hphase => ?_⟩, fun htaking hlength t v hv ht => ⟨?_, ?_⟩⟩
  · have howner : arbSetOwner p s = (.badValue, s) := by simp [arbSetOwner, (arbBad_iff p).2 hbad, refuse]
    exact congrArg Host.Outcome.next (takeRequest_owner htaking hlength howner _)
  · have hgood : arbBad p = false := by
      rw [← Bool.not_eq_true, arbBad_iff]
      omega
    have hwGiven : arbGiven p = w := hw.symm
    have hvClamped : arbClamped p = v := by
      rw [hv, hw]
      rfl
    rw [exec_arbSet_stored htaking hlength hgood, hwGiven, hvClamped]
    simp only [arbLevels, storeArb, arbSetFields, levelOfCode_byteCode h0, levelOfCode_byteCode h1,
      levelOfCode_byteCode h2, levelOfCode_byteCode h3, levelOfCode_eq hl0 hl1 h0, levelOfCode_eq hl0 hl1 h1,
      levelOfCode_eq hl0 hl1 h2, levelOfCode_eq hl0 hl1 h3]
    have hmode : v.parkMode.byteCode = u8At p 7 := by
      rw [← hvClamped]
      exact parkModeOf_byteCode h7
    rw [hmode]
  · have hvClamped : defrostClamped p = v := by
      rw [hv, hw]
      simp [defrostClamped, clamp, clampInt]
    have hwGiven : defrostGiven p = w := hw.symm
    have hthClamped : defrostTh p = th := hth.symm
    rw [exec_defrostSet_stored htaking hlength, hvClamped, hwGiven, hthClamped, ht]
    have hstatus : Status.ofClamp (th ≠ u16At p 0 || v ≠ w) = if v = w ∧ th = u16At p 0 then .ok else .clamped := by
      by_cases hvw : v = w <;> by_cases htu : th = u16At p 0 <;> simp [Status.ofClamp, hvw, htu]
    rw [hstatus]
    simp only [defrostSetFields, finish_settings, storeDefrost]
  · rw [ht]
    exact finish_th_of_not_pending hphase
  · have hvClamped : doorClamped p = v := by
      rw [hv]
      simp [doorClamped, clamp]
    rw [exec_doorSet_stored htaking hlength, hvClamped, ofClamp_ne, ht]
    rfl
  · exact length_doorSetFields t

/-! ## FORCE (R88) and READMIT (R89) -/

theorem leftMins_mins (n : Nat) : leftMins (mins n) = n := by
  unfold leftMins mins
  omega

theorem exec_readmit_fields (t : State) (z : Zone) :
    serviceModeFields z t = [BitVec.ofNat 8 (t.serviceMode z).byteCode] := rfl

/-- Settles O42. -/
theorem forceAndReadmit : Obligations.ForceAndReadmit := by
  intro p s
  refine ⟨fun htaking hlength => ⟨fun hz => ?_, fun z hz => ⟨fun hp => ?_, fun hp h0 => ?_, fun hp hpos => ?_⟩⟩,
    fun htaking hlength => ⟨fun hz => ?_, fun z hz => ⟨fun hp => ?_, fun hp hi => ?_, fun hp hi t ht => ?_⟩⟩⟩
  · have howner : forceOwner p s = (.badValue, s) := by simp [forceOwner, hz, refuse]
    exact congrArg Host.Outcome.next (takeRequest_owner htaking hlength howner _)
  · have howner : forceOwner p s = (.notPresent, s) := by simp [forceOwner, hz, hp, refuse]
    exact congrArg Host.Outcome.next (takeRequest_owner htaking hlength howner _)
  · have howner : forceOwner p s = (.ok, finish (setForced none s)) := by simp [forceOwner, hz, hp, h0, accept]
    refine congrArg Host.Outcome.next ((takeRequest_owner htaking hlength howner _).trans ?_)
    simp only [forceFields, finish_forced, setForced]
    rfl
  · have howner : forceOwner p s =
        (.ofClamp (1440 < u16At p 1), finish (setForced (some ⟨z, mins (min 1440 (u16At p 1))⟩) s)) := by
      simp [forceOwner, hz, hp, hpos.ne', accept]
    refine congrArg Host.Outcome.next ((takeRequest_owner htaking hlength howner _).trans ?_)
    have hstatus : Status.ofClamp (decide (1440 < u16At p 1)) = if u16At p 1 ≤ 1440 then .ok else .clamped := by
      by_cases h : 1440 < u16At p 1
      · simp [Status.ofClamp, h]
      · simp [Status.ofClamp, h, Nat.not_lt.1 h]
    have hticks : min 1440 (u16At p 1) * 60 * 9600 = mins (min 1440 (u16At p 1)) := Nat.mul_assoc _ 60 9600
    rw [hstatus, hticks]
    simp only [forceFields, finish_forced, setForced, leftMins_mins]
  · have howner : readmitOwner p s = (.badValue, s) := by simp [readmitOwner, hz, refuse]
    exact congrArg Host.Outcome.next (takeRequest_owner htaking hlength howner _)
  · have howner : readmitOwner p s = (.notPresent, s) := by simp [readmitOwner, hz, hp, refuse]
    exact congrArg Host.Outcome.next (takeRequest_owner htaking hlength howner _)
  · have howner : readmitOwner p s = (.notNow, s) := by simp [readmitOwner, hz, hp, State.isolated, hi, refuse]
    refine congrArg Host.Outcome.next ((takeRequest_owner htaking hlength howner _).trans ?_)
    rw [zoneFields_some serviceModeFields hz]
    rfl
  · have hisolated : (s.zones.get z).isolation.isNone = false := by
      cases h : (s.zones.get z).isolation with
      | none => exact absurd h hi
      | some _ => rfl
    have hend : (endIsolation z s).mapZone z (fun r => { r with noProgress := 0 }) =
        { s with zones := s.zones.set z { s.zones.get z with isolation := none, noProgress := 0 } } := by
      simp [endIsolation, State.mapZone]
    have howner : readmitOwner p s = (.ok, t) := by
      rw [ht, ← hend]
      simp [readmitOwner, hz, hp, State.isolated, accept, hisolated]
    refine congrArg Host.Outcome.next ((takeRequest_owner htaking hlength howner _).trans ?_)
    rw [zoneFields_some serviceModeFields hz]
    rfl

/-! ## COMP_SET (R133) and CLEAR_LOCKOUT (R135) -/

theorem down50_eq (n : Nat) : down50 n = n / 50 * 50 := by
  unfold down50
  omega

/-- Settles O51. -/
theorem compressorRequests : Obligations.CompressorRequests := by
  intro p s
  refine ⟨fun htaking hlength v w hw hv => ?_, fun htaking => ⟨fun hstate => ?_, fun hstate t ht => ?_⟩⟩
  · have hvClamped : compClamped p = v := by
      rw [hv, hw]
      simp [compClamped, clamp, down50_eq]
    have hwGiven : compGiven p = w := hw.symm
    refine ⟨fun hclose => ?_, fun hapart => ⟨hvClamped ▸ compClamped_ok (hvClamped ▸ hapart), fun t ht => ?_⟩⟩
    · have howner : compSetOwner p s = (.badValue, s) := by simp [compSetOwner, hvClamped, hclose, refuse]
      exact congrArg Host.Outcome.next (takeRequest_owner htaking hlength howner _)
    · have howner : compSetOwner p s = (.ofClamp (compClamped p ≠ compGiven p), t) := by
        rw [ht]
        simp only [compSetOwner, hvClamped, if_neg hapart.not_gt]
        rfl
      refine congrArg Host.Outcome.next ((takeRequest_owner htaking hlength howner _).trans ?_)
      have hsettings : t.settings.comp = v := by
        rw [ht, finish_settings, (recompute_arc _).settings]
      rw [ofClamp_ne, hvClamped, hwGiven]
      simp only [compSetFields, hsettings]
  · have hlength : ([] : List Byte).length = 0 := rfl
    exact congrArg Host.Outcome.next (takeRequest_owner (r := .notNow) (t := s) htaking hlength (if_neg hstate) _)
  · have hlength : ([] : List Byte).length = 0 := rfl
    rw [ht]
    exact congrArg Host.Outcome.next
      (takeRequest_owner (r := .ok) (t := finish (clearLockout s)) htaking hlength (if_pos hstate) _)

/-! ## The compressor controller's timers -/

theorem Compressor.ageDue_cons {c : Compressor} {e : FaultEntry} {rest : List FaultEntry} (h : c.faults = e :: rest) :
    c.ageDue = true ↔ c.state ≠ .lockout ∧ 3600 * 9600 ≤ e.age + 1 := by
  simp [Compressor.ageDue, h, dueUp, sec]

/-- Settles O52: each timer falls due as its due test says. -/
theorem compressorTimers : Obligations.CompressorTimers := by
  intro s
  refine ⟨fun h => if_neg h, fun h => ⟨?_, fun x hx hdue => ?_⟩, fun h => ?_, fun h hon => ?_, fun left hstate hx hdue => ?_,
    fun e rest hfaults hstate hage => ?_, fun e rest hfaults hstate => ?_, fun left hx hdue => ?_⟩
  · simp only [recompute, h, if_true]
    rfl
  · exact congrArg Host.Outcome.next (if_pos ((Compressor.speedDue_iff _).2 ⟨h, x, hx, hdue⟩))
  · exact congrArg Host.Outcome.next (if_pos (s.minOffDue_iff.2 h))
  · exact congrArg Host.Outcome.next (if_pos (s.minOnDue_iff.2 ⟨h, hon⟩))
  · exact congrArg Host.Outcome.next (if_pos ((Compressor.holdDue_iff _).2 ⟨hstate, left, hx, hdue⟩))
  · refine congrArg Host.Outcome.next ((if_pos ((Compressor.ageDue_cons hfaults).2 ⟨hstate, hage⟩)).trans ?_)
    rw [hfaults]
    rfl
  · exact congrArg Host.Outcome.next (if_neg fun hdue => ((Compressor.ageDue_cons hfaults).1 hdue).1 hstate)
  · exact congrArg Host.Outcome.next (if_pos ((Compressor.postRunDue_iff _).2 ⟨left, hx, hdue⟩))

end Sys2Proof.Machine
end

section
/-!
PROOFS. The zone table's requests and timers (statements O37 to O40): a demand evaluation with the recovery mark, ZONE_SET,
ZONE_ENABLE, FLEX_MODE, blind phases and the warm timer.
-/
namespace Sys2Proof.Machine

/-! ## What follows an event, zone by zone -/

theorem finish_sameZone (s : State) (z : Zone) : State.sameZone s (finish s) z :=
  ((whatFollowsKeeps s).2.2.2.2.1 z).1

section SameZone

variable {s t : State} {z : Zone} (h : State.sameZone s t z)
include h

theorem State.sameZone.demand : (t.zones.get z).demand = (s.zones.get z).demand := by rw [h]
theorem State.sameZone.level : (t.zones.get z).level = (s.zones.get z).level := by rw [h]
theorem State.sameZone.blind : (t.zones.get z).blind = (s.zones.get z).blind := by rw [h]
theorem State.sameZone.warm : (t.zones.get z).warm = (s.zones.get z).warm := by rw [h]
theorem State.sameZone.warmFor : (t.zones.get z).warmFor = (s.zones.get z).warmFor := by rw [h]
theorem State.sameZone.warmRunning : (t.zones.get z).warmRunning = (s.zones.get z).warmRunning := by rw [h]
theorem State.sameZone.isolation : (t.zones.get z).isolation = (s.zones.get z).isolation := by rw [h]
theorem State.sameZone.noProgress : (t.zones.get z).noProgress = (s.zones.get z).noProgress := by rw [h]
theorem State.sameZone.holdHarvest : (t.zones.get z).holdHarvest = (s.zones.get z).holdHarvest := by rw [h]
theorem State.sameZone.sameDemand : State.sameDemand s t z := ⟨by rw [h], by rw [h]⟩

end SameZone

theorem State.sameZone_of_eq {s t : State} {z : Zone} (h : t.zones.get z = s.zones.get z) : State.sameZone s t z := by
  unfold State.sameZone
  rw [h]

theorem State.sameZone.trans {s t u : State} {z : Zone} (h : State.sameZone s t z) (k : State.sameZone t u z) :
    State.sameZone s u z := by
  unfold State.sameZone at *
  rw [k, h]

/-- The door monitor follows the demand of `s` alike where `s'` has the doors and the demand of `s`. -/
theorem State.doorsFollow.of_same {s s' t : State} (h : State.doorsFollow s' t) (hdoors : s'.doors = s.doors)
    (hdemand : ∀ z, (s'.zones.get z).demand = (s.zones.get z).demand) : State.doorsFollow s t := by
  unfold State.doorsFollow at *
  simp only [hdoors, hdemand] at h
  exact h

/-- What follows the event leaves the doors and the demand. -/
theorem State.doorsFollow.finish {s t : State} (h : State.doorsFollow s t) : State.doorsFollow s (finish t) := by
  unfold State.doorsFollow at *
  rw [finish_doors]
  refine ⟨h.1, fun z => ?_⟩
  rw [(finish_sameZone t z).demand]
  exact h.2 z

theorem State.doorsFollow_of_same {s t : State} (hdoors : t.doors = s.doors)
    (hdemand : ∀ z, (t.zones.get z).demand = (s.zones.get z).demand) : State.doorsFollow s t := by
  refine ⟨by rw [hdoors], fun z => ?_⟩
  rw [hdoors, hdemand, if_neg]
  rintro ⟨hc, hs⟩
  rw [hc] at hs
  cases hs

/-! ## Demand -/

/-- A demand change touches the zone's record and the recovery marks, nothing else. -/
theorem setDemand_eq (z : Zone) (d : Demand) (level : Nat) (s : State) :
    setDemand z d level s =
      { s with
        zones := s.zones.set z { s.zones.get z with demand := d, level := level }
        doors := (setDemand z d level s).doors } := by
  unfold setDemand
  dsimp only
  split <;> rfl

theorem setDemand_zones (z : Zone) (d : Demand) (level : Nat) (s : State) :
    (setDemand z d level s).zones = s.zones.set z { s.zones.get z with demand := d, level := level } := by
  rw [setDemand_eq]

theorem setDemand_doorsFollow (z : Zone) (d : Demand) (level : Nat) (s : State) :
    State.doorsFollow s (setDemand z d level s) := by
  refine ⟨?_, fun z' => ?_⟩
  · rw [setDemand_doors]
    split <;> rfl
  · rw [setDemand_doors, setDemand_zones]
    by_cases hz : z' = z
    · subst hz
      simp only [PerZone.get_set_self]
      by_cases h : (s.zones.get z').demand = .calling ∧ d = .satisfied
      · simp [h]
      · simp [h]
    · have hnever : ¬((s.zones.get z').demand = .calling ∧ (s.zones.get z').demand = .satisfied) := by
        rintro ⟨hc, hs⟩
        rw [hc] at hs
        cases hs
      rw [PerZone.get_set_other _ hz, if_neg hnever]
      split
      · exact PerZone.get_set_other _ hz _
      · rfl

/-- An evaluation with the zone's last F, or none: without an F, for an absent zone, and for a BLIND one (R13, R39, R49). -/
theorem evaluateNow_cases (z : Zone) (s : State) :
    (∃ f, (s.sensing.air.get z).filtered = some f ∧ s.present z = true ∧ s.blind z = false ∧
        evaluateNow z s = evaluate z f s) ∨
      ((s.sensing.air.get z).filtered = none ∨ s.present z = false ∨ s.blind z = true) ∧ evaluateNow z s = s := by
  unfold evaluateNow
  cases hf : (s.sensing.air.get z).filtered with
  | none => exact .inr ⟨.inl rfl, rfl⟩
  | some f =>
    cases hp : s.present z <;> cases hb : s.blind z <;> simp

theorem evaluateNow_doorsFollow (z : Zone) (s : State) : State.doorsFollow s (evaluateNow z s) := by
  rcases evaluateNow_cases z s with ⟨f, -, -, -, h⟩ | ⟨-, h⟩ <;> rw [h]
  · exact setDemand_doorsFollow _ _ _ _
  · exact State.doorsFollow_of_same rfl fun _ => rfl

/-- An evaluation changes demand state and D of the zone, with its recovery mark, and nothing else. -/
theorem evaluateNow_eq (z : Zone) (s : State) :
    evaluateNow z s =
      { s with
        zones :=
          s.zones.set z
            { s.zones.get z with
              demand := ((evaluateNow z s).zones.get z).demand, level := ((evaluateNow z s).zones.get z).level }
        doors := (evaluateNow z s).doors } := by
  rcases evaluateNow_cases z s with ⟨f, -, -, -, h⟩ | ⟨-, h⟩ <;> rw [h]
  · unfold evaluate
    dsimp only
    rw [setDemand_zones, PerZone.get_set_self]
    exact setDemand_eq _ _ _ _
  · exact congrArg (fun p => { s with zones := p }) (PerZone.set_get_self s.zones z).symm

theorem evaluateNow_get_self (z : Zone) (s : State) :
    (evaluateNow z s).zones.get z =
      { s.zones.get z with
        demand := ((evaluateNow z s).zones.get z).demand, level := ((evaluateNow z s).zones.get z).level } := by
  conv_lhs => rw [evaluateNow_eq]
  exact PerZone.get_set_self _ _ _

theorem evaluateNow_get_other {z z' : Zone} (h : z' ≠ z) (s : State) :
    (evaluateNow z s).zones.get z' = s.zones.get z' := by
  rw [evaluateNow_eq]
  exact PerZone.get_set_other _ h _

theorem evaluateNow_evaluates {z : Zone} {s : State} {f : Int} (hp : s.present z = true)
    (hf : (s.sensing.air.get z).filtered = some f) (hb : s.blind z = false) :
    ((evaluateNow z s).zones.get z).demand = demandOf (s.settings.zone.get z) f (s.zones.get z).demand ∧
      ((evaluateNow z s).zones.get z).level =
        levelOf (s.settings.zone.get z) f (demandOf (s.settings.zone.get z) f (s.zones.get z).demand) := by
  have h : evaluateNow z s = evaluate z f s := by simp [evaluateNow, hf, hp, hb]
  rw [h, evaluate, setDemand_zones, PerZone.get_set_self]
  exact ⟨rfl, rfl⟩

theorem evaluateNow_keeps {z : Zone} {s : State} (h : (s.sensing.air.get z).filtered = none ∨ s.blind z = true) :
    evaluateNow z s = s := by
  unfold evaluateNow
  cases hf : (s.sensing.air.get z).filtered with
  | none => rfl
  | some f =>
    rw [hf] at h
    have hb : s.blind z = true := by simpa using h
    simp [hb]

/-! ## ZONE_SET (R15) -/

/-- The setpoint range of a zone, as the tables write it. -/
theorem setpointRange_eq (m : FlexMode) (z : Zone) :
    setpointRange m z =
      match z with
      | .fresh => (10, 70)
      | .freeze => (-240, -140)
      | .flex =>
        match m with
        | .fresh => (10, 60) | .chill => (-20, 10) | .soft => (-70, -30) | .freeze => (-220, -150)
      | .ice => (-220, -100) := by
  cases z <;> rfl

theorem exec_zoneSet_refused {p : List Byte} {s : State} {r : Status} (htaking : s.taking 0x10 p = true)
    (hlength : p.length = 6) (howner : zoneSetOwner p s = (r, s)) :
    exec (.zoneSet p) s = .next (s.answer (replyFrame 0x10 r (zoneFields p zoneSetFields s))) :=
  congrArg Host.Outcome.next (takeRequest_owner htaking hlength howner _)

/-- What ZONE_SET leaves: the settings stored, the evaluation made, and what follows the event. -/
theorem zoneSetEffect_settings (z : Zone) (p : List Byte) (s : State) :
    (zoneSetEffect z p s).settings =
      { s.settings with
        zone := s.settings.zone.set z (zoneSetClamped s.settings.flexMode z p (s.settings.zone.get z)) } := by
  unfold zoneSetEffect
  rw [evaluateNow_eq]
  rfl

/-- Settles O37: the checks in order, then the stored values and the evaluation with them. -/
theorem zoneSet : Obligations.ZoneSet := by
  intro p s htaking hlength
  refine ⟨fun hz => ?_, fun z hz => ⟨fun hp => ?_, fun hp hbad => ?_, fun hp hgood range hrange => ?_⟩⟩
  · exact exec_zoneSet_refused (r := .badValue) htaking hlength (by simp [zoneSetOwner, hz, refuse])
  · exact exec_zoneSet_refused (r := .notPresent) htaking hlength (by simp [zoneSetOwner, hz, hp, refuse])
  · exact exec_zoneSet_refused (r := .badValue) htaking hlength (by simp [zoneSetOwner, hz, hp, hbad, refuse])
  · have hrange' : setpointRange s.settings.flexMode z = range := (setpointRange_eq _ _).trans hrange.symm
    have hq : zoneSetClamped s.settings.flexMode z p (s.settings.zone.get z) =
        { s.settings.zone.get z with
          setpoint := max range.1 (min range.2 (s16At p 1))
          hu := max 2 (min 50 (u8At p 3))
          hd := max 2 (min 50 (u8At p 4))
          fs := max 10 (min 200 (u8At p 5)) } := by
      rw [← hrange']
      rfl
    generalize hqdef : zoneSetClamped s.settings.flexMode z p (s.settings.zone.get z) = q at hq
    have hstored := zoneSetEffect_settings z p s
    rw [hqdef] at hstored
    have howner : zoneSetOwner p s = (.ofClamp (q ≠ zoneSetGiven p (s.settings.zone.get z)), finish (zoneSetEffect z p s)) := by
      simp [zoneSetOwner, hz, hp, hgood, accept, hqdef]
    have hstatus : Status.ofClamp (q ≠ zoneSetGiven p (s.settings.zone.get z)) =
        if q.setpoint = s16At p 1 ∧ q.hu = u8At p 3 ∧ q.hd = u8At p 4 ∧ q.fs = u8At p 5 then .ok else .clamped := by
      rw [ofClamp_ne]
      refine if_congr ?_ rfl rfl
      rw [hq]
      simp [zoneSetGiven]
    have hbase : zoneSetEffect z p s = evaluateNow z (s.mapZoneSettings z fun _ => q) := by
      rw [zoneSetEffect, State.mapZoneSettings, hqdef]
      rfl
    generalize hm : s.mapZoneSettings z (fun _ => q) = m at hbase
    have hmfields : m.zones = s.zones ∧ m.doors = s.doors ∧ m.sensing = s.sensing ∧ m.strap = s.strap ∧ m.bus = s.bus ∧
        m.service = s.service ∧ m.pending = s.pending ∧ m.settings.zone.get z = q := by
      subst hm
      exact ⟨rfl, rfl, rfl, rfl, rfl, rfl, rfl, PerZone.get_set_self _ _ _⟩
    obtain ⟨hzones, hdoors, hsensing, hstrap, hbus, hservice, hpending, hmq⟩ := hmfields
    have hpresent : m.present z = true := by rw [← hp]; unfold State.present; rw [hstrap]
    have hblind : m.blind z = s.blind z := by unfold State.blind State.present; rw [hstrap, hsensing]
    have hall : ∀ z', ((finish (zoneSetEffect z p s)).zones.get z').demand = ((evaluateNow z m).zones.get z').demand ∧
        ((finish (zoneSetEffect z p s)).zones.get z').level = ((evaluateNow z m).zones.get z').level := fun z' => by
      rw [hbase]
      exact (finish_sameZone _ z').sameDemand
    refine ⟨finish (zoneSetEffect z p s), q, hq, ?_, ?_, fun f hf hb => ?_, fun hnone => ?_, fun z' hz' => ?_,
      fun z' => ?_, ?_, ?_, ?_, ?_, ?_, ?_⟩
    · refine congrArg Host.Outcome.next ((takeRequest_owner htaking hlength howner _).trans ?_)
      rw [hstatus, zoneFields_some zoneSetFields hz]
      simp only [zoneSetFields, finish_settings, hstored, PerZone.get_set_self]
    · rw [finish_settings, hstored]
    · obtain ⟨hdemand, hlevel⟩ := evaluateNow_evaluates (s := m) (f := f) hpresent (by rw [hsensing, hf]) (by rw [hblind, hb])
      rw [(hall z).1, (hall z).2, hdemand, hlevel, hmq, hzones]
      exact ⟨rfl, rfl⟩
    · have hkeep : evaluateNow z m = m := evaluateNow_keeps (by rwa [hsensing, hblind])
      rw [State.sameDemand, (hall z).1, (hall z).2, hkeep, hzones]
      exact ⟨rfl, rfl⟩
    · rw [State.sameDemand, (hall z').1, (hall z').2, evaluateNow_get_other hz', hzones]
      exact ⟨rfl, rfl⟩
    · have hsame := finish_sameZone (zoneSetEffect z p s) z'
      rw [hsame.blind, hsame.warmFor, hsame.isolation, hbase]
      by_cases hz' : z' = z
      · subst hz'
        rw [evaluateNow_get_self, hzones]
        exact ⟨rfl, rfl, rfl⟩
      · rw [evaluateNow_get_other hz', hzones]
        exact ⟨rfl, rfl, rfl⟩
    · rw [finish_strap, hbase, evaluateNow_eq]
      exact hstrap
    · rw [finish_sensing, hbase, evaluateNow_eq]
      exact hsensing
    · rw [finish_bus, hbase, evaluateNow_eq]
      exact hbus
    · rw [finish_service, hbase, evaluateNow_eq]
      exact hservice
    · rw [finish_pending, hbase, evaluateNow_eq]
      exact hpending
    · rw [hbase]
      exact ((evaluateNow_doorsFollow z m).of_same hdoors fun z' => by rw [hzones]).finish

/-! ## ZONE_ENABLE (R16) -/

theorem Zone.ofNumber_none {n : Nat} (h : n = 0 ∨ 4 < n) : Zone.ofNumber n = none := by
  unfold Zone.ofNumber
  split <;> first | omega | rfl

theorem Zone.ofNumber_number (z : Zone) : Zone.ofNumber z.number = some z := by cases z <;> rfl

theorem Zone.number_toNat (z : Zone) : (BitVec.ofNat 8 z.number).toNat = z.number := by cases z <;> rfl

theorem zoneOf_number (z : Zone) (rest : List Byte) : zoneOf (BitVec.ofNat 8 z.number :: rest) = some z := by
  simp only [zoneOf, u8At, List.getD_cons_zero, Zone.number_toNat, Zone.ofNumber_number]

theorem zoneEnableOwner_bad {n v : Byte} (h : n.toNat = 0 ∨ 4 < n.toNat ∨ 1 < v.toNat) (s : State) :
    zoneEnableOwner [n, v] s = (.badValue, s) := by
  unfold zoneEnableOwner
  cases hz : zoneOf [n, v] with
  | none => rfl
  | some z =>
    have hv : 1 < u8At [n, v] 1 := by
      rcases h with h | h | h
      · have hnone : zoneOf [n, v] = none := Zone.ofNumber_none (.inl h)
        rw [hz] at hnone
        cases hnone
      · have hnone : zoneOf [n, v] = none := Zone.ofNumber_none (.inr h)
        rw [hz] at hnone
        cases hnone
      · exact h
    dsimp only
    rw [if_pos hv]
    rfl

/-- The effect on the field's zone: WARM and its timer go with a disable (R54(c)); other records stand. -/
theorem enableEffect_get (z : Zone) (on : Bool) (s : State) (z' : Zone) :
    (enableEffect z on s).zones.get z' =
      if z' = z ∧ on = false then (s.zones.get z').clearWarm else s.zones.get z' := by
  unfold enableEffect
  cases on with
  | true => simp
  | false =>
    by_cases hz : z' = z
    · subst hz
      simp
    · simp [hz, PerZone.get_set_other]

/-- Settles O38. -/
theorem zoneEnable : Obligations.ZoneEnable := by
  refine ⟨fun n v s hbad htaking => congrArg Host.Outcome.next (takeRequest_owner htaking rfl (zoneEnableOwner_bad hbad s) _),
    fun z on s => ?_⟩
  intro p htaking
  have hz : zoneOf p = some z := zoneOf_number z _
  have hvalue : u8At p 1 = on.toNat := by cases on <;> rfl
  have hon : decide (u8At p 1 = 1) = on := by rw [hvalue]; cases on <;> rfl
  have hsmall : ¬ 1 < u8At p 1 := by rw [hvalue]; cases on <;> decide
  refine ⟨fun hp => ?_, fun hp => ?_⟩
  · have howner : zoneEnableOwner p s = (.notPresent, s) := by
      simp only [zoneEnableOwner, hz, hp, if_neg hsmall]
      rfl
    exact congrArg Host.Outcome.next (takeRequest_owner htaking rfl howner _)
  · have howner : zoneEnableOwner p s =
        if (s.settings.zone.get z).enabled = on then (.ok, s) else (.ok, finish (enableEffect z on s)) := by
      simp only [zoneEnableOwner, hz, hp, if_neg hsmall, hon]
      rfl
    have hexec : ∀ t : State, zoneEnableOwner p s = (.ok, t) → (t.settings.zone.get z).enabled = on →
        exec (.zoneEnable p) s =
          .next (t.answer (hostFrame 0x92 [0, BitVec.ofNat 8 on.toNat, BitVec.ofNat 8 (t.serviceMode z).byteCode])) := by
      intro t ht hfield
      refine congrArg Host.Outcome.next ((takeRequest_owner htaking rfl ht _).trans ?_)
      rw [zoneFields_some zoneEnableFields hz]
      simp only [zoneEnableFields, hfield]
      rfl
    by_cases hequal : (s.settings.zone.get z).enabled = on
    · rw [if_pos hequal] at howner
      exact ⟨s, hexec s howner hequal, fun _ => rfl, fun hne => absurd hequal hne⟩
    · rw [if_neg hequal] at howner
      have hsettings : (enableEffect z on s).settings =
          { s.settings with zone := s.settings.zone.set z { s.settings.zone.get z with enabled := on } } := by
        cases on <;> rfl
      have hsame := finish_sameZone (enableEffect z on s)
      have hget := enableEffect_get z on s
      refine ⟨_, hexec _ howner ?_, fun h => absurd h hequal, fun _ => ⟨?_, fun z' => ⟨?_, ?_, ?_⟩, fun hoff => ?_,
        fun hon => ?_, ?_, ?_, ?_, ?_, ?_, ?_⟩⟩
      · rw [finish_settings, hsettings]
        simp only [PerZone.get_set_self]
      · rw [finish_settings, hsettings]
      · rw [State.sameDemand, (hsame z').demand, (hsame z').level, hget]
        split <;> exact ⟨rfl, rfl⟩
      · rw [(hsame z').blind, hget]
        split <;> rfl
      · rw [(hsame z').isolation, hget]
        split <;> rfl
      · rw [(hsame z).warm, (hsame z).warmFor, (hsame z).warmRunning, hget, if_pos ⟨rfl, hoff⟩]
        exact ⟨rfl, rfl, rfl⟩
      · rw [(hsame z).warm, hget, if_neg (by simp [hon])]
      · rw [finish_strap]
        cases on <;> rfl
      · rw [finish_sensing]
        cases on <;> rfl
      · rw [finish_doors]
        cases on <;> rfl
      · rw [finish_bus]
        cases on <;> rfl
      · rw [finish_service]
        cases on <;> rfl
      · rw [finish_pending]
        cases on <;> rfl

/-! ## FLEX_MODE (R17) -/

theorem flexModeOf_byteCode (m : FlexMode) : flexModeOf m.byteCode = m := by cases m <;> rfl

/-- The state on which FLEX_MODE evaluates: the mode, its setpoint, and the no-progress count at 0. -/
theorem flexModeEffect_eq (m : FlexMode) (s : State) :
    flexModeEffect m s =
      evaluateNow .flex
        { s with
          settings :=
            { s.settings with
              flexMode := m
              zone := { s.settings.zone with flex := { s.settings.zone.flex with setpoint := m.setpoint } } }
          zones := { s.zones with flex := { s.zones.flex with noProgress := 0 } } } := rfl

/-- Settles O39. -/
theorem flexModeSet : Obligations.FlexModeSet := by
  refine ⟨fun n s hbad htaking => ?_, fun m s => ?_⟩
  · have howner : flexModeOwner [n] s = (.badValue, s) := if_pos hbad
    exact congrArg Host.Outcome.next (takeRequest_owner htaking rfl howner _)
  intro p q htaking
  have hcode : u8At p 0 = m.byteCode := by cases m <;> rfl
  have hsmall : ¬ 3 < u8At p 0 := by rw [hcode]; cases m <;> decide
  have hmode : flexModeOf (u8At p 0) = m := by rw [hcode, flexModeOf_byteCode]
  refine ⟨fun hp => ?_, fun hp hsame => ?_, fun hp hother => ?_⟩
  · have howner : flexModeOwner p s = (.notPresent, s) := by
      simp only [flexModeOwner, if_neg hsmall, hp]
      rfl
    exact congrArg Host.Outcome.next (takeRequest_owner htaking rfl howner _)
  · have howner : flexModeOwner p s = (.ok, s) := by
      simp only [flexModeOwner, if_neg hsmall, hp, hmode, if_pos hsame]
      rfl
    exact congrArg Host.Outcome.next (takeRequest_owner htaking rfl howner _)
  · have howner : flexModeOwner p s = (.ok, finish (flexModeEffect m s)) := by
      simp only [flexModeOwner, if_neg hsmall, hp, hmode, if_neg hother]
      rfl
    have hq : q = { s.settings.zone.flex with setpoint := m.setpoint } := by cases m <;> rfl
    have hbase := flexModeEffect_eq m s
    rw [← hq] at hbase
    generalize hb : ({ s with
        settings := { s.settings with flexMode := m, zone := { s.settings.zone with flex := q } }
        zones := { s.zones with flex := { s.zones.flex with noProgress := 0 } } } : State) = b at hbase
    have hbfields : b.settings = { s.settings with flexMode := m, zone := { s.settings.zone with flex := q } } ∧
        b.zones = { s.zones with flex := { s.zones.flex with noProgress := 0 } } ∧ b.doors = s.doors ∧
        b.sensing = s.sensing ∧ b.strap = s.strap ∧ b.bus = s.bus ∧ b.service = s.service ∧ b.pending = s.pending := by
      subst hb
      exact ⟨rfl, rfl, rfl, rfl, rfl, rfl, rfl, rfl⟩
    obtain ⟨hsettings, hzones, hdoors, hsensing, hstrap, hbus, hservice, hpending⟩ := hbfields
    have hflex : b.zones.get .flex = { s.zones.flex with noProgress := 0 } := by rw [hzones]; rfl
    have hpresent : b.present .flex = true := by rw [← hp]; unfold State.present; rw [hstrap]
    have hblind : b.blind .flex = s.blind .flex := by unfold State.blind State.present; rw [hstrap, hsensing]
    have hself := evaluateNow_get_self .flex b
    have hfinish := finish_sameZone (evaluateNow .flex b) .flex
    have hbsettings : (evaluateNow .flex b).settings = b.settings := by rw [evaluateNow_eq]
    refine ⟨finish (flexModeEffect m s), ?_, ?_, ?_, ?_, ?_, ?_, fun f hf hb => ?_, fun hnone => ?_, fun z hz => ?_, ?_, ?_,
      ?_, ?_, ?_, ?_⟩
    · refine congrArg Host.Outcome.next ((takeRequest_owner htaking rfl howner _).trans ?_)
      rw [hbase]
      simp only [flexModeFields, finish_settings, hbsettings, hsettings]
    · rw [hbase, finish_settings, hbsettings, hsettings]
    · rw [hbase]
      refine hfinish.noProgress.trans ?_
      rw [hself, hflex]
    · rw [hbase]
      refine hfinish.isolation.trans ?_
      rw [hself, hflex]
    · rw [hbase]
      refine hfinish.blind.trans ?_
      rw [hself, hflex]
    · rw [hbase]
      refine hfinish.holdHarvest.trans ?_
      rw [hself, hflex]
    · obtain ⟨hdemand, hlevel⟩ := evaluateNow_evaluates (s := b) (z := .flex) (f := f) hpresent (by rw [hsensing]; exact hf)
        (by rw [hblind, hb])
      have hbq : b.settings.zone.get .flex = q := by rw [hsettings]; rfl
      have hbdemand : (b.zones.get .flex).demand = s.zones.flex.demand := by rw [hflex]
      rw [hbq, hbdemand] at hdemand hlevel
      rw [hbase]
      exact ⟨hfinish.demand.trans hdemand, hfinish.level.trans hlevel⟩
    · have hkeep : evaluateNow .flex b = b := evaluateNow_keeps (by rw [hsensing, hblind]; exact hnone)
      rw [hbase]
      refine ⟨hfinish.demand.trans ?_, hfinish.level.trans ?_⟩ <;> rw [hkeep, hflex] <;> rfl
    · rw [hbase]
      refine State.sameZone.trans (State.sameZone_of_eq ?_) (finish_sameZone _ z)
      rw [evaluateNow_get_other hz, hzones]
      cases z <;> first | rfl | exact absurd rfl hz
    · rw [finish_strap, hbase, evaluateNow_eq]
      exact hstrap
    · rw [finish_sensing, hbase, evaluateNow_eq]
      exact hsensing
    · rw [finish_bus, hbase, evaluateNow_eq]
      exact hbus
    · rw [finish_service, hbase, evaluateNow_eq]
      exact hservice
    · rw [finish_pending, hbase, evaluateNow_eq]
      exact hpending
    · rw [hbase]
      refine ((evaluateNow_doorsFollow .flex b).of_same hdoors fun z => ?_).finish
      rw [hzones]
      cases z <;> rfl

/-! ## Blind phases and the warm timer (R47, R53) -/

theorem enterBlindPhase_eq (z : Zone) (phase : Demand) (s : State) :
    enterBlindPhase z phase s =
      { s with
        zones :=
          s.zones.set z
            { s.zones.get z with
              blind := some ⟨phase, sec (blindSecs z phase)⟩
              demand := phase
              level := match phase with | .calling => 50 | .satisfied => 0 }
        doors := (enterBlindPhase z phase s).doors } := by
  unfold enterBlindPhase
  conv_lhs => rw [setDemand_eq]
  simp only [State.mapZone, PerZone.set_set, PerZone.get_set_self] <;> cases phase <;> rfl

theorem enterBlindPhase_doorsFollow (z : Zone) (phase : Demand) (s : State) :
    State.doorsFollow s (enterBlindPhase z phase s) := by
  refine (setDemand_doorsFollow z phase _ _).of_same rfl fun z' => ?_
  by_cases hz : z' = z
  · subst hz
    simp
  · simp [PerZone.get_set_other _ hz]

theorem enterBlindPhase_self (z : Zone) (phase : Demand) (s : State) :
    (enterBlindPhase z phase s).zones.get z =
      { s.zones.get z with
        blind := some ⟨phase, sec (blindSecs z phase)⟩
        demand := phase
        level := match phase with | .calling => 50 | .satisfied => 0 } := by
  rw [enterBlindPhase_eq]
  exact PerZone.get_set_self _ _ _

/-- Settles O40: the phase that follows, and the warm count at its 3600th second. -/
theorem zoneTimers : Obligations.ZoneTimers := by
  intro z s
  refine ⟨fun b hb hleft => ?_, fun hrunning hopen hwarm hdue => ?_⟩
  · have hexec : exec (.blindPhaseExpiry z) s = .next (finish (enterBlindPhase z b.phase.other s)) := by
      refine congrArg Host.Outcome.next ((if_pos ((s.blindDue_iff z).2 ⟨b, hb, hleft⟩)).trans ?_)
      simp only [blindExpired, hb]
    have hsame := finish_sameZone (enterBlindPhase z b.phase.other s)
    have hself := enterBlindPhase_self z b.phase.other s
    refine ⟨_, hexec, fun hphase => ?_, fun hphase => ?_, fun z' hz' => ?_, ⟨?_, ?_, ?_, ?_, ?_⟩, ?_,
      (enterBlindPhase_doorsFollow _ _ _).finish⟩
    · rw [(hsame z).blind, (hsame z).demand, (hsame z).level, hself, hphase]
      cases z <;> exact ⟨rfl, rfl, rfl⟩
    · rw [(hsame z).blind, (hsame z).demand, (hsame z).level, hself, hphase]
      cases z <;> exact ⟨rfl, rfl, rfl⟩
    · refine State.sameZone.trans (State.sameZone_of_eq ?_) (hsame z')
      rw [enterBlindPhase_eq]
      exact PerZone.get_set_other _ hz' _
    · rw [finish_strap, enterBlindPhase_eq]
    · rw [finish_settings, enterBlindPhase_eq]
    · rw [finish_sensing, enterBlindPhase_eq]
    · rw [finish_service, enterBlindPhase_eq]
    · rw [finish_pending, enterBlindPhase_eq]
    · rw [finish_bus, enterBlindPhase_eq]
  · exact congrArg Host.Outcome.next (if_pos ((s.warmDue_iff z).2 ⟨hrunning, hopen, hwarm, hdue⟩))

end Sys2Proof.Machine
end

section
/-!
PROOFS. A second pass after a first one: which decisions a pass leaves open (none, but for RUNOUT), and that the rest of a
pass finds nothing more to do.
-/
namespace Sys2Proof.Machine

/-! ## The list after a pass -/

/-- An exact list is what the membership conditions make of it. -/
theorem relist_of_exact {s : State} (h : s.listExact) : relist s = s := by
  rw [State.listExact_iff] at h
  have hstays : s.arb.waiting.filter (fun w => s.member w.zone && !s.holds w.zone) = s.arb.waiting := by
    refine List.filter_eq_self.2 fun w hw => ?_
    rw [← h]
    exact (s.onList_iff _).2 ⟨w, hw, rfl⟩
  have hjoins : Zone.all.filter (fun z => s.member z && !s.holds z && !s.onList z) = [] := by
    refine List.filter_eq_nil_iff.2 fun z _ => ?_
    rw [← h]
    simp
  unfold relist State.relisted
  rw [hstays, hjoins, List.map_nil, List.append_nil]

/-- On an exact list a zone waits selectable where it meets the terms of R59 and does not hold the grant. -/
theorem State.waitingSelectable_of_exact {s : State} (h : s.listExact) (z : Zone) :
    s.waitingSelectable z = (s.selectable z && !s.holds z) := by
  rw [State.listExact_iff] at h
  unfold State.waitingSelectable
  rw [h]
  have hmember : s.selectable z = true → s.member z = true := by
    intro hs
    simp only [State.selectable, State.zoneSelectable, Bool.and_eq_true] at hs
    exact hs.1.1.1.1
  cases hs : s.selectable z with
  | false => simp
  | true => simp [hmember hs]

theorem settle_relist (s : State) : relist (settle s) = settle s := relist_of_exact (settle_listExact s)


/-! ## The terms of an end and of a preemption -/

/-- No end cause: the compressor available, the holder enabled, not held and with its route, and not SATISFIED unless min dwell
has still to pass in COOLING (R72 to R74). -/
theorem State.endCause_none_iff (s : State) (g : Grant) :
    s.endCause g = none ↔
      s.compAvailable = true ∧ (s.settings.zone.get g.zone).enabled = true ∧ s.held g.zone = false ∧
        s.routeAvailable g.zone = true ∧
        ¬((s.zones.get g.zone).demand = .satisfied ∧ (g.phase = .routing ∨ g.minLeft = 0)) := by
  unfold State.endCause
  cases s.compAvailable <;> cases (s.settings.zone.get g.zone).enabled <;> cases s.held g.zone <;>
    cases s.routeAvailable g.zone <;> simp

theorem ArcOnly.endCause {s t : State} (h : ArcOnly s t) (hcomp : t.compAvailable = s.compAvailable) (g : Grant) :
    t.endCause g = s.endCause g := by
  unfold State.endCause
  rw [hcomp, h.settings, h.held, h.routeAvailable, h.zones]

/-- Nobody preempts: no claim that FREEZE waits for, and no forced zone that waits, both against another holder (R68). -/
theorem State.preemptor_none_iff (s : State) (g : Grant) :
    s.preemptor g = none ↔
      ¬(s.arb.claim = true ∧ s.waitingSelectable .freeze = true ∧ g.zone ≠ .freeze) ∧
        ∀ f, s.arb.forced = some f →
          ¬(s.waitingSelectable f.zone = true ∧ f.zone ≠ g.zone ∧ g.reason ≠ .recovery) := by
  unfold State.preemptor
  by_cases hclaim : s.arb.claim = true ∧ s.waitingSelectable .freeze = true ∧ g.zone ≠ .freeze
  · obtain ⟨hc, hw, hz⟩ := hclaim
    simp [hc, hw, hz]
  · have hfirst : (s.arb.claim && s.waitingSelectable .freeze && decide (g.zone ≠ .freeze)) = false := by
      rw [← Bool.not_eq_true]
      simpa [and_assoc] using hclaim
    rw [hfirst]
    cases hf : s.arb.forced with
    | none => simp [hclaim]
    | some f => simp [hclaim, and_assoc]

theorem preemptor_congr {s t : State} (hclaim : t.arb.claim = s.arb.claim) (hforced : t.arb.forced = s.arb.forced)
    (hwaits : ∀ z, t.waitingSelectable z = s.waitingSelectable z) {g h : Grant} (hzone : h.zone = g.zone)
    (hreason : h.reason = g.reason) : t.preemptor h = s.preemptor g := by
  have hsame : t.waitingSelectable = s.waitingSelectable := funext hwaits
  unfold State.preemptor
  rw [hclaim, hforced, hsame, hzone, hreason]

/-- The continuation mark that R73 asks for. -/
def State.continues (s : State) (g : Grant) : Bool :=
  decide (g.phase = .cooling) && decide ((s.zones.get g.zone).demand = .satisfied)

/-! ## Decided states -/

/-- No decision of the arbiter is open: the list stands, a grant in RUN has no end cause and its mark, nobody preempts it, and
without one no waiting zone is selectable. -/
def State.decided (s : State) : Prop :=
  relist s = s ∧
    (s.mode.opState = .run →
      (∀ g, s.arb.grant = some g →
          s.endCause g = none ∧ (s.preemptor g = none ∨ g.preemptable = false) ∧ g.continuation = s.continues g) ∧
        (s.arb.grant = none → ∀ z, s.waitingSelectable z = false))

/-- Where the holder FREEZE could be preempted, no claim stands beside a forced record, as R65 has it. -/
abbrev State.claimSound (s : State) : Prop :=
  ∀ g, s.arb.grant = some g → s.endCause g = none → g.preemptable = true → g.zone = .freeze → s.arb.claim = true →
    s.arb.forced = none

theorem State.claimRule.sound {s : State} (h : s.claimRule) : s.claimSound := by
  intro g hg _ _ hz hc
  rw [(h.2 g hg hz).2] at hc
  cases hc

theorem State.claimSound_of_noGrant {s : State} (h : s.arb.grant = none) : s.claimSound := by
  intro g hg
  rw [h] at hg
  cases hg

theorem State.claimSound_of_noClaim {s : State} (h : s.arb.claim = false) : s.claimSound := by
  intro g _ _ _ _ hc
  rw [h] at hc
  cases hc

theorem markContinuation_eq {s : State} {g : Grant} (hgrant : s.arb.grant = some g) :
    markContinuation s =
      { s with arb := { s.arb with grant := some { g with continuation := s.continues g } } } := by
  simp only [markContinuation, State.mapGrant, hgrant, Option.map_some, State.continues]

/-- With a grant, or outside RUN, a decided state is left by the arbitration as it is. -/
theorem arbitrate_of_decided {s : State} (h : s.decided) (hheld : s.arb.grant.isSome = true ∨ s.mode.opState ≠ .run) :
    arbitrate s = s := by
  obtain ⟨hlist, hrun⟩ := h
  by_cases hmode : s.mode.opState = .run
  · obtain ⟨g, hgrant⟩ := Option.isSome_iff_exists.1 (hheld.resolve_right (not_not.2 hmode))
    obtain ⟨hend, hpre, hmark⟩ := (hrun hmode).1 g hgrant
    have hsame : markContinuation s = s := by
      rw [markContinuation_eq hgrant, ← hmark, ← hgrant]
    rw [arbitrate_run_some hmode hgrant, hlist]
    rcases heldGrant_cases g s with ⟨r, hr, -⟩ | ⟨-, ⟨z, r, hp, hable, -⟩ | ⟨-, h⟩⟩
    · rw [hend] at hr
      cases hr
    · rw [hsame] at hp
      rcases hpre with hpre | hpre
      · rw [hpre] at hp
        cases hp
      · rw [hpre] at hable
        cases hable
    · rw [h, hsame]
  · rw [arbitrate_not_run hmode, hlist]

/-- Without a grant in RUN a decided state has the idle sub-state's own moves alone. -/
theorem arbitrate_of_decided_idle {s : State} (h : s.decided) (hmode : s.mode.opState = .run)
    (hgrant : s.arb.grant = none) : arbitrate s = rehomeTest (runoutEnd s) := by
  obtain ⟨hlist, hrun⟩ := h
  rw [arbitrate_run_none hmode hgrant, hlist]
  have hnobody : (normalise s).selection none = none :=
    (State.selection_none_iff _).2 fun z => by
      rw [normalise_waitingSelectable]
      exact (hrun hmode).2 hgrant z
  rcases noGrant_cases s with ⟨z, r, hw, -⟩ | ⟨-, h⟩
  · rw [hnobody] at hw
    cases hw
  · exact h

/-! ## The arbitration decides -/

/-- Without a holder every zone that meets the terms of R59 waits. -/
theorem waitingSelectable_of_noGrant {s : State} (h : s.listExact) (hgrant : s.arb.grant = none) (z : Zone) :
    s.waitingSelectable z = s.selectable z := by
  rw [State.waitingSelectable_of_exact h, State.holds, hgrant]
  simp

theorem selectable_spec {s : State} {z : Zone} (h : s.selectable z = true) :
    s.compAvailable = true ∧ (s.settings.zone.get z).enabled = true ∧ s.held z = false ∧ s.routeAvailable z = true ∧
      (s.zones.get z).demand = .calling ∧ s.member z = true := by
  simp only [State.selectable, State.zoneSelectable, State.member, Bool.and_eq_true, Bool.not_eq_true',
    decide_eq_true_eq] at h
  obtain ⟨⟨⟨⟨⟨⟨⟨hdemand, hpresent⟩, henabled⟩, hisolated⟩, hheld⟩, hroute⟩, -⟩, hcomp⟩ := h
  refine ⟨hcomp, henabled, hheld, hroute, hdemand, ?_⟩
  simp [State.member, hdemand, hpresent, henabled, hisolated]

/-- The new grant of a selectable zone leaves nothing to decide where neither the claim nor the forced record stands against
it. -/
theorem createGrant_decided {x : State} {z : Zone} {r : GrantReason} (hexact : x.listExact) (hgrant : x.arb.grant = none)
    (hz : x.selectable z = true)
    (hclaim : x.arb.claim = true → x.selectable .freeze = true → r = .recovery ∨ z = .freeze)
    (hforced : ∀ f, x.arb.forced = some f → x.selectable f.zone = true → f.zone = z ∨ r = .recovery) :
    (createGrant z r x).decided := by
  have harc := createGrant_arc z r x
  have hcomp := compAvailable_of_steady (createGrant_steady z r x)
  have hlist := createGrant_listExact z r hexact hgrant
  have hnew := (createGrant_grant z r x).1
  have hselectable : ∀ y, (createGrant z r x).waitingSelectable y = true → x.selectable y = true := by
    intro y hy
    rw [State.waitingSelectable_iff, harc.selectable hcomp] at hy
    exact hy.2
  obtain ⟨havailable, henabled, hheld, hroute, hcalling, -⟩ := selectable_spec hz
  refine ⟨relist_of_exact hlist, fun _ => ⟨fun g hg => ?_, fun hnone => ?_⟩⟩
  · obtain rfl := Option.some.inj (hnew.symm.trans hg)
    refine ⟨?_, .inl ?_, ?_⟩
    · rw [harc.endCause hcomp, State.endCause_none_iff]
      refine ⟨havailable, henabled, hheld, hroute, ?_⟩
      rintro ⟨hsatisfied, -⟩
      have hd : (x.zones.get z).demand = .satisfied := hsatisfied
      rw [hcalling] at hd
      cases hd
    · rw [State.preemptor_none_iff]
      refine ⟨?_, fun f hf => ?_⟩
      · rintro ⟨hc, hw, hne⟩
        rw [createGrant_arb] at hc
        by_cases hr : r = .recovery
        · simp [hr] at hc
        · simp only [hr, if_false] at hc
          exact hne ((hclaim hc (hselectable _ hw)).resolve_left hr)
      · rintro ⟨hw, hne, hreason⟩
        rw [createGrant_forced] at hf
        exact (hforced f hf (hselectable _ hw)).elim hne hreason
    · rfl
  · rw [hnew] at hnone
    cases hnone

/-- The winner of a selection is decided: the selection itself looks at the claim and the forced record first (R64). -/
theorem createGrant_decided_of_selection {x : State} {z : Zone} {r : GrantReason} (hexact : x.listExact)
    (hgrant : x.arb.grant = none) (h : x.selection none = some (z, r)) : (createGrant z r x).decided := by
  have hwaits := fun y => waitingSelectable_of_noGrant hexact hgrant y
  obtain ⟨hcandidate, hreason⟩ := State.selection_spec h
  rw [State.candidate_none, hwaits] at hcandidate
  refine createGrant_decided hexact hgrant hcandidate (fun hc hs => ?_) fun f hf hs => ?_
  · rcases hreason with ⟨hr, -, -⟩ | ⟨-, hno, -⟩
    · exact .inl hr
    · have hfalse := hno hc
      rw [State.candidate_none, hwaits, hs] at hfalse
      cases hfalse
  · rcases hreason with ⟨hr, -, -⟩ | ⟨-, -, ⟨f', hf', hz, -⟩ | ⟨-, -, hno⟩⟩
    · exact .inr hr
    · rw [hf] at hf'
      obtain rfl := Option.some.inj hf'
      exact .inl hz
    · have hfalse := hno f hf
      rw [State.candidate_none, hwaits, hs] at hfalse
      cases hfalse

/-- An idle outcome is decided: nobody waits. -/
theorem decided_of_idle {s : State} (hexact : s.listExact) (hgrant : s.arb.grant = none) (hs : s.noneWaits) : s.decided :=
  ⟨relist_of_exact hexact, fun hrun => ⟨fun g hg => (by simp [hgrant] at hg), hs hrun⟩⟩

theorem afterEnd_decided {s : State} (hexact : s.listExact) (hgrant : s.arb.grant = none) : (afterEnd s).decided := by
  have hexact' := normalise_listExact hexact
  have hgrant' : (normalise s).arb.grant = none := by rw [normalise_grant, hgrant]
  have hlist := afterEnd_listExact hexact hgrant
  have hnone := afterEnd_noneWaits s
  rcases afterEnd_cases s with ⟨z, r, hw, h⟩ | ⟨-, h⟩
  · rw [h]
    exact createGrant_decided_of_selection hexact' hgrant' hw
  · refine decided_of_idle hlist ?_ hnone
    rw [h, (enterIdle_idleOnly _).grant, hgrant']

theorem noGrant_decided {s : State} (hexact : s.listExact) (hgrant : s.arb.grant = none) (hnone : (noGrant s).noneWaits) :
    (noGrant s).decided := by
  have hexact' := normalise_listExact hexact
  have hgrant' : (normalise s).arb.grant = none := by rw [normalise_grant, hgrant]
  rcases noGrant_cases s with ⟨z, r, hw, h⟩ | ⟨-, h⟩
  · rw [h]
    exact createGrant_decided_of_selection hexact' hgrant' hw
  · refine decided_of_idle (noGrant_listExact hexact hgrant) ?_ hnone
    rw [h, (rehomeTest_idleOnly _).grant, (runoutEnd_idleOnly _).grant, hgrant]

/-- A preemption is decided where the claim is sound: the claim preempts first, and the forced zone is its own (R68). -/
theorem preempted_decided {s : State} {g : Grant} {z : Zone} {r : GrantReason} (hexact : s.listExact)
    (hgrant : s.arb.grant = some g) (hsound : g.zone = .freeze → s.arb.claim = true → s.arb.forced = none)
    (h : s.preemptor g = some (z, r)) :
    (createGrant z r (normalise (endGrant .preempted s))).decided := by
  have harc : ArcOnly s (normalise (endGrant .preempted s)) := (endGrant_arc _ s).trans (normalise_arc _)
  have hcomp : (normalise (endGrant .preempted s)).compAvailable = s.compAvailable :=
    compAvailable_of_comp (by rw [normalise_comp, endGrant_comp])
  have hselectable := harc.selectable hcomp
  have hexact' : (normalise (endGrant .preempted s)).listExact := normalise_listExact (endGrant_listExact _ hexact)
  have hgrant' : (normalise (endGrant .preempted s)).arb.grant = none := by rw [normalise_grant, endGrant_grant]
  have hwaits : ∀ y, s.selectable y = true → y ≠ g.zone → s.waitingSelectable y = true := by
    intro y hy hne
    rw [State.waitingSelectable_of_exact hexact, hy, State.holds, hgrant]
    simp [Ne.symm hne]
  obtain ⟨hz, hother, hreason⟩ := State.preemptor_spec h
  refine createGrant_decided hexact' hgrant' ?_ (fun hc hs => ?_) fun f hf hs => ?_
  · rw [hselectable]
    exact ((s.waitingSelectable_iff z).1 hz).2
  · rw [normalise_claim, endGrant_claim] at hc
    rw [hselectable] at hs
    rcases hreason with ⟨hr, -, -⟩ | ⟨-, ⟨f, hf, -⟩, hfreeze⟩
    · exact .inl hr
    · by_cases hg : g.zone = .freeze
      · have hnone := hsound hg hc
        rw [hf] at hnone
        cases hnone
      · exact absurd (hfreeze hc (hwaits _ hs (Ne.symm hg))) hg
  · rw [normalise_forced, endGrant_forced] at hf
    rcases hreason with ⟨hr, -, -⟩ | ⟨-, ⟨f', hf', hz'⟩, -⟩
    · exact .inr hr
    · rw [hf] at hf'
      obtain rfl := Option.some.inj hf'
      exact .inl hz'

/-- The mark alone: the end cause and the preemptor of the holder are as they were. -/
theorem markContinuation_decided {s : State} {g : Grant} (hexact : s.listExact) (hgrant : s.arb.grant = some g)
    (hend : s.endCause g = none) (hpre : (markContinuation s).preemptor g = none ∨ g.preemptable = false) :
    (markContinuation s).decided := by
  have hlist : (markContinuation s).listExact := mapGrant_listExact (fun _ => rfl) hexact
  rw [markContinuation_eq hgrant] at *
  refine ⟨relist_of_exact hlist, fun _ => ⟨fun g' hg' => ?_, fun hnone => ?_⟩⟩
  · obtain rfl := Option.some.inj hg'
    exact ⟨hend, hpre, rfl⟩
  · cases hnone

theorem arbitrate_decided {s : State} (hsound : s.claimSound) : (arbitrate s).decided := by
  have hexact := relist_exact s
  have hnone := arbitrate_noneWaits s
  by_cases hmode : s.mode.opState = .run
  · cases hgrant : s.arb.grant with
    | none =>
      rw [arbitrate_run_none hmode hgrant] at *
      exact noGrant_decided hexact hgrant hnone
    | some g =>
      rw [arbitrate_run_some hmode hgrant]
      rcases heldGrant_cases g (relist s) with ⟨r, -, h⟩ | ⟨hend, ⟨z, r, hp, hable, h⟩ | ⟨hp, h⟩⟩ <;> rw [h]
      · exact afterEnd_decided (endGrant_listExact r hexact) (endGrant_grant r _)
      · have hmark := markContinuation_eq (s := relist s) hgrant
        refine preempted_decided (g := { g with continuation := (relist s).continues g })
          (mapGrant_listExact (fun _ => rfl) hexact) ?_ ?_ hp
        · rw [hmark]
        · rw [hmark]
          exact hsound g hgrant hend hable
      · exact markContinuation_decided hexact hgrant hend hp
  · rw [arbitrate_not_run hmode]
    exact ⟨relist_of_exact hexact, fun hrun => absurd hrun hmode⟩

/-! ## The rest of a pass -/

/-- A pass after its arbitration: the kick, the compressor's start or stop, the route in place. -/
def passBody (s : State) : State := inPlaceTest (compReact (kickValve s))

theorem settle_eq (s : State) : settle s = coolingStart (passBody (arbitrate s)) := rfl

theorem passBody_arc (s : State) : ArcOnly s (passBody s) :=
  ((kickValve_arc s).trans (compReact_arc _)).trans (inPlaceTest_arc _)

@[simp] theorem passBody_arb (s : State) : (passBody s).arb = s.arb := by simp [passBody]

@[simp] theorem passBody_valve (s : State) : (passBody s).route.valve = s.route.valve.kick := by
  simp [passBody, kickValve]

@[simp] theorem passBody_dampers (s : State) : (passBody s).route.dampers = s.route.dampers := by
  simp [passBody, kickValve, State.mapValve]

theorem passBody_comp (s : State) : (passBody s).comp = (compReact (kickValve s)).comp := by simp [passBody]

/-- The start of COOLING changes the holder's record, its pre-chill record, and the command by a recomputation. -/
theorem coolingStart_grant_cases (s : State) :
    coolingStart s = s ∨
      ∃ g, s.arb.grant = some g ∧ g.phase = .routing ∧ s.commandedOn = true ∧
        (coolingStart s).arb =
          { s.arb with
            grant :=
              some
                { g with
                  phase := .cooling
                  minLeft := mins (s.settings.timing.get g.zone).minDwell
                  maxLeft := mins (s.settings.timing.get g.zone).maxDwell
                  startTemp := (s.sensing.air.get g.zone).filtered } } ∧
        (coolingStart s).route.valve = s.route.valve ∧ (coolingStart s).route.dampers = s.route.dampers ∧
        (coolingStart s).route.app = s.route.app ∧ s.comp.steady (coolingStart s).comp := by
  rcases coolingStart_cases s with h | ⟨g, a, hg, ha, hphase, hplace, hon, h⟩
  · exact .inl h
  · refine .inr ⟨g, hg, hphase, hon, ?_⟩
    rw [h]
    simp only [startPreChill_arb, startPreChill_valve, startPreChill_dampers, startPreChill_app, startPreChill_comp,
      arb_recompute, route_recompute]
    exact ⟨trivial, trivial, trivial, trivial, recompute_steady { s with arb := _ }⟩

theorem coolingStart_valve (s : State) : (coolingStart s).route.valve = s.route.valve := by
  rcases coolingStart_grant_cases s with h | ⟨g, -, -, -, -, hv, -⟩
  · rw [h]
  · exact hv

theorem coolingStart_dampers (s : State) : (coolingStart s).route.dampers = s.route.dampers := by
  rcases coolingStart_grant_cases s with h | ⟨g, -, -, -, -, -, hd, -⟩
  · rw [h]
  · exact hd

theorem coolingStart_app (s : State) : (coolingStart s).route.app = s.route.app := by
  rcases coolingStart_grant_cases s with h | ⟨g, -, -, -, -, -, -, ha, -⟩
  · rw [h]
  · exact ha

theorem coolingStart_steady (s : State) : s.comp.steady (coolingStart s).comp := by
  rcases coolingStart_grant_cases s with h | ⟨g, -, -, -, -, -, -, -, hc⟩
  · rw [h]
    exact s.comp.steady_refl
  · exact hc

/-- The run request looks at the operating state, whether a grant exists, RUNOUT and the service speed (R117). -/
theorem runRequest_congr {s t : State} (hmode : t.mode.opState = s.mode.opState)
    (hgrant : t.arb.grant.isSome = s.arb.grant.isSome) (hidle : t.arb.idle = s.arb.idle)
    (hspeed : t.comp.serviceSpeed = s.comp.serviceSpeed) : t.runRequest = s.runRequest := by
  unfold State.runRequest
  rw [hmode, hgrant, hidle, hspeed]

theorem coolingStart_runRequest (s : State) : (coolingStart s).runRequest = s.runRequest := by
  rcases coolingStart_grant_cases s with h | ⟨g, hg, -, -, harb, -, -, -, hc⟩
  · rw [h]
  · refine runRequest_congr ?_ ?_ ?_ hc.serviceSpeed
    · rw [(coolingStart_arc s).mode]
    · rw [harb, hg]
      rfl
    · rw [harb]

/-- A start or a stop that was due has been made, and none is due after it (R118, R120). -/
theorem compReact_stands (s : State) :
    ¬((compReact s).comp.state = .stopped ∧ (compReact s).runRequest = true ∧ (compReact s).minOffElapsed = true) ∧
      ¬((compReact s).comp.state = .running ∧ (compReact s).runRequest = false ∧ (compReact s).minOnMet = true) := by
  have hstart : (startComp s).runRequest = s.runRequest := runRequest_congr rfl rfl rfl rfl
  have hstop : (stopComp s).runRequest = s.runRequest := runRequest_congr rfl rfl rfl rfl
  unfold compReact
  split
  · rename_i h
    simp only [Bool.and_eq_true] at h
    refine ⟨fun hc => ?_, fun hc => ?_⟩
    · cases hc.1
    · rw [hstart, h.1.2] at hc
      cases hc.2.1
  · rename_i hnostart
    split
    · rename_i h
      simp only [Bool.and_eq_true, Bool.not_eq_true'] at h
      refine ⟨fun hc => ?_, fun hc => ?_⟩
      · rw [hstop, h.1.2] at hc
        cases hc.2.1
      · cases hc.1
    · rename_i hnostop
      simp only [Bool.and_eq_true, Bool.not_eq_true', decide_eq_true_eq, and_assoc] at hnostart hnostop
      exact ⟨hnostart, hnostop⟩

/-- Where neither a start nor a stop is due, none is made. -/
theorem compReact_of_stands {s : State}
    (hstart : ¬(s.comp.state = .stopped ∧ s.runRequest = true ∧ s.minOffElapsed = true))
    (hstop : ¬(s.comp.state = .running ∧ s.runRequest = false ∧ s.minOnMet = true)) : compReact s = s := by
  unfold compReact
  rw [if_neg (by simpa [and_assoc] using hstart), if_neg (by simpa [and_assoc] using hstop)]

/-- After a pass neither a start nor a stop is due (R118, R120). -/
theorem settle_stands (s : State) :
    ¬((settle s).comp.state = .stopped ∧ (settle s).runRequest = true ∧ (settle s).minOffElapsed = true) ∧
      ¬((settle s).comp.state = .running ∧ (settle s).runRequest = false ∧ (settle s).minOnMet = true) := by
  have hbody := compReact_stands (kickValve (arbitrate s))
  have hsteady := coolingStart_steady (passBody (arbitrate s))
  rw [passBody_comp] at hsteady
  have hrequest : (settle s).runRequest = (compReact (kickValve (arbitrate s))).runRequest := by
    rw [settle_eq, coolingStart_runRequest]
    refine runRequest_congr ?_ ?_ ?_ ?_
    · unfold passBody
      rw [(inPlaceTest_arc _).mode]
    · simp
    · simp
    · rw [passBody_comp]
  have hsettings : (settle s).settings = (compReact (kickValve (arbitrate s))).settings := by
    rw [settle_eq, (coolingStart_arc _).settings]
    unfold passBody
    rw [(inPlaceTest_arc _).settings]
  unfold State.minOffElapsed State.minOnMet at *
  rw [hrequest, hsettings]
  rw [settle_eq, hsteady.state, hsteady.stopFor, hsteady.runFor]
  exact hbody

theorem settle_compReact (s : State) : compReact (settle s) = settle s :=
  compReact_of_stands (settle_stands s).1 (settle_stands s).2

theorem settle_valve (s : State) : (settle s).route.valve = (arbitrate s).route.valve.kick := by
  rw [settle_eq, coolingStart_valve, passBody_valve]

theorem settle_kickValve (s : State) : kickValve (settle s) = settle s := by
  unfold kickValve State.mapValve
  rw [settle_valve, Valve.kick_kick, ← settle_valve]

/-- With every application in place or its test failing, the test changes nothing. -/
theorem inPlaceTest_of_marked {s : State}
    (h : ∀ a, s.route.app = some a →
      a.inPlace = true ∨ (s.route.valve.isAt (outletOf a.zone) && s.dampersConfirmed a.zone) = false) :
    inPlaceTest s = s := by
  unfold inPlaceTest
  split
  · rename_i a ha
    split
    · rename_i hcond
      rw [Bool.and_assoc] at hcond
      rcases h a ha with h | h <;> simp [h] at hcond
    · rfl
  · rfl

theorem settle_inPlaceTest (s : State) : inPlaceTest (settle s) = settle s := by
  refine inPlaceTest_of_marked fun a ha => ?_
  generalize hy : compReact (kickValve (arbitrate s)) = y
  have hsettle : settle s = coolingStart (inPlaceTest y) := by rw [← hy]; rfl
  have hconfirmed : (settle s).dampersConfirmed = y.dampersConfirmed := by
    funext z
    refine ArcOnly.dampersConfirmed ?_ ?_ z
    · rw [hsettle]
      exact (inPlaceTest_arc y).trans (coolingStart_arc _)
    · rw [hsettle, coolingStart_dampers, inPlaceTest_dampers]
  have hvalve : (settle s).route.valve = y.route.valve := by
    rw [hsettle, coolingStart_valve, inPlaceTest_valve]
  rw [hconfirmed, hvalve]
  rw [hsettle, coolingStart_app, inPlaceTest_route] at ha
  obtain ⟨b, -, rfl⟩ := Option.map_eq_some_iff.1 ha
  cases hp : b.inPlace
  · cases ht : y.route.valve.isAt (outletOf b.zone) && y.dampersConfirmed b.zone
    · exact .inr rfl
    · exact .inl rfl
  · exact .inl rfl

theorem coolingStart_coolingStart (s : State) : coolingStart (coolingStart s) = coolingStart s := by
  rcases coolingStart_grant_cases s with h | ⟨g, -, -, -, harb, -⟩
  · rw [h, h]
  · rcases coolingStart_grant_cases (coolingStart s) with h | ⟨g', hg', hphase, -⟩
    · exact h
    · rw [harb] at hg'
      obtain rfl := Option.some.inj hg'
      cases hphase

/-- What is not the arbitration's finds nothing to do after a pass. -/
theorem settle_of_arbitrate {s : State} (h : arbitrate (settle s) = settle s) : settle (settle s) = settle s := by
  have hbody : passBody (settle s) = settle s := by
    rw [passBody, settle_kickValve, settle_compReact, settle_inPlaceTest]
  rw [settle_eq (settle s), h, hbody, settle_eq, coolingStart_coolingStart]

/-- The start of COOLING leaves nothing to decide: a holder in ROUTING without an end cause is CALLING. -/
theorem settle_decided_of {s : State} (hdecided : (arbitrate s).decided) : (settle s).decided := by
  have harc : ArcOnly (arbitrate s) (settle s) := (passBody_arc (arbitrate s)).trans (coolingStart_arc _)
  have hcomp : (settle s).compAvailable = (arbitrate s).compAvailable := by
    rw [settle_available, compAvailable_of_steady (arbitrate_steady s)]
  have hwaits : ∀ z, (settle s).waitingSelectable z = (arbitrate s).waitingSelectable z :=
    harc.waitingSelectable (settle_waiting s) hcomp
  obtain ⟨-, hrun⟩ := hdecided
  refine ⟨settle_relist s, fun hmode => ?_⟩
  obtain ⟨hheld, hnone⟩ := hrun (by rw [← harc.mode]; exact hmode)
  have hpreemptor : ∀ {g h : Grant}, h.zone = g.zone → h.reason = g.reason →
      (settle s).preemptor h = (arbitrate s).preemptor g :=
    fun hz hr => preemptor_congr (settle_claim s) (settle_forced s) hwaits hz hr
  rcases settle_grant s with h | ⟨g, hgrant, hphase, h⟩
  · rw [h]
    refine ⟨fun g hg => ?_, fun hg z => (hwaits z).trans (hnone hg z)⟩
    obtain ⟨hend, hpre, hmark⟩ := hheld g hg
    refine ⟨(harc.endCause hcomp g).trans hend, ?_, ?_⟩
    · rwa [hpreemptor rfl rfl]
    · rw [hmark, State.continues, State.continues, harc.zones]
  · obtain ⟨hend, hpre, hmark⟩ := hheld g hgrant
    rw [h]
    refine ⟨fun g' hg' => ?_, fun hnone => (by cases hnone)⟩
    obtain rfl := Option.some.inj hg'
    obtain ⟨havailable, henabled, hnothold, hroute, hdemand⟩ := (State.endCause_none_iff _ _).1 hend
    have hcalling : ((arbitrate s).zones.get g.zone).demand ≠ .satisfied := fun hd => hdemand ⟨hd, .inl hphase⟩
    refine ⟨?_, .inl ?_, ?_⟩
    · rw [harc.endCause hcomp, State.endCause_none_iff]
      exact ⟨havailable, henabled, hnothold, hroute, fun hd => hcalling hd.1⟩
    · refine (hpreemptor (g := g) rfl rfl).trans ?_
      rcases hpre with hpre | hpre
      · exact hpre
      · simp [Grant.preemptable, hphase] at hpre
    · rw [State.continues, harc.zones]
      simp only [hmark, State.continues, hphase, hcalling]
      rfl

theorem settle_decided {s : State} (hsound : s.claimSound) : (settle s).decided :=
  settle_decided_of (arbitrate_decided hsound)

/-- With a grant after it, or outside RUN, one pass is as good as two. -/
theorem settle_settle {s : State} (hsound : s.claimSound)
    (hheld : (settle s).arb.grant.isSome = true ∨ s.mode.opState ≠ .run) : settle (settle s) = settle s :=
  settle_of_arbitrate (arbitrate_of_decided (settle_decided hsound) (by rwa [(settle_arc s).mode]))

/-! ## The idle sub-states -/

/-- The test of R82 finds nothing to begin. -/
def State.rehomeDone (s : State) : Prop :=
  ¬(s.arb.idle = some .parked ∧ 100 ≤ s.route.valve.outletMoves ∧ s.route.valve.rehoming = false)

theorem rehomeTest_of_done {s : State} (h : s.rehomeDone) : rehomeTest s = s := by
  unfold rehomeTest
  rw [if_neg]
  simpa [State.rehomeDone, and_assoc] using h

theorem rehomeTest_done (s : State) : (rehomeTest s).rehomeDone := by
  by_cases h : s.rehomeDone
  · rwa [rehomeTest_of_done h]
  · rintro ⟨hidle, -⟩
    unfold rehomeTest at hidle
    rw [if_pos (by simpa [State.rehomeDone, and_assoc] using h)] at hidle
    cases hidle

theorem State.rehomeDone_congr {s t : State} (hidle : t.arb.idle = s.arb.idle)
    (hmoves : t.route.valve.outletMoves = s.route.valve.outletMoves)
    (hrehoming : t.route.valve.rehoming = s.route.valve.rehoming) (h : s.rehomeDone) : t.rehomeDone := by
  unfold State.rehomeDone at *
  rwa [hidle, hmoves, hrehoming]

theorem State.rehomeDone_of_idle {s : State} (h : s.arb.idle ≠ some .parked) : s.rehomeDone := fun hp => h hp.1

theorem enterParkDelay_done (s : State) : (enterParkDelay s).rehomeDone := by
  unfold enterParkDelay
  dsimp only
  split
  · unfold enterParked
    exact rehomeTest_done _
  · exact State.rehomeDone_of_idle (by simp)

theorem enterIdle_done (s : State) : (enterIdle s).rehomeDone := by
  rcases enterIdle_cases s with ⟨-, -, h⟩ | ⟨-, h⟩ <;> rw [h]
  · exact State.rehomeDone_of_idle (by rw [arb_recompute]; simp)
  · exact State.rehomeDone_congr (by rw [arb_recompute]) (by rw [route_recompute]) (by rw [route_recompute])
      (enterParkDelay_done s)

/-- An arbitration in RUN that leaves no grant has made the test of R82. -/
theorem arbitrate_done {s : State} (hmode : s.mode.opState = .run) (hgrant : (arbitrate s).arb.grant = none) :
    (arbitrate s).rehomeDone := by
  have hcreated : ∀ z r x, (createGrant z r x).arb.grant ≠ none := fun z r x h => by
    rw [(createGrant_grant z r x).1] at h
    cases h
  cases hg : s.arb.grant with
  | none =>
    rw [arbitrate_run_none hmode hg] at hgrant ⊢
    rcases noGrant_cases (relist s) with ⟨z, r, -, h⟩ | ⟨-, h⟩ <;> rw [h] at hgrant ⊢
    · exact absurd hgrant (hcreated _ _ _)
    · exact rehomeTest_done _
  | some g =>
    rw [arbitrate_run_some hmode hg] at hgrant ⊢
    rcases heldGrant_cases g (relist s) with ⟨r, -, h⟩ | ⟨-, ⟨z, r, -, -, h⟩ | ⟨-, h⟩⟩ <;> rw [h] at hgrant ⊢
    · rcases afterEnd_cases (endGrant r (relist s)) with ⟨z, q, -, h'⟩ | ⟨-, h'⟩ <;> rw [h'] at hgrant ⊢
      · exact absurd hgrant (hcreated _ _ _)
      · exact enterIdle_done _
    · exact absurd hgrant (hcreated _ _ _)
    · rw [markContinuation_eq (s := relist s) hg] at hgrant
      cases hgrant

theorem settle_idle (s : State) : (settle s).arb.idle = (arbitrate s).arb.idle := by
  rw [settle_eq]
  rcases coolingStart_grant_cases (passBody (arbitrate s)) with h | ⟨g, -, -, -, harb, -⟩
  · rw [h, passBody_arb]
  · rw [harb, passBody_arb]

theorem settle_grant_none {s : State} (h : (settle s).arb.grant = none) : (arbitrate s).arb.grant = none := by
  rcases settle_grant s with hs | ⟨g, -, -, hs⟩
  · rw [← hs, h]
  · rw [hs] at h
    cases h

theorem settle_rehomeDone {s : State} (hmode : s.mode.opState = .run) (hgrant : (settle s).arb.grant = none) :
    (settle s).rehomeDone :=
  State.rehomeDone_congr (settle_idle s) (by rw [settle_valve, Valve.kick_outletMoves])
    (by rw [settle_valve, Valve.kick_rehoming]) (arbitrate_done hmode (settle_grant_none hgrant))

/-- RUNOUT goes on: the compressor available and commanded, min-on not met (R80). -/
def State.runoutLasts (s : State) : Prop := s.commandedOn = true ∧ s.minOnMet = false ∧ s.compAvailable = true

theorem runoutEnd_of_lasts {s : State} (h : s.arb.idle = some .runout → s.runoutLasts) : runoutEnd s = s := by
  unfold runoutEnd
  rw [if_neg]
  by_cases hidle : s.arb.idle = some .runout
  · obtain ⟨hon, hmin, hav⟩ := h hidle
    simp [hon, hmin, hav]
  · simp [hidle]

/-- Without a grant one pass is as good as two, unless it leaves a RUNOUT that has ended already. -/
theorem settle_settle_idle {s : State} (hsound : s.claimSound) (hmode : s.mode.opState = .run)
    (hgrant : (settle s).arb.grant = none) (hrunout : (settle s).arb.idle = some .runout → (settle s).runoutLasts) :
    settle (settle s) = settle s := by
  refine settle_of_arbitrate ?_
  rw [arbitrate_of_decided_idle (settle_decided hsound) (by rwa [(settle_arc s).mode]) hgrant,
    runoutEnd_of_lasts hrunout, rehomeTest_of_done (settle_rehomeDone hmode hgrant)]

/-! ## One pass and the outputs -/

theorem initEnd_sound {s : State} (h : s.claimSound) : (initEnd s).claimSound := by
  rw [initEnd_eq]
  exact h

/-- With no defrost PENDING and a grant after it, or outside RUN, an event is followed by one pass and the outputs. -/
theorem finish_of_held {s : State} (hphase : s.defrost.phase ≠ .pending) (hsound : s.claimSound)
    (hheld : (settle (initEnd s)).arb.grant.isSome = true ∨ (initEnd s).mode.opState ≠ .run) :
    finish s = publish (settle (initEnd s)) := by
  rw [finish_of_not_pending hphase, settle_settle (initEnd_sound hsound) hheld]

/-- The same without a grant in RUN, where the pass does not leave a RUNOUT that has ended. -/
theorem finish_of_idle {s : State} (hphase : s.defrost.phase ≠ .pending) (hsound : s.claimSound)
    (hmode : (initEnd s).mode.opState = .run) (hgrant : (settle (initEnd s)).arb.grant = none)
    (hrunout : (settle (initEnd s)).arb.idle = some .runout → (settle (initEnd s)).runoutLasts) :
    finish s = publish (settle (initEnd s)) := by
  rw [finish_of_not_pending hphase, settle_settle_idle (initEnd_sound hsound) hmode hgrant hrunout]

end Sys2Proof.Machine
end

section
/-!
PROOFS. The fans' pulses, stalls and rests, and the minute evaluation (statements O48, O54).
-/
namespace Sys2Proof.Machine

/-- What follows an event keeps the setup of the state before it. -/
theorem State.sameSetup.finish {s u : State} (h : State.sameSetup s u) : State.sameSetup s (finish u) := by
  obtain ⟨hstrap, hsettings, hsensing, hservice, hpending⟩ := h
  exact ⟨(finish_strap u).trans hstrap, (finish_settings u).trans hsettings, (finish_sensing u).trans hsensing,
    (finish_service u).trans hservice, (finish_pending u).trans hpending⟩

theorem State.sameSetup_refl (s : State) : State.sameSetup s s := ⟨rfl, rfl, rfl, rfl, rfl⟩

/-! ## Fans -/

/-- After an event a fan is driven at its commanded drive, from the record that the event left. -/
theorem finish_fan (s : State) (f : Fan) :
    ((finish s).route.fans.get f) = (s.route.fans.get f).drive ((finish s).route.fans.get f).commanded := by
  unfold finish
  rw [publish_fans, State.drivenFans_get, (react_changes s).fans]
  rfl

theorem finish_mapFan_self (f : Fan) (g : FanRec → FanRec) (s : State) :
    (finish (s.mapFan f g)).route.fans.get f =
      (g (s.route.fans.get f)).drive ((finish (s.mapFan f g)).route.fans.get f).commanded := by
  conv_lhs => rw [finish_fan]
  unfold State.mapFan
  rw [PerFan.get_set_self]

theorem finish_mapFan_other {f f' : Fan} (hne : f' ≠ f) (g : FanRec → FanRec) (s : State) :
    (finish (s.mapFan f g)).route.fans.get f' =
      (s.route.fans.get f').drive ((finish (s.mapFan f g)).route.fans.get f').commanded := by
  conv_lhs => rw [finish_fan]
  unfold State.mapFan
  rw [PerFan.get_set_other _ hne]

/-- A fan whose watch starts from 0 holds it at 0 with its drive. -/
theorem FanRec.drive_watch_zero {r : FanRec} (h : r.watch = 0) (n : Nat) : (r.drive n).watch = 0 := by
  unfold FanRec.drive
  rw [h]
  exact ite_self 0

theorem FanRec.pulse_of_rest {r : FanRec} (h : r.rest ≠ none) : r.pulse = r :=
  if_pos (Option.isSome_iff_ne_none.2 h)

theorem FanRec.pulse_of_turning {r : FanRec} (h : r.rest = none) :
    r.pulse = { r with watch := 0, stalled := r.stalled && decide (r.output = 0) } :=
  if_neg (by simp [h])

theorem State.mapFan_of_eq {f : Fan} {g : FanRec → FanRec} {s : State} (h : g (s.route.fans.get f) = s.route.fans.get f) :
    s.mapFan f g = s := by
  have hself : s.route.fans.set f (s.route.fans.get f) = s.route.fans := by cases f <;> rfl
  unfold State.mapFan
  rw [h, hself]

/-- Settles O48: a pulse, a stall and the end of a rest at the one fan, with what the outputs make of it. -/
theorem fanCommands : Obligations.FanCommands := by
  intro f s
  have hother : ∀ (g : FanRec → FanRec) (f' : Fan), f' ≠ f →
      ((finish (s.mapFan f g)).route.fans.get f').stalled = (s.route.fans.get f').stalled ∧
        ((finish (s.mapFan f g)).route.fans.get f').rest = (s.route.fans.get f').rest := by
    intro g f' hne
    rw [finish_mapFan_other hne]
    exact ⟨rfl, rfl⟩
  refine ⟨fun hrest => ⟨?_, ?_⟩, fun hrest => ⟨?_, ?_⟩, fun hrest hout hwatch => ?_, fun x hx hdue => ?_⟩
  · refine congrArg Host.Outcome.next ?_
    rw [State.mapFan_of_eq (FanRec.pulse_of_rest hrest)]
  · rw [finish_fan]
    rfl
  · refine congrArg Host.Outcome.next ?_
    unfold State.mapFan
    rw [FanRec.pulse_of_turning hrest]
  · intro t ht
    obtain rfl := Host.Outcome.next.inj ht
    rw [finish_mapFan_self, FanRec.pulse_of_turning hrest]
    exact ⟨rfl, FanRec.drive_watch_zero rfl _⟩
  · refine ⟨finish (s.mapFan f FanRec.stall), ?_, ?_, ?_, ?_, ?_, hother _, (State.sameSetup_refl s).finish,
      finish_doors _, finish_bus _⟩
    · exact congrArg Host.Outcome.next (if_pos ((FanRec.stallDue_iff _).2 ⟨hrest, hout, hwatch⟩))
    all_goals rw [finish_mapFan_self]
    all_goals rfl
  · refine ⟨finish (s.mapFan f FanRec.endRest), ?_, ?_, ?_, ?_, ?_, hother _, (State.sameSetup_refl s).finish,
      finish_doors _, finish_bus _⟩
    · exact congrArg Host.Outcome.next (if_pos ((FanRec.restDue_iff _).2 ⟨x, hx, hdue⟩))
    · rw [finish_mapFan_self]
      rfl
    · rw [finish_mapFan_self]
      rfl
    · rw [finish_mapFan_self]
      rfl
    · rw [finish_mapFan_self]
      exact FanRec.drive_watch_zero rfl _

/-! ## The minute evaluation -/

/-- The trigger of R139 by the two counts. -/
theorem Defrost.trigger_iff (d : Defrost) (eMax : Nat) (cause : DefrostCause) :
    d.trigger eMax = some cause ↔
      d.th ≤ d.credit ∧ cause = .credit ∨ d.credit < d.th ∧ eMax ≤ d.elapsed ∧ cause = .elapsed := by
  unfold Defrost.trigger
  by_cases hc : d.th ≤ d.credit
  · simp [hc, not_lt.2 hc, eq_comm]
  · by_cases he : eMax ≤ d.elapsed <;> simp [hc, he, not_le.1 hc, eq_comm]

theorem Defrost.trigger_none_iff (d : Defrost) (eMax : Nat) :
    d.trigger eMax = none ↔ d.credit < d.th ∧ d.elapsed < eMax := by
  unfold Defrost.trigger
  by_cases hc : d.th ≤ d.credit
  · simp [hc, not_lt.2 hc]
  · by_cases he : eMax ≤ d.elapsed <;> simp [hc, he, not_le.1 hc]
    omega

/-- C and E of a minute that ends (R138). -/
theorem creditMinute_eq (w : Nat) (m : Minute) (running : Bool) (d : Defrost) :
    creditMinute w m running d =
      { d with
        credit :=
          min 65535
            (d.credit + (if 30 ≤ m.fzRun + (if m.unbroken = true ∧ running = true then 1 else 0) then 1 else 0) +
              (if m.door = true then w else 0))
        elapsed := min 65535 (d.elapsed + 1) } := by
  have hend : m.fzRunEnd running = m.fzRun + (if m.unbroken = true ∧ running = true then 1 else 0) := by
    unfold Minute.fzRunEnd
    cases m.unbroken <;> cases running <;> rfl
  have hbool : ∀ p : Prop, [Decidable p] → (decide p).toNat = if p then 1 else 0 := by
    intro p _
    by_cases hp : p <;> simp [hp]
  unfold creditMinute
  rw [hend, hbool]

theorem minuteEvaluation_some {s : State} {m : Minute} (hm : s.defrost.minute = some m) :
    minuteEvaluation s =
      match (if s.mode.opState = .run then
          (creditMinute s.settings.defrost.w m s.fzRunning s.defrost).trigger s.settings.defrost.eMax else none) with
      | some cause => startDefrost cause (s.mapDefrost (creditMinute s.settings.defrost.w m s.fzRunning))
      | none =>
        (s.mapDefrost (creditMinute s.settings.defrost.w m s.fzRunning)).mapDefrost fun d =>
          { d with minute := some s.newMinute } := by
  unfold minuteEvaluation
  rw [hm]
  rfl

/-- FREEZER's drawers as the minute sees them at its beginning (R138(b)). -/
theorem State.drawerOpen_eq (s : State) :
    s.drawerOpen =
      (decide ((s.doors.door.get .freeze).state = .isOpen) ||
        (s.present .flex && decide ((s.doors.door.get .flex).state = .isOpen))) := by
  unfold State.drawerOpen
  cases s.present .flex <;> simp [State.anyOpen]

/-- Settles O54: C and E of the minute, and the trigger they make. -/
theorem minuteEvaluationHolds : Obligations.MinuteEvaluation := by
  rintro s m hm hphase hdue c e seconds p rfl rfl rfl rfl
  have hexec : exec .minuteEvaluation s = .next (finish (minuteEvaluation s)) :=
    congrArg Host.Outcome.next (if_pos ((Defrost.minuteDue_iff _).2 ⟨hphase, m, hm, hdue⟩))
  refine ⟨fun cause hrun htrigger => ?_, fun hnone => ?_⟩
  · have h := (Defrost.trigger_iff (creditMinute s.settings.defrost.w m s.fzRunning s.defrost)
      s.settings.defrost.eMax cause).2 (by rw [creditMinute_eq]; exact htrigger)
    rw [hexec, minuteEvaluation_some hm, if_pos hrun, h]
    unfold startDefrost State.mapDefrost
    dsimp only
    rw [creditMinute_eq]
  · have h : (if s.mode.opState = .run then
        (creditMinute s.settings.defrost.w m s.fzRunning s.defrost).trigger s.settings.defrost.eMax else none) = none := by
      by_cases hrun : s.mode.opState = .run
      · rw [if_pos hrun, Defrost.trigger_none_iff, creditMinute_eq]
        exact hnone.resolve_left (not_not.2 hrun)
      · exact if_neg hrun
    rw [hexec, minuteEvaluation_some hm, h]
    unfold State.mapDefrost State.newMinute
    dsimp only
    rw [creditMinute_eq, State.drawerOpen_eq]

end Sys2Proof.Machine
end

section
/-!
PROOFS. What follows an event outside RUN: the list and the valve go on, and no grant, idle sub-state or operating state comes
of it. The end of the strap read and SERVICE_OUTPUT (statements O24, O28).
-/
namespace Sys2Proof.Machine

/-! ## The frame outside RUN -/

/-- What the arbiter, the route controller and mode control keep outside RUN: the operating state, the valve but for what it
begins, the damper record, and the arbiter's record but for list, grant and claim. -/
def State.keepsOutside (s t : State) : Prop :=
  t.mode = s.mode ∧ t.route.valve.kick = s.route.valve.kick ∧ t.route.dampers = s.route.dampers ∧
    t.arb = { s.arb with waiting := t.arb.waiting, grant := t.arb.grant, claim := t.arb.claim } ∧
    (s.arb.grant = none → t.arb.grant = none)

theorem State.keepsOutside_refl (s : State) : s.keepsOutside s := ⟨rfl, rfl, rfl, rfl, id⟩

theorem State.keepsOutside.trans {s t u : State} (h : s.keepsOutside t) (k : t.keepsOutside u) : s.keepsOutside u := by
  obtain ⟨hmode, hvalve, hdampers, harb, hgrant⟩ := h
  obtain ⟨kmode, kvalve, kdampers, karb, kgrant⟩ := k
  refine ⟨kmode.trans hmode, kvalve.trans hvalve, kdampers.trans hdampers, ?_, kgrant ∘ hgrant⟩
  rw [karb, harb]

theorem DefrostOnly.keepsOutside {s t : State} (h : DefrostOnly s t) : s.keepsOutside t := by
  refine ⟨h.mode, by rw [h.route], by rw [h.route], ?_, fun hg => by rw [h.grant, hg]⟩
  rw [h.arb]

theorem settle_keepsOutside {s : State} (hmode : s.mode.opState ≠ .run) : s.keepsOutside (settle s) := by
  refine ⟨(settle_arc s).mode, ?_, ?_, ?_, ?_⟩
  · rw [settle_valve, Valve.kick_kick, arbitrate_not_run hmode, relist_route]
  · rw [settle_eq, coolingStart_dampers, passBody_dampers, arbitrate_not_run hmode, relist_route]
  all_goals rw [settle_eq, arbitrate_not_run hmode]
  · rcases coolingStart_grant_cases (passBody (relist s)) with h | ⟨g, -, -, -, h, -⟩ <;> rw [h, passBody_arb] <;> rfl
  · intro hnone
    rcases coolingStart_grant_cases (passBody (relist s)) with h | ⟨g, hg, -⟩
    · rw [h, passBody_arb]
      exact hnone
    · rw [passBody_arb] at hg
      exact absurd (hg.symm.trans hnone) (by simp)

/-- Outside RUN, where INIT does not end, the reaction keeps what is kept there. -/
theorem react_keepsOutside {s : State} (hmode : s.mode.opState ≠ .run) (hinit : initEnd s = s) :
    s.keepsOutside (react s) := by
  rw [react_eq_reaction, reaction, hinit]
  have hfirst := settle_keepsOutside hmode
  have htest := hfirst.trans (pendingTest_only (settle s)).keepsOutside
  exact htest.trans (settle_keepsOutside (by rw [htest.1]; exact hmode))

section
variable {s : State} (hmode : s.mode.opState ≠ .run) (hinit : initEnd s = s)
include hmode hinit

theorem finish_mode_outside : (finish s).mode = s.mode :=
  (react_keepsOutside hmode hinit).1

theorem finish_dampers_outside : (finish s).route.dampers = s.route.dampers :=
  (react_keepsOutside hmode hinit).2.2.1

theorem finish_arb_outside :
    (finish s).arb =
      { s.arb with
        waiting := (finish s).arb.waiting, grant := (finish s).arb.grant, claim := (finish s).arb.claim } :=
  (react_keepsOutside hmode hinit).2.2.2.1

theorem finish_idle_outside : (finish s).arb.idle = s.arb.idle := by rw [finish_arb_outside hmode hinit]

theorem finish_grant_outside (hgrant : s.arb.grant = none) : (finish s).arb.grant = none :=
  (react_keepsOutside hmode hinit).2.2.2.2 hgrant

/-- The valve is where the event left it, but for the move or the drive it begins. -/
theorem finish_valve_outside : (finish s).route.valve = s.route.valve.kick := by
  have hkept := (react_keepsOutside hmode hinit).2.1
  have hkicked : (react s).route.valve.kick = (react s).route.valve := by
    rw [react_eq_reaction, reaction, settle_valve, Valve.kick_kick]
  rw [← hkept, hkicked]
  rfl

end

/-- INIT does not end while the valve is not homed and at CLOSED, its homing done, and the air channels settled (R198). -/
theorem initEnd_of_open {s : State} (h : s.homedClosed = false ∨ s.airSettled = false) : initEnd s = s := by
  unfold initEnd
  rcases h with h | h <;> simp [h]

theorem homedClosed_of_homing {s : State} (h : s.route.valve.homing ≠ .none) : s.homedClosed = false := by
  simp [State.homedClosed, h]

/-! ## The minute period through the reaction -/

/-- The defrost controller's test leaves a minute under way, or begins one. -/
theorem pendingTest_minute {s : State} (h : s.defrost.minute.isSome = true) :
    (pendingTest s).defrost.minute.isSome = true := by
  have hcomplete : ∀ u : State, u.defrost.minute.isSome = true → (fanReleaseTest u).defrost.minute.isSome = true := by
    intro u hu
    rcases fanReleaseTest_cases u with hc | ⟨-, hc⟩ <;> rw [hc]
    · exact hu
    · unfold completeDefrost
      split
      · rfl
      · exact hu
  have hheat : ∀ t (u : State), u.defrost.minute.isSome = true → (endHeat t u).defrost.minute.isSome = true := by
    intro t u hu
    unfold endHeat
    dsimp only
    split
    · split
      · unfold enterRecover
        refine hcomplete _ ?_
        dsimp only
        split <;> exact hu
      · exact hu
    · exact hu
  unfold pendingTest
  split
  · unfold enterHeat
    dsimp only
    split
    · split
      · exact hheat _ _ h
      · exact h
    · exact h
  · exact h

theorem publish_minute_isSome (s : State) : (publish s).defrost.minute.isSome = s.defrost.minute.isSome :=
  Option.isSome_map

theorem finish_minute_isSome {s : State} (h : s.defrost.minute.isSome = true) :
    (finish s).defrost.minute.isSome = true := by
  rw [finish_eq_settle, publish_minute_isSome, settle_defrost]
  refine pendingTest_minute ?_
  rw [settle_defrost, initEnd_eq]
  exact h

/-- The compressor's faults, hold, last status, loss mark and service speed stand through what follows an event. -/
theorem finish_sameRecord (s : State) : s.comp.sameRecord (finish s).comp := (react_changes s).sameRecord

/-! ## The end of the strap read -/

/-- The first channel of every sweep is FRESH's air channel (R21). -/
theorem State.sweepOrder_head (s : State) : s.sweepOrder.head? = some (.air .fresh) := by
  have hfresh : s.present .fresh = true := by
    unfold State.present
    cases s.strap.variant <;> rfl
  simp [State.sweepOrder, Zone.all, hfresh]

theorem enableOf_get (v : Variant) (q : PerZone ZoneSettings) (z : Zone) :
    ((enableOf v q).get z).enabled = v.has z := by cases z <;> rfl

theorem unitTable_get (v : Variant) (u : BusUnit) :
    (unitTable v).get u = ⟨if v.expects u then .unknown else .absent, 0, .none, none⟩ := by
  cases u <;> rfl

theorem Doors.beginSampling_get (d : Doors) (x : Door) :
    d.beginSampling.door.get x = { d.door.get x with sample := d.input.get x, stable := 0 } := by
  cases x <;> rfl

/-- The state after INIT's work has begun, in the parts that the opening of the bus leaves alone. -/
theorem beginInit_sensing (s : State) :
    (beginInit s).sensing.next = some (.air .fresh) ∧ (beginInit s).sensing.sweepTimer = some 0 :=
  ⟨State.sweepOrder_head s, rfl⟩

/-- The opening asked in STOPPED: slot 1 begins, and nothing outside the bus changes. -/
theorem askOpening_of_stopped {s : State} (h : s.bus.mode = .stopped) : askOpening s = enterActive s := if_pos h

/-- The state that the end of the strap read settles, before what follows it. -/
theorem strapSettled_of_stopped {r : StrapResult} {s : State} (hstopped : s.bus.mode = .stopped) :
    ∃ t : State, strapSettled r s = enterActive t ∧ t.strap = strapOf r ∧ t.mode = s.mode ∧ t.pending = s.pending ∧
      t.settings.zone = enableOf (variantOf r) s.settings.zone ∧ t.bus.unit = unitTable (variantOf r) ∧
      t.link.isOpen = true ∧ t.sensing.next = some (.air .fresh) ∧ t.sensing.sweepTimer = some 0 ∧
      t.route.valve = s.route.valve.beginDrive .homing .closed ∧ t.doors = s.doors.beginSampling ∧
      t.defrost.minute.isSome = true :=
  ⟨_, askOpening_of_stopped hstopped, rfl, rfl, rfl, rfl, rfl, rfl, State.sweepOrder_head { s with strap := strapOf r }, rfl, rfl, rfl, rfl⟩

/-- A drive that begins goes on: the valve waits for its end. -/
theorem Valve.kick_beginDrive (v : Valve) (h : Homing) (p : ValvePos) : (v.beginDrive h p).kick = v.beginDrive h p := rfl

/-- Settles O24: what the settled strap begins, and that what follows the event leaves INIT's work as begun. -/
theorem strapReadSettles : Obligations.StrapReadSettles := by
  intro c1 c2 c3 c4 s
  refine ⟨fun hnot => congrArg Host.Outcome.next (if_neg ?_), fun x hx hdue hinit hstopped => ?_⟩
  · rw [Strap.readDue_iff]
    rintro ⟨y, hy, hdue⟩
    rcases hnot with hnone | ⟨x, hx, hearly⟩
    · rw [hnone] at hy
      cases hy
    · rw [hx] at hy
      obtain rfl := Option.some.inj hy
      exact absurd hdue (not_le.2 hearly)
  · obtain ⟨t, ht, hstrap, hmode, hpending, hzone, hunit, hopen, hnext, hsweep, hvalve, hdoors, hminute⟩ :=
      strapSettled_of_stopped (r := strapResult c1 c2 c3 c4) hstopped
    have hrun : (enterActive t).mode.opState ≠ .run := by
      show t.mode.opState ≠ .run
      rw [hmode, hinit]
      exact nofun
    have hhoming : initEnd (enterActive t) = enterActive t := by
      refine initEnd_of_open (.inl (homedClosed_of_homing ?_))
      show t.route.valve.homing ≠ .none
      rw [hvalve]
      exact nofun
    have hfinal : (finish (enterActive t)).route.valve = s.route.valve.beginDrive .homing .closed := by
      rw [finish_valve_outside hrun hhoming, ← Valve.kick_beginDrive, ← hvalve]
      rfl
    have hlink := finish_link (enterActive t)
    refine ⟨finish (enterActive t), strapResult c1 c2 c3 c4, ?_, rfl, ?_, fun z => ?_, fun u => ?_, ?_, ?_, ?_, ?_, ?_, ?_, ?_,
      ?_, fun d => ?_, finish_minute_isSome hminute, ?_, ?_, ?_⟩
    · refine congrArg Host.Outcome.next ((if_pos ((Strap.readDue_iff _).2 ⟨x, hx, hdue⟩)).trans ?_)
      rw [ht]
    · rw [finish_strap]
      exact hstrap.trans (by simp [strapOf])
    · rw [finish_settings]
      show (t.settings.zone.get z).enabled = _
      rw [hzone, enableOf_get]
    · rw [finish_bus]
      show t.bus.unit.get u = _
      rw [hunit, unitTable_get]
    · exact (finish_mode_outside hrun hhoming).trans hmode
    · rw [hlink]
      exact hopen
    · rw [finish_sensing]
      exact hnext
    · rw [finish_sensing]
      exact hsweep
    · rw [hfinal]
      rfl
    · rw [hfinal]
      rfl
    · rw [hfinal]
      rfl
    · rw [finish_doors]
      exact (congrArg Doors.sampling hdoors).trans rfl
    · rw [finish_doors]
      show t.doors.door.get d = _
      rw [hdoors, Doors.beginSampling_get]
    · rw [finish_bus]
      rfl
    · rw [finish_bus]
      rfl
    · rw [finish_pending]
      exact hpending

/-! ## SERVICE_OUTPUT -/

theorem valvePosOf_eq (n : Nat) (h : n ≤ 2) :
    valvePosOf n = if n = 0 then .closed else if n = 1 then .fr else .fz := by
  interval_cases n <;> rfl

/-- The speed that SERVICE_OUTPUT stores: 0, or brought into Nmin..Nmax and down to a multiple of 50 (R202). -/
theorem serviceSpeedOf_eq (c : CompParams) (n : Nat) :
    serviceSpeedOf c n =
      if n = 0 then 0
      else
        let m := max c.nMin (min c.nMax n)
        m - m % 50 := rfl

/-- SERVICE_OUTPUT changes no value where each is in range (R202). -/
theorem serviceClamped_iff (c : CompParams) (p : List Byte) :
    serviceClamped c p = false ↔
      u8At p 1 ≤ 100 ∧ u8At p 2 ≤ 100 ∧ u8At p 3 ≤ 100 ∧ u8At p 4 ≤ 100 ∧ u8At p 5 ≤ 100 ∧
        serviceSpeedOf c (u16At p 7) = u16At p 7 := by
  simp [serviceClamped, and_assoc]

section
variable (v : Service) (speed : Nat) (s : State)

theorem applyService_mode : (applyService v speed s).mode = { s.mode with serviceTimer := some (900 * 9600) } := by
  unfold applyService
  rw [(recompute_arc _).mode]
  rfl

theorem applyService_service : (applyService v speed s).service = v := by
  unfold applyService
  rw [(recompute_arc _).service]
  rfl

theorem applyService_serviceSpeed : (applyService v speed s).comp.serviceSpeed = speed := by
  unfold applyService
  rw [(recompute_steady _).serviceSpeed]
  rfl

theorem applyService_route :
    (applyService v speed s).route =
      { s.route with
        valve := { s.route.valve with target := some v.valve }
        dampers := s.route.dampers.change v.damperFlex v.damperIce } := by
  unfold applyService
  rw [route_recompute]
  rfl

theorem applyService_setup :
    (applyService v speed s).settings = s.settings ∧ (applyService v speed s).sensing = s.sensing ∧
      (applyService v speed s).doors = s.doors ∧ (applyService v speed s).bus = s.bus ∧
      (applyService v speed s).pending = s.pending := by
  unfold applyService
  have h := recompute_arc (changeDampers v.damperFlex v.damperIce (setValveTarget v.valve
    { s with
      mode := { s.mode with serviceTimer := some (sec 900) }
      service := v
      comp := { s.comp with serviceSpeed := speed } }))
  exact ⟨h.settings, h.sensing, h.doors, h.bus, h.pending⟩

end

theorem Dampers.change_targets (d : Dampers) (flex ice : Nat) :
    (d.change flex ice).flex = flex ∧ (d.change flex ice).ice = ice := by
  unfold Dampers.change
  split
  · rename_i h
    simpa using h
  · exact ⟨rfl, rfl⟩

/-- With no rehome asked, what the valve begins leaves its target. -/
theorem Valve.kick_target {v : Valve} (h : v.rehomeAsk = .none) : v.kick.target = v.target := by
  unfold Valve.kick
  rw [h]
  split
  · rfl
  · split
    · contradiction
    · split
      · split
        · split <;> rfl
        · rfl
      · rfl

/-- Settles O28: the checks, the stored values, and that what follows in SERVICE keeps them. -/
theorem serviceOutput : Obligations.ServiceOutput := by
  intro p s htaking hlength
  refine ⟨fun hmode => ?_, fun hmode hbad => ?_, fun hmode hvalve hheater => ?_⟩
  · exact congrArg Host.Outcome.next
      (takeRequest_owner (owner := serviceOutputOwner p) htaking hlength (if_pos hmode) serviceOutputFields)
  · refine congrArg Host.Outcome.next ((takeRequest_owner (owner := serviceOutputOwner p) (r := .badValue) (t := s)
      htaking hlength ?_ serviceOutputFields).trans rfl)
    unfold serviceOutputOwner
    rw [if_neg (not_not.2 hmode), if_pos (by simpa using hbad)]
    rfl
  · generalize hu : applyService (serviceOf p) (serviceSpeedOf s.settings.comp (u16At p 7)) s = u
    obtain ⟨hsettings, hsensing, hdoors, hbus, hpending⟩ :=
      applyService_setup (serviceOf p) (serviceSpeedOf s.settings.comp (u16At p 7)) s
    have humode := applyService_mode (serviceOf p) (serviceSpeedOf s.settings.comp (u16At p 7)) s
    have huservice := applyService_service (serviceOf p) (serviceSpeedOf s.settings.comp (u16At p 7)) s
    have huspeed := applyService_serviceSpeed (serviceOf p) (serviceSpeedOf s.settings.comp (u16At p 7)) s
    have huroute := applyService_route (serviceOf p) (serviceSpeedOf s.settings.comp (u16At p 7)) s
    rw [hu] at hsettings hsensing hdoors hbus hpending humode huservice huspeed huroute
    have hrun : u.mode.opState ≠ .run := by
      rw [humode]
      simp [hmode]
    have hinit : initEnd u = u := initEnd_of_not_init (by rw [humode]; simp [hmode])
    have hspeed : (finish u).comp.serviceSpeed = serviceSpeedOf s.settings.comp (u16At p 7) :=
      (finish_sameRecord u).2.2.2.2.trans huspeed
    have hstatus : Status.ofClamp (serviceClamped s.settings.comp p) =
        if u8At p 1 ≤ 100 ∧ u8At p 2 ≤ 100 ∧ u8At p 3 ≤ 100 ∧ u8At p 4 ≤ 100 ∧ u8At p 5 ≤ 100 ∧
          (finish u).comp.serviceSpeed = u16At p 7 then .ok else .clamped := by
      rw [hspeed, ← if_congr (serviceClamped_iff s.settings.comp p) rfl rfl]
      cases serviceClamped s.settings.comp p <;> rfl
    refine ⟨finish u, ?_, ?_, hspeed.trans (serviceSpeedOf_eq _ _), (finish_mode_outside hrun hinit).trans humode, ?_, ?_,
      fun hask => ?_, (finish_settings u).trans hsettings, (finish_sensing u).trans hsensing,
      (finish_doors u).trans hdoors, (finish_bus u).trans hbus, (finish_pending u).trans hpending⟩
    · refine congrArg Host.Outcome.next (takeRequest_owner (owner := serviceOutputOwner p) htaking hlength ?_
        serviceOutputFields)
      unfold serviceOutputOwner
      rw [if_neg (not_not.2 hmode), if_neg (by simp; omega), hu, ← hstatus]
      rfl
    · rw [finish_service, huservice, serviceOf, valvePosOf_eq _ hvalve]
    · rw [finish_dampers_outside hrun hinit, huroute]
      exact (Dampers.change_targets _ _ _).1
    · rw [finish_dampers_outside hrun hinit, huroute]
      exact (Dampers.change_targets _ _ _).2
    · rw [finish_valve_outside hrun hinit, finish_service, huservice, huroute]
      exact Valve.kick_target hask

end Sys2Proof.Machine
end

section
/-!
PROOFS. A grant that one pass makes, as the pass leaves it; the selection (statement O43).
-/
namespace Sys2Proof.Machine

/-! ## The start of COOLING with its pre-chill record -/

/-- The pre-chill of a grant in COOLING begins RUNNING at 0, compared at once (R108). -/
theorem startPreChill_route {s : State} {g : Grant} (hgrant : s.arb.grant = some g) (hphase : g.phase = .cooling) :
    (startPreChill g.zone s).route = s.route.setPreChill g.zone.fan (s.preChillBegun g.zone) := by
  have hcoil : (s.sensing.get (coilOf g.zone.fan)).filtered =
      (if g.zone = .fresh then s.sensing.frCoil else s.sensing.fzCoil).filtered := by
    cases g.zone <;> rfl
  have hset : ∀ p q, (s.route.setPreChill g.zone.fan p).setPreChill g.zone.fan q = s.route.setPreChill g.zone.fan q := by
    intro p q
    cases g.zone.fan <;> rfl
  have hrecord : (s.route.setPreChill g.zone.fan (.running 0)).preChill g.zone.fan = .running 0 := by
    cases g.zone.fan <;> rfl
  unfold startPreChill preChillCompare State.preChillBegun
  dsimp only
  rw [hgrant]
  dsimp only
  rw [if_pos (by simp [hphase]), hrecord, hcoil]
  cases (if g.zone = .fresh then s.sensing.frCoil else s.sensing.fzCoil).filtered with
  | none => rfl
  | some coil =>
    cases (s.sensing.air.get g.zone).filtered with
    | none => rfl
    | some air =>
      dsimp only
      split
      · exact hset _ _
      · rfl

theorem State.preChillBegun_congr {s t : State} (h : t.sensing = s.sensing) (z : Zone) :
    t.preChillBegun z = s.preChillBegun z := by
  unfold State.preChillBegun
  rw [h]

/-- The grant that the start of COOLING makes of a holder in ROUTING (R70, R71). -/
def State.cooled (s : State) (g : Grant) : Grant :=
  { g with
    phase := .cooling
    minLeft := mins (s.settings.timing.get g.zone).minDwell
    maxLeft := mins (s.settings.timing.get g.zone).maxDwell
    startTemp := (s.sensing.air.get g.zone).filtered }

/-- The start of COOLING, with the record of the route's fan begun. -/
theorem coolingStart_route_cases (s : State) :
    coolingStart s = s ∨
      ∃ g a, s.arb.grant = some g ∧ s.route.app = some a ∧ g.phase = .routing ∧ a.inPlace = true ∧
        s.commandedOn = true ∧ (coolingStart s).arb = { s.arb with grant := some (s.cooled g) } ∧
        (coolingStart s).route = s.route.setPreChill g.zone.fan (s.preChillBegun g.zone) ∧
        (coolingStart s).comp = (recompute { s with arb := { s.arb with grant := some (s.cooled g) } }).comp := by
  rcases coolingStart_cases s with h | ⟨g, a, hg, ha, hphase, hplace, hon, h⟩
  · exact .inl h
  · refine .inr ⟨g, a, hg, ha, hphase, hplace, hon, ?_, ?_, ?_⟩
    · rw [h, startPreChill_arb, arb_recompute]
      rfl
    · have hroute := startPreChill_route (g := s.cooled g)
        (s := recompute { s with arb := { s.arb with grant := some (s.cooled g) } }) (by rw [arb_recompute]) rfl
      rw [h]
      refine hroute.trans ?_
      rw [route_recompute, State.preChillBegun_congr (recompute_arc _).sensing]
      rfl
    · rw [h, startPreChill_comp]
      rfl

/-! ## The route of a created grant -/

theorem Valve.rehomeAsk_of_not_rehoming {v : Valve} (h : v.rehoming = false) : v.rehomeAsk = .none := by
  by_contra hask
  simp [Valve.rehoming, hask] at h

theorem applyRoute_route (z : Zone) (s : State) :
    (applyRoute z s).route =
      if s.route.valve.rehoming = true then s.route
      else
        { s.route with
          valve := { s.route.valve with target := some (outletOf z) }
          dampers := s.route.dampers.change z.dampers.1 z.dampers.2
          app :=
            some
              ⟨z, 0, false, decide (s.route.dampers.flex ≠ z.dampers.1), decide (s.route.dampers.ice ≠ z.dampers.2)⟩
          preFreezer := .absent
          preFresh := .absent } := by
  unfold applyRoute
  split <;> rfl

/-- A route as applied: the valve and damper targets, and the application (R103). -/
theorem createGrant_route (z : Zone) (r : GrantReason) (s : State) :
    (createGrant z r s).route =
      if s.route.valve.rehoming = true then { s.route with preFreezer := .absent, preFresh := .absent }
      else
        { s.route with
          valve := { s.route.valve with target := some (outletOf z) }
          dampers := s.route.dampers.change z.dampers.1 z.dampers.2
          app :=
            some
              ⟨z, 0, false, decide (s.route.dampers.flex ≠ z.dampers.1), decide (s.route.dampers.ice ≠ z.dampers.2)⟩
          preFreezer := .absent
          preFresh := .absent } := by
  unfold createGrant
  rw [route_recompute, applyRoute_route, movePointers_eq] <;> rfl

theorem createGrant_preChill (z : Zone) (r : GrantReason) (s : State) :
    (createGrant z r s).route.preFreezer = .absent ∧ (createGrant z r s).route.preFresh = .absent := by
  rw [createGrant_route]
  split <;> exact ⟨rfl, rfl⟩

/-- The pointers that a grant moves, by the level of its zone (R61). -/
theorem movePointers_cases (z : Zone) (s : State) :
    (s.settings.level.get z = .l1 →
        (movePointers z s).arb.p1 = some (.zone z) ∧ (movePointers z s).arb.p2 = s.arb.p2) ∧
      (s.settings.level.get z = .group →
        (movePointers z s).arb.p1 = some .group ∧ (movePointers z s).arb.p2 = some z) := by
  unfold movePointers
  constructor <;> intro h <;> rw [h] <;> exact ⟨rfl, rfl⟩

/-! ## A pass that creates a grant -/

theorem passBody_preChill (s : State) :
    (passBody s).route.preFreezer = s.route.preFreezer ∧ (passBody s).route.preFresh = s.route.preFresh := by
  unfold passBody
  rw [inPlaceTest_route, compReact_route]
  exact ⟨rfl, rfl⟩

theorem passBody_app (s : State) :
    (passBody s).route.app =
      s.route.app.map fun a =>
        { a with
          inPlace :=
            a.inPlace || (s.route.valve.kick.isAt (outletOf a.zone) && s.dampersConfirmed a.zone) } := by
  unfold passBody
  rw [inPlaceTest_route, compReact_route]
  have hconfirmed : (compReact (kickValve s)).dampersConfirmed = s.dampersConfirmed :=
    funext fun z => ArcOnly.dampersConfirmed ((kickValve_arc s).trans (compReact_arc _)) (by rw [compReact_route]; rfl) z
  rw [hconfirmed]
  rfl

theorem settle_app (s : State) : (settle s).route.app = (passBody (arbitrate s)).route.app := by
  rw [settle_eq, coolingStart_app]

theorem settle_dampers (s : State) : (settle s).route.dampers = (arbitrate s).route.dampers := by
  rw [settle_eq, coolingStart_dampers, passBody_dampers]

/-- What a grant made at an event of `s` looks at is as in `s`. -/
structure State.grantBasis (s y : State) : Prop where
  settings : y.settings = s.settings
  sensing : y.sensing = s.sensing
  doors : y.doors = s.doors
  claim : y.arb.claim = s.arb.claim
  p2 : y.arb.p2 = (normalise s).arb.p2
  rehoming : y.route.valve.rehoming = s.route.valve.rehoming
  dampers : y.route.dampers = s.route.dampers

/-- A pass whose arbitration creates a grant leaves it as made, in ROUTING or at the start of COOLING. -/
theorem settle_grantMade {s x y : State} {z : Zone} {r : GrantReason} (h : arbitrate x = createGrant z r y)
    (hbasis : s.grantBasis y) : State.grantMade s (settle x) z r := by
  obtain ⟨hsettings, hsensing, hdoors, hclaim, hp2, hrehoming, hdampers⟩ := hbasis
  have harc : ArcOnly y (passBody (createGrant z r y)) := (createGrant_arc z r y).trans (passBody_arc _)
  have hdoor : y.zoneDoorOpen z = s.zoneDoorOpen z := by
    unfold State.zoneDoorOpen
    rw [hdoors]
  have hgrant : (passBody (createGrant z r y)).arb.grant = some (y.newGrant z r) := by
    rw [passBody_arb, createGrant_arb]
  have hroute := createGrant_route z r y
  have hpointers := movePointers_cases z y
  obtain ⟨hfreezer, hfresh⟩ := createGrant_preChill z r y
  obtain ⟨hbodyFreezer, hbodyFresh⟩ := passBody_preChill (createGrant z r y)
  have harb : ∃ g, (settle x).arb = { (createGrant z r y).arb with grant := g } := by
    rw [settle_eq, h]
    rcases coolingStart_route_cases (passBody (createGrant z r y)) with hc | ⟨g, a, -, -, -, -, -, hc, -⟩ <;> rw [hc]
    · exact ⟨_, by rw [passBody_arb]⟩
    · exact ⟨_, by rw [passBody_arb]⟩
  obtain ⟨g', harb⟩ := harb
  refine ⟨?_, ?_, ?_, ?_, ?_, ?_, ?_, ?_⟩
  · rw [settle_eq, h]
    rcases coolingStart_route_cases (passBody (createGrant z r y)) with hc | ⟨g, a, hg, -, hphase, -, -, ha, hr, -⟩
    · rw [hc]
      refine ⟨_, hgrant, ?_, fun _ => ⟨hbodyFreezer.trans hfreezer, hbodyFresh.trans hfresh⟩,
        fun hphase => absurd hphase (by simp [State.newGrant])⟩
      simp [State.newGrant, hsettings, hdoor, mins, Nat.mul_assoc]
    · obtain rfl := Option.some.inj (hgrant.symm.trans hg)
      refine ⟨_, by rw [ha], ?_, fun hphase => absurd hphase (by simp [State.cooled]), fun _ => ?_⟩
      · simp [State.cooled, State.newGrant, hdoor, harc.settings, hsettings, harc.sensing, hsensing, mins,
          Nat.mul_assoc]
      · have hbegun := State.preChillBegun_congr (harc.sensing.trans hsensing) z
        unfold State.preChillStarted
        rw [hr, ← hbegun]
        cases z <;> exact ⟨by simp [Route.setPreChill, State.newGrant, Zone.fan, hbodyFreezer, hfreezer],
          by simp [Route.setPreChill, State.newGrant, Zone.fan, hbodyFresh, hfresh]⟩
  · rw [harb, createGrant_arb]
  · rw [harb, createGrant_arb]
  · rw [harb, createGrant_arb]
    intro w hw
    simpa using (List.mem_filter.1 hw).2
  · rw [harb, createGrant_arb]
    show (if r = .recovery then false else y.arb.claim) = _
    rw [hclaim]
    by_cases hr : r = .recovery <;> simp [hr]
  · intro hlevel
    rw [harb, createGrant_arb, ← hp2]
    exact hpointers.1 (by rw [hsettings]; exact hlevel)
  · intro hlevel
    rw [harb, createGrant_arb]
    exact hpointers.2 (by rw [hsettings]; exact hlevel)
  · intro hnot
    rw [← hrehoming] at hnot
    rw [if_neg (by simp [hnot])] at hroute
    have hchanged := Dampers.change_targets y.route.dampers z.dampers.1 z.dampers.2
    rw [settle_valve, settle_dampers, settle_app, passBody_app, h, hroute, ← hdampers]
    refine ⟨?_, ?_, ?_⟩
    · exact (Valve.kick_target (v := { y.route.valve with target := some (outletOf z) })
        (Valve.rehomeAsk_of_not_rehoming hnot)).trans (by cases z <;> rfl)
    · show ((y.route.dampers.change _ _).flex, (y.route.dampers.change _ _).ice) = _
      rw [hchanged.1, hchanged.2]
      cases z <;> rfl
    · refine ⟨_, rfl, ?_⟩
      simp [hchanged.1, hchanged.2]

/-- The outputs and the presentation read a made grant as it is. -/
theorem publish_grantMade {s t : State} {z : Zone} {r : GrantReason} (h : State.grantMade s t z r) :
    State.grantMade s (publish t) z r := h

/-! ## The pointers -/

/-- The pointer P2 after the moves of R62. -/
theorem normaliseP2_eq (s : State) :
    normaliseP2 s =
      { s with
        arb :=
          { s.arb with
            p1 :=
              (match s.arb.p1, s.arb.p2 with
              | some .group, some z => if s.settings.level.get z = .l1 then some (.zone z) else some .group
              | p, _ => p)
            p2 :=
              (match s.arb.p2 with
              | some z => if s.settings.level.get z = .l1 then none else some z
              | none => none) } } := by
  unfold normaliseP2
  cases hp2 : s.arb.p2 with
  | none =>
    rcases hp1 : s.arb.p1 with - | (z' | -) <;> simp only [← hp1, ← hp2]
  | some z =>
    dsimp only
    by_cases hz : s.settings.level.get z = .l1
    · rcases hp1 : s.arb.p1 with - | (z' | -) <;> simp [hz]
    · rcases hp1 : s.arb.p1 with - | (z' | -) <;> simp [hz, ← hp1, ← hp2]

/-- Both moves of R62, the second pointer's first. -/
theorem normalise_pointers (s : State) :
    ∀ (p1 : Option Turn) (p2 : Option Zone),
      p2 =
        (match s.arb.p2 with
        | some z => if s.settings.level.get z = .l1 then none else some z
        | none => none) →
      p1 =
        (match s.arb.p1, s.arb.p2 with
        | some .group, some z => if s.settings.level.get z = .l1 then some (.zone z) else some .group
        | p, _ => p) →
      normalise s =
        { s with
          arb :=
            (match p1 with
            | some (.zone z) =>
              if s.settings.level.get z = .group then { s.arb with p1 := some .group, p2 := some z }
              else { s.arb with p1 := p1, p2 := p2 }
            | _ => { s.arb with p1 := p1, p2 := p2 }) } := by
  intro p1 p2 h2 h1
  have hmoved : normaliseP2 s = { s with arb := { s.arb with p1 := p1, p2 := p2 } } := by
    rw [normaliseP2_eq, h1, h2]
  unfold normalise
  rw [hmoved]
  clear hmoved h1 h2
  unfold normaliseP1
  rcases p1 with - | (z | -)
  · rfl
  · dsimp only
    split <;> rfl
  · rfl

theorem normaliseP1_congr {s t : State} (hsettings : t.settings = s.settings) (hp1 : t.arb.p1 = s.arb.p1)
    (hp2 : t.arb.p2 = s.arb.p2) :
    (normaliseP1 t).arb.p1 = (normaliseP1 s).arb.p1 ∧ (normaliseP1 t).arb.p2 = (normaliseP1 s).arb.p2 := by
  unfold normaliseP1
  rw [hp1, hsettings]
  split
  · split
    · exact ⟨rfl, rfl⟩
    · exact ⟨hp1, hp2⟩
  · exact ⟨hp1, hp2⟩

/-- The moved pointers depend on the pointers and the levels alone. -/
theorem normalise_congr {s t : State} (hsettings : t.settings = s.settings) (hp1 : t.arb.p1 = s.arb.p1)
    (hp2 : t.arb.p2 = s.arb.p2) :
    (normalise t).arb.p1 = (normalise s).arb.p1 ∧ (normalise t).arb.p2 = (normalise s).arb.p2 := by
  unfold normalise
  rw [normaliseP2_eq s, normaliseP2_eq t]
  refine normaliseP1_congr hsettings ?_ ?_
  · dsimp only
    rw [hsettings, hp1, hp2]
  · dsimp only
    rw [hsettings, hp2]

/-! ## The selection -/

theorem State.aged_iff (s : State) (w : Waiting) : s.aged w = true ↔ s.settings.arb.maxWait * 60 ≤ w.waited / 9600 := by
  exact decide_eq_true_iff

/-- The recovery claim wins the selection where FREEZE waits selectable (R64 step 1). -/
theorem State.selection_of_claim {s : State} (hclaim : s.arb.claim = true) (hwaits : s.waitingSelectable .freeze = true) :
    s.selection none = some (.freeze, .recovery) := by
  simp [State.selection, State.candidate_none, hclaim, hwaits]

/-- Without it, the forced zone, the oldest aged entry and the rotation follow (R64 steps 2 to 4). -/
theorem State.selection_without_claim {s : State}
    (h : s.arb.claim = false ∨ s.waitingSelectable .freeze = false) :
    s.selection none =
      match s.arb.forced.bind (fun f => if s.waitingSelectable f.zone then some f.zone else none) with
      | some z => some (z, .forced)
      | none =>
        match s.arb.waiting.find? (fun w => s.aged w && s.selectable w.zone) with
        | some w => some (w.zone, .aged)
        | none => s.rotation.map fun z => (z, .rotation) := by
  have hno : (s.arb.claim && s.waitingSelectable .freeze) = false := by rcases h with h | h <;> simp [h]
  unfold State.selection
  simp only [State.candidate_none, hno] <;> rfl

theorem State.selection_of_forced {s : State} (h : s.arb.claim = false ∨ s.waitingSelectable .freeze = false)
    {f : Forced} (hf : s.arb.forced = some f) (hwaits : s.waitingSelectable f.zone = true) :
    s.selection none = some (f.zone, .forced) := by
  rw [State.selection_without_claim h]
  simp [hf, hwaits]

theorem State.selection_unforced {s : State} (h : s.arb.claim = false ∨ s.waitingSelectable .freeze = false)
    (hforced : ∀ f, s.arb.forced = some f → s.waitingSelectable f.zone = false) :
    s.selection none =
      match s.arb.waiting.find? (fun w => s.aged w && s.selectable w.zone) with
      | some w => some (w.zone, .aged)
      | none => s.rotation.map fun z => (z, .rotation) := by
  rw [State.selection_without_claim h]
  cases hf : s.arb.forced with
  | none => rfl
  | some f => simp [hforced f hf]

theorem State.ring2_default {s : State} (h : s.settings.level = ⟨.l1, .l1, .group, .group⟩) :
    s.ring2 = [.flex, .ice] := by
  unfold State.ring2
  rw [h]
  rfl

theorem State.ring1_default {s : State} (h : s.settings.level = ⟨.l1, .l1, .group, .group⟩) :
    s.ring1 = [.zone .fresh, .zone .freeze, .group] := by
  unfold State.ring1
  rw [State.ring2_default h, h]
  rfl

/-- The second-level walk of the default levels (R64 step 4). -/
theorem State.walk2_default {s : State} (h : s.settings.level = ⟨.l1, .l1, .group, .group⟩) :
    walkFrom s.ring2 s.arb.p2 = if s.arb.p2 = some .flex then [.ice, .flex] else [.flex, .ice] := by
  rw [State.ring2_default h]
  rcases s.arb.p2 with - | z
  · rfl
  · cases z <;> rfl

/-- The turns of a walk, the group's by the second-level walk: the zones one after another. -/
def State.unrolled (s : State) (order : List Turn) : List Zone :=
  order.flatMap fun t =>
    match t with
    | .zone z => [z]
    | .group => walkFrom s.ring2 s.arb.p2

theorem State.findSome_turnWinner (s : State) (order : List Turn) :
    order.findSome? s.turnWinner = (s.unrolled order).find? s.waitingSelectable := by
  unfold State.unrolled
  induction order with
  | nil => rfl
  | cons t order ih =>
    rw [List.findSome?_cons, List.flatMap_cons, List.find?_append, ih]
    cases t with
    | zone z => cases hz : s.waitingSelectable z <;> simp [State.turnWinner, hz]
    | group =>
      have hgroup : s.turnWinner .group = (walkFrom s.ring2 s.arb.p2).find? s.waitingSelectable := rfl
      rw [hgroup]
      cases (walkFrom s.ring2 s.arb.p2).find? s.waitingSelectable <;> rfl

/-- The rotation walks the rings turn by turn. -/
theorem State.rotation_unrolled (s : State) :
    s.rotation = (s.unrolled (walkFrom s.ring1 s.arb.p1)).find? s.waitingSelectable := by
  rw [State.rotation_eq, State.findSome_turnWinner]

/-- Settles O43: the order of R64, and the grant that the selection makes. -/
theorem selectionOrder : Obligations.SelectionOrder := by
  intro s
  refine ⟨State.selection_of_claim, fun hno => ⟨fun f hf hwaits => State.selection_of_forced hno hf hwaits,
    fun hforced => ⟨fun before w after hlist haged hselectable hbefore => ?_, fun hnone => ⟨?_, s.rotation_none_iff,
      fun order hlevel => ⟨?_, ?_, ?_⟩⟩⟩⟩, s.aged_iff, normalise_pointers s,
    fun z r hrun hgrant hphase hwinner => ?_⟩
  · have hfind : s.arb.waiting.find? (fun w => s.aged w && s.selectable w.zone) = some w := by
      refine List.find?_eq_some_iff_append.2 ⟨by simp [haged, hselectable], before, after, hlist, fun b hb => ?_⟩
      have hnot := hbefore b hb
      rw [Bool.not_eq_true', ← Bool.not_eq_true]
      simpa using hnot
    rw [State.selection_unforced hno hforced, hfind]
  · have hfind : s.arb.waiting.find? (fun w => s.aged w && s.selectable w.zone) = none :=
      List.find?_eq_none.2 fun w hw => by simpa using hnone w hw
    rw [State.selection_unforced hno hforced, hfind]
  · rintro hp1 rfl
    have hwalk : walkFrom s.ring1 s.arb.p1 = [.zone .fresh, .zone .freeze, .group] := by
      rw [State.ring1_default hlevel]
      rcases hp1 with hp1 | hp1 <;> rw [hp1] <;> rfl
    rw [State.rotation_unrolled, hwalk, State.unrolled, ← State.walk2_default hlevel]
    simp
  · rintro hp1 rfl
    have hwalk : walkFrom s.ring1 s.arb.p1 = [.zone .freeze, .group, .zone .fresh] := by
      rw [State.ring1_default hlevel, hp1] <;> rfl
    rw [State.rotation_unrolled, hwalk, State.unrolled, ← State.walk2_default hlevel]
    simp
  · rintro hp1 rfl
    have hwalk : walkFrom s.ring1 s.arb.p1 = [.group, .zone .fresh, .zone .freeze] := by
      rw [State.ring1_default hlevel, hp1] <;> rfl
    rw [State.rotation_unrolled, hwalk, State.unrolled, ← State.walk2_default hlevel]
    simp
  · have hinit : initEnd s = s := initEnd_of_not_init (by rw [hrun]; exact nofun)
    have harbitrate : arbitrate s = createGrant z r (normalise (relist s)) := by
      rw [arbitrate_run_none hrun hgrant]
      rcases noGrant_cases (relist s) with ⟨z', r', hw, h⟩ | ⟨hw, -⟩
      · obtain ⟨rfl, rfl⟩ := Prod.mk.inj (Option.some.inj (hw.symm.trans hwinner))
        exact h
      · exact absurd (hw.symm.trans hwinner) (by simp)
    have hbasis : s.grantBasis (normalise (relist s)) := by
      have harc := (relist_arc s).trans (normalise_arc (relist s))
      refine ⟨harc.settings, harc.sensing, harc.doors, ?_, (normalise_congr (s := s) (t := relist s) rfl rfl rfl).2, ?_, ?_⟩
      · rw [normalise_claim]
        rfl
      · rw [normalise_route]
        rfl
      · rw [normalise_route]
        rfl
    have hmade := settle_grantMade harbitrate hbasis
    have hsome : (settle s).arb.grant.isSome = true := by
      obtain ⟨⟨g, hg, -⟩, -⟩ := hmade
      rw [hg]
      rfl
    rw [finish_of_held hphase (State.claimSound_of_noGrant hgrant) (.inl (by rw [hinit]; exact hsome)), hinit]
    exact publish_grantMade hmade

end Sys2Proof.Machine
end

section
/-!
PROOFS. The idle sub-states that one pass enters, as the pass and what follows it leave them: RUNOUT, PARK_DELAY, PARKED.
-/
namespace Sys2Proof.Machine

/-! ## A pass without a grant after its arbitration -/

/-- Without a grant COOLING cannot start: a pass ends with the compressor's start or stop. -/
theorem settle_of_idle {s : State} (h : (arbitrate s).arb.grant = none) : settle s = passBody (arbitrate s) := by
  rw [settle_eq]
  rcases coolingStart_grant_cases (passBody (arbitrate s)) with hc | ⟨g, hg, -⟩
  · exact hc
  · rw [passBody_arb, h] at hg
    cases hg

theorem settle_arb_of_idle {s : State} (h : (arbitrate s).arb.grant = none) : (settle s).arb = (arbitrate s).arb := by
  rw [settle_of_idle h, passBody_arb]

theorem settle_comp_of_idle {s : State} (h : (arbitrate s).arb.grant = none) :
    (settle s).comp = (compReact (kickValve (arbitrate s))).comp := by
  rw [settle_of_idle h, passBody_comp]

theorem settle_preChill_of_idle {s : State} (h : (arbitrate s).arb.grant = none) :
    (settle s).route.preFreezer = (arbitrate s).route.preFreezer ∧
      (settle s).route.preFresh = (arbitrate s).route.preFresh := by
  rw [settle_of_idle h]
  exact passBody_preChill _

theorem settle_app_none {s : State} (h : (arbitrate s).route.app = none) : (settle s).route.app = none := by
  rw [settle_app, passBody_app, h]
  rfl

/-- In RUN without a grant and outside RUNOUT no run is requested (R117). -/
theorem runRequest_of_idle {s : State} (hmode : s.mode.opState = .run) (hgrant : s.arb.grant = none)
    (hidle : s.arb.idle ≠ some .runout) : s.runRequest = false := by
  unfold State.runRequest
  simp only [hmode, hgrant, Option.isSome_none, Bool.false_or, decide_eq_false_iff_not]
  exact hidle

theorem runRequest_of_runout {s : State} (hmode : s.mode.opState = .run) (hidle : s.arb.idle = some .runout) :
    s.runRequest = true := by
  simp [State.runRequest, hmode, hidle]

theorem compReact_stop {s : State} (hstate : s.comp.state = .running) (hrequest : s.runRequest = false)
    (hmin : s.minOnMet = true) : compReact s = stopComp s := by
  unfold compReact
  rw [if_neg (by simp [hstate]), if_pos (by simp [hstate, hrequest, hmin])]

/-- A running compressor with a run request goes on. -/
theorem compReact_on {s : State} (hstate : s.comp.state = .running) (hrequest : s.runRequest = true) :
    compReact s = s := compReact_of_stands (by simp [hstate]) (by simp [hrequest])

theorem minOnMet_of_steady {s t : State} (hsettings : t.settings = s.settings) (h : s.comp.steady t.comp) :
    t.minOnMet = s.minOnMet := by
  unfold State.minOnMet
  rw [hsettings, h.runFor]

/-! ## The entry to PARK_DELAY and to PARKED -/

theorem enterParkDelay_arb {s : State} (h : s.settings.arb.parkDelay ≠ 0) :
    (enterParkDelay s).arb =
      { s.arb with
        idle := some .parkDelay
        parkTimer := some (sec s.settings.arb.parkDelay)
        parkMode := s.settings.arb.parkMode
        lastRoute := none } := by
  unfold enterParkDelay
  exact (congrArg State.arb (if_neg h)).trans rfl

theorem enterParkDelay_route {s : State} (h : s.settings.arb.parkDelay ≠ 0) :
    (enterParkDelay s).route =
      { (holdValve s).route with
        dampers := s.route.dampers.change 0 0, preFreezer := .absent, preFresh := .absent } := by
  unfold enterParkDelay
  exact (congrArg State.route (if_neg h)).trans rfl

/-- A held valve's target, unless a rehome has still to end (R106). -/
theorem holdValve_target {s : State} (h : s.route.valve.rehoming = false) :
    (∀ m, s.route.valve.move = some m → (holdValve s).route.valve.target = some m.target) ∧
      ∀ p, s.route.valve.move = none → s.route.valve.rest = some p → (holdValve s).route.valve.target = some p := by
  unfold holdValve State.mapValve
  dsimp only
  rw [if_neg (by simp [h])]
  refine ⟨fun m hm => ?_, fun p hm hp => ?_⟩
  · rw [hm]
  · rw [hm, hp]

theorem holdValve_rehomeAsk (s : State) : (holdValve s).route.valve.rehomeAsk = s.route.valve.rehomeAsk := by
  unfold holdValve State.mapValve
  dsimp only
  split
  · rfl
  · split <;> rfl

theorem rehomeTest_dampers (s : State) : (rehomeTest s).route.dampers = s.route.dampers := by
  unfold rehomeTest
  split <;> rfl

theorem rehomeTest_app (s : State) : (rehomeTest s).route.app = s.route.app := by
  unfold rehomeTest
  split <;> rfl

theorem enterParked_dampers (s : State) : (enterParked s).route.dampers = s.route.dampers := by
  unfold enterParked
  rw [rehomeTest_dampers]
  split <;> rfl

theorem enterParked_app (s : State) : (enterParked s).route.app = s.route.app := by
  unfold enterParked
  rw [rehomeTest_app]
  split <;> rfl

theorem enterParkDelay_app (s : State) : (enterParkDelay s).route.app = s.route.app := by
  unfold enterParkDelay
  dsimp only
  split
  · rw [enterParked_app]
    rfl
  · rfl

theorem runoutEnd_app (s : State) : (runoutEnd s).route.app = s.route.app := by
  unfold runoutEnd
  split
  · exact enterParkDelay_app s
  · rfl

theorem enterIdle_app (s : State) : (enterIdle s).route.app = s.route.app := by
  rcases enterIdle_cases s with ⟨-, -, h⟩ | ⟨-, h⟩ <;> rw [h, route_recompute]
  exact enterParkDelay_app s

/-- The damper targets after the entry to PARK_DELAY, whatever follows it (R106). -/
theorem enterParkDelay_dampers (s : State) :
    (enterParkDelay s).route.dampers = s.route.dampers.change 0 0 := by
  unfold enterParkDelay
  dsimp only
  split
  · rw [enterParked_dampers]
    rfl
  · rfl

/-- The test of R82 by its condition. -/
theorem rehomeTest_idle {s : State} (h : s.arb.idle = some .parked) :
    (rehomeTest s).arb.idle =
      some (if 100 ≤ s.route.valve.outletMoves ∧ s.route.valve.rehoming = false then .rehome else .parked) := by
  unfold rehomeTest
  by_cases hmoves : 100 ≤ s.route.valve.outletMoves ∧ s.route.valve.rehoming = false
  · rw [if_pos (by simp [h, hmoves]), if_pos hmoves]
    rfl
  · rw [if_neg (by simpa [h] using hmoves), if_neg hmoves, h]

theorem enterParked_idle (s : State) :
    (enterParked s).arb.idle =
      some (if 100 ≤ s.route.valve.outletMoves ∧ s.route.valve.rehoming = false then .rehome else .parked) := by
  unfold enterParked
  dsimp only
  split
  · refine (rehomeTest_idle rfl).trans ?_
    unfold kickValve State.mapValve
    dsimp only
    rw [Valve.kick_outletMoves, Valve.kick_rehoming]
    rfl
  · exact rehomeTest_idle rfl

theorem rehomeTest_parkTimer (s : State) : (rehomeTest s).arb.parkTimer = s.arb.parkTimer := by
  unfold rehomeTest
  split <;> rfl

theorem enterParked_parkTimer (s : State) : (enterParked s).arb.parkTimer = none := by
  unfold enterParked
  rw [rehomeTest_parkTimer]
  split <;> rfl

theorem holdValve_outletMoves (s : State) : (holdValve s).route.valve.outletMoves = s.route.valve.outletMoves := by
  unfold holdValve State.mapValve
  dsimp only
  split
  · rfl
  · split <;> rfl

theorem holdValve_rehoming (s : State) : (holdValve s).route.valve.rehoming = s.route.valve.rehoming := by
  unfold holdValve State.mapValve
  dsimp only
  split
  · rfl
  · split <;> rfl

/-- With a park delay of 0 the entry to PARK_DELAY goes on to PARKED or to its rehome (R81, R82). -/
theorem enterParkDelay_of_zero {s : State} (h : s.settings.arb.parkDelay = 0) :
    (enterParkDelay s).arb.idle =
        some (if 100 ≤ s.route.valve.outletMoves ∧ s.route.valve.rehoming = false then .rehome else .parked) ∧
      (enterParkDelay s).arb.parkTimer = none := by
  unfold enterParkDelay
  dsimp only
  rw [if_pos h]
  refine ⟨?_, enterParked_parkTimer _⟩
  rw [enterParked_idle, ← holdValve_outletMoves s, ← holdValve_rehoming s]
  rfl

theorem enterParkDelay_not_runout (s : State) : (enterParkDelay s).arb.idle ≠ some .runout := by
  by_cases h : s.settings.arb.parkDelay = 0
  · rw [(enterParkDelay_of_zero h).1]
    split <;> simp
  · rw [enterParkDelay_arb h]
    simp

/-! ## A pass that enters an idle sub-state -/

/-- What an idle sub-state entered at an event of `s` looks at is as in `s`, without the ended grant. -/
structure State.idleBasis (s y : State) : Prop where
  mode : y.mode.opState = .run
  settings : y.settings = s.settings
  comp : y.comp = s.comp
  grant : y.arb.grant = none
  valve : y.route.valve = s.route.valve
  dampers : y.route.dampers = s.route.dampers
  preFreezer : y.route.preFreezer = s.route.preFreezer
  preFresh : y.route.preFresh = s.route.preFresh

/-- A pass that leaves a run request aside stops a running compressor with min-on met (R120). -/
theorem settle_stops {x : State} (hgrant : (arbitrate x).arb.grant = none) (hmode : (arbitrate x).mode.opState = .run)
    (hidle : (arbitrate x).arb.idle ≠ some .runout) (hstate : (arbitrate x).comp.state = .running)
    (hmin : (arbitrate x).minOnMet = true) : (settle x).comp.state = .stopped ∧ (settle x).comp.command = 0 := by
  rw [settle_comp_of_idle hgrant, compReact_stop (s := kickValve (arbitrate x)) hstate
    (runRequest_of_idle (s := kickValve (arbitrate x)) hmode hgrant hidle) hmin]
  exact ⟨rfl, rfl⟩

/-- PARK_DELAY entered by the arbitration of a pass, as the pass leaves it (R80, R81, R106). -/
theorem settle_parkDelayEntered {s x y : State} (hbasis : s.idleBasis y) (hdelay : s.settings.arb.parkDelay ≠ 0)
    (harb : (arbitrate x).arb = (enterParkDelay y).arb) (hroute : (arbitrate x).route = (enterParkDelay y).route)
    (hcomp : (enterParkDelay y).comp.steady (arbitrate x).comp) (harc : ArcOnly y (arbitrate x)) :
    State.parkDelayEntered s (settle x) := by
  obtain ⟨hmode, hsettings, hycomp, hgrant, hvalve, hdampers, -, -⟩ := hbasis
  have hdelay' : y.settings.arb.parkDelay ≠ 0 := by rwa [hsettings]
  have hchanged := Dampers.change_targets y.route.dampers 0 0
  rw [enterParkDelay_arb hdelay'] at harb
  rw [enterParkDelay_route hdelay'] at hroute
  rw [enterParkDelay_comp, hycomp] at hcomp
  have hnone : (arbitrate x).arb.grant = none := by rw [harb, hgrant]
  obtain ⟨hpreFreezer, hpreFresh⟩ := settle_preChill_of_idle hnone
  refine ⟨?_, ?_, ?_, ?_, ?_, ?_, ?_, ?_, ?_, fun hnot => ?_, fun hstate hmin => ?_⟩
  · rw [settle_arb_of_idle hnone, hnone]
  · rw [settle_arb_of_idle hnone, harb]
  · rw [settle_arb_of_idle hnone, harb]
    exact congrArg (fun p : Settings => some (sec p.arb.parkDelay)) hsettings
  · rw [settle_arb_of_idle hnone, harb, hsettings]
  · rw [settle_arb_of_idle hnone, harb]
  · rw [settle_dampers, hroute]
    exact hchanged.1
  · rw [settle_dampers, hroute]
    exact hchanged.2
  · rw [hpreFreezer, hroute]
  · rw [hpreFresh, hroute]
  · rw [← hvalve] at hnot ⊢
    have htarget := holdValve_target hnot
    have hkick : (settle x).route.valve.target = (holdValve y).route.valve.target := by
      rw [settle_valve, hroute]
      refine Valve.kick_target ?_
      show (holdValve y).route.valve.rehomeAsk = .none
      rw [holdValve_rehomeAsk]
      exact Valve.rehomeAsk_of_not_rehoming hnot
    rw [hkick]
    exact htarget
  · refine settle_stops hnone (by rw [harc.mode, hmode]) ?_ (by rw [hcomp.state, hstate]) ?_
    · rw [harb]
      simp
    · rw [minOnMet_of_steady (s := s) (harc.settings.trans hsettings) hcomp, hmin]

/-- A recomputation in RUN without a grant never takes a commanded speed to 0 while Nmin is above 0. -/
theorem recompute_command_pos {s : State} (hcommand : s.comp.command ≠ 0) (htarget : 0 < s.targetSpeed) :
    (recompute s).comp.command ≠ 0 := by
  unfold recompute
  split
  · show rampTo s.comp.command s.targetSpeed s.settings.comp.ramp ≠ 0
    unfold rampTo
    split <;> omega
  · exact hcommand

theorem targetSpeed_of_idle {s : State} (hmode : s.mode.opState = .run) (hgrant : s.arb.grant = none) :
    s.targetSpeed = s.settings.comp.nMin := by
  simp only [State.targetSpeed, hmode, hgrant]

/-- RUNOUT entered by the arbitration of a pass, as the pass leaves it: the compressor runs on (R80). -/
theorem settle_runoutEntered {x y : State}
    (h : arbitrate x = recompute { y with arb := { y.arb with idle := some .runout } }) (hmode : y.mode.opState = .run)
    (hgrant : y.arb.grant = none) (hstate : y.comp.state = .running) :
    (settle x).arb = { y.arb with idle := some .runout } ∧
      (settle x).comp = (arbitrate x).comp ∧ (settle x).comp.state = .running ∧
      (settle x).route.dampers = y.route.dampers ∧ (settle x).route.preFreezer = y.route.preFreezer ∧
      (settle x).route.preFresh = y.route.preFresh ∧ (settle x).route.valve = y.route.valve.kick := by
  have harb : (arbitrate x).arb = { y.arb with idle := some .runout } := by rw [h, arb_recompute]
  have hroute : (arbitrate x).route = y.route := by rw [h, route_recompute]
  have hnone : (arbitrate x).arb.grant = none := by rw [harb, hgrant]
  have hmode' : (kickValve (arbitrate x)).mode.opState = .run := by
    rw [h]
    show (recompute _).mode.opState = _
    rw [(recompute_arc _).mode]
    exact hmode
  have hrun : (arbitrate x).comp.state = .running := by
    rw [h, (recompute_steady _).state]
    exact hstate
  have hcomp : (settle x).comp = (arbitrate x).comp := by
    rw [settle_comp_of_idle hnone, compReact_on (s := kickValve (arbitrate x)) hrun (runRequest_of_runout hmode' ?_)]
    · rfl
    · show (arbitrate x).arb.idle = _
      rw [harb]
  obtain ⟨hpreFreezer, hpreFresh⟩ := settle_preChill_of_idle hnone
  exact ⟨(settle_arb_of_idle hnone).trans harb, hcomp, by rw [hcomp, hrun], by rw [settle_dampers, hroute],
    by rw [hpreFreezer, hroute], by rw [hpreFresh, hroute], by rw [settle_valve, hroute]⟩

/-! ## The second pass -/

/-- Of a decided state without a grant, a pass moves the idle sub-state alone in the arbiter's record. -/
theorem settle_idleOnly {s : State} (h : s.decided) (hmode : s.mode.opState = .run) (hgrant : s.arb.grant = none) :
    s.arb.idleOnly (settle s).arb ∧ (s.route.app = none → (settle s).route.app = none) := by
  have harbitrate := arbitrate_of_decided_idle h hmode hgrant
  have hidle : s.arb.idleOnly (arbitrate s).arb := by
    rw [harbitrate]
    exact (runoutEnd_idleOnly s).trans (rehomeTest_idleOnly _)
  have hnone : (arbitrate s).arb.grant = none := by rw [hidle.grant, hgrant]
  refine ⟨by rw [settle_arb_of_idle hnone]; exact hidle, fun happ => settle_app_none ?_⟩
  rw [harbitrate, rehomeTest_app, runoutEnd_app, happ]

/-- Whatever becomes of RUNOUT in the second pass, the rest of the arbiter's record stands through it. -/
theorem finish_idleOnly {s : State} (hphase : s.defrost.phase ≠ .pending) (hsound : s.claimSound)
    (hmode : (initEnd s).mode.opState = .run) (hgrant : (settle (initEnd s)).arb.grant = none) :
    (settle (initEnd s)).arb.idleOnly (finish s).arb ∧
      ((settle (initEnd s)).route.app = none → (finish s).route.app = none) := by
  rw [finish_of_not_pending hphase]
  exact settle_idleOnly (settle_decided (initEnd_sound hsound)) (by rw [(settle_arc _).mode]; exact hmode) hgrant

end Sys2Proof.Machine
end

section
/-!
PROOFS. How an event ends a grant, goes on with it or preempts it (statement O44).
-/
namespace Sys2Proof.Machine

/-! ## A grant's end that leaves no grant -/

/-- RUNOUT that a pass enters with a running compressor goes on through what follows (R80). -/
theorem settle_runoutLasts {x y : State}
    (h : arbitrate x = recompute { y with arb := { y.arb with idle := some .runout } }) (hmode : y.mode.opState = .run)
    (hgrant : y.arb.grant = none) (hstate : y.comp.state = .running) (hon : y.commandedOn = true)
    (hmin : y.minOnMet = false) (hspeed : 0 < y.settings.comp.nMin) : (settle x).runoutLasts := by
  obtain ⟨-, hcomp, hrun, -⟩ := settle_runoutEntered h hmode hgrant hstate
  have hsettings : (settle x).settings = y.settings := by
    rw [settle_eq, (coolingStart_arc _).settings, (passBody_arc _).settings, h, (recompute_arc _).settings]
  have hsteady : y.comp.steady (settle x).comp := by
    rw [hcomp, h]
    exact recompute_steady { y with arb := { y.arb with idle := some .runout } }
  refine ⟨?_, (minOnMet_of_steady hsettings hsteady).trans hmin, ?_⟩
  · unfold State.commandedOn at hon ⊢
    rw [hcomp, h]
    simp only [ne_eq, decide_not, Bool.not_eq_true', decide_eq_false_iff_not] at hon ⊢
    refine recompute_command_pos (s := { y with arb := { y.arb with idle := some .runout } }) hon ?_
    rw [targetSpeed_of_idle (s := { y with arb := { y.arb with idle := some .runout } }) hmode hgrant]
    exact hspeed
  · simp [State.compAvailable, hrun]

/-- A grant's end of `s` that leaves no grant, as one pass leaves it (R80, R81, R106). -/
theorem settle_idleEntered {s x y : State} (h : arbitrate x = enterIdle y) (hbasis : s.idleBasis y)
    (happ : y.route.app = none) (hlast : y.arb.lastRoute = s.route.app.map RouteApp.zone) :
    State.idleEntered s (settle x) := by
  have hbasis' := hbasis
  obtain ⟨hmode, hsettings, hcomp, hgrant, hvalve, hdampers, hpreFreezer, hpreFresh⟩ := hbasis'
  have hon : y.commandedOn = s.commandedOn := by
    unfold State.commandedOn
    rw [hcomp]
  have hmin : y.minOnMet = s.minOnMet := by
    unfold State.minOnMet
    rw [hcomp, hsettings]
  have hnone : (arbitrate x).arb.grant = none := by rw [h, (enterIdle_idleOnly y).grant, hgrant]
  refine ⟨?_, ?_, fun hstate hcommand hnot hspeed => ?_, fun hpark => ?_⟩
  · rw [settle_arb_of_idle hnone, hnone]
  · exact settle_app_none (by rw [h, enterIdle_app, happ])
  · rcases enterIdle_cases y with ⟨-, -, hrunout⟩ | ⟨hno, -⟩
    · rw [hrunout] at h
      obtain ⟨harb, -, hrun, hd, hf, hr, hv⟩ :=
        settle_runoutEntered h hmode hgrant (by rw [hcomp]; exact hstate)
      refine ⟨by rw [harb], by rw [harb]; exact hlast, hrun, hd.trans hdampers, hf.trans hpreFreezer,
        hr.trans hpreFresh, fun hrehoming => ?_⟩
      rw [hv, hvalve]
      exact Valve.kick_target (Valve.rehomeAsk_of_not_rehoming hrehoming)
    · rw [hon, hmin] at hno
      simp [State.commandedOn, hcommand, hnot] at hno
  · rcases enterIdle_cases y with ⟨hyes, hno, -⟩ | ⟨-, hdelay⟩
    · rw [hon] at hyes
      rw [hmin] at hno
      rcases hpark with hc | hm
      · simp [State.commandedOn, hc] at hyes
      · simp [hm] at hno
    · rw [hdelay] at h
      have harb : (arbitrate x).arb = (enterParkDelay y).arb := by rw [h, arb_recompute]
      have hroute : (arbitrate x).route = (enterParkDelay y).route := by rw [h, route_recompute]
      refine ⟨fun hdelay => settle_parkDelayEntered hbasis hdelay harb hroute (by rw [h]; exact recompute_steady _)
        (by rw [h]; exact (enterParkDelay_arc y).trans (recompute_arc _)), fun hzero => ?_⟩
      obtain ⟨hidle, htimer⟩ := enterParkDelay_of_zero (s := y) (by rw [hsettings]; exact hzero)
      have hchanged := Dampers.change_targets y.route.dampers 0 0
      rw [settle_arb_of_idle hnone, settle_dampers, harb, hroute, enterParkDelay_dampers]
      exact ⟨by rw [hidle, hvalve], htimer, hchanged.1, hchanged.2⟩

/-- A grant's end of `s` that leaves no grant, as `s`'s event leaves it. -/
theorem finish_idleEntered {s y : State} (hphase : s.defrost.phase ≠ .pending) (hsound : s.claimSound)
    (hrun : s.mode.opState = .run) (h : arbitrate s = enterIdle y) (hbasis : s.idleBasis y)
    (happ : y.route.app = none) (hlast : y.arb.lastRoute = s.route.app.map RouteApp.zone) :
    State.idleEntered s (finish s) ∧ (finish s).arb.lastEnd = y.arb.lastEnd := by
  have hinit : initEnd s = s := initEnd_of_not_init (by rw [hrun]; exact nofun)
  have hentered := settle_idleEntered h hbasis happ hlast
  have hnone : (arbitrate s).arb.grant = none := by rw [h, (enterIdle_idleOnly y).grant, hbasis.grant]
  have hsettled : (settle s).arb.grant = none := hentered.1
  have hfinal := finish_idleOnly hphase hsound (by rw [hinit]; exact hrun) (by rw [hinit]; exact hsettled)
  rw [hinit] at hfinal
  obtain ⟨hidle, happ'⟩ := hfinal
  refine ⟨?_, ?_⟩
  · by_cases hlong : s.comp.state = .running ∧ 0 < s.settings.comp.nMin ∨ s.comp.command = 0 ∨ s.minOnMet = true
    · have hlasts : (settle s).arb.idle = some .runout → (settle s).runoutLasts := by
        intro hrunout
        rw [settle_arb_of_idle hnone, h] at hrunout
        rcases enterIdle_cases y with ⟨hon, hmin, hcase⟩ | ⟨-, hcase⟩
        · rw [hcase] at h
          have hon' : s.commandedOn = true := by
            rw [← hon]
            unfold State.commandedOn
            rw [hbasis.comp]
          have hmin' : s.minOnMet = false := by
            rw [← hmin]
            unfold State.minOnMet
            rw [hbasis.comp, hbasis.settings]
          rcases hlong with ⟨hstate, hspeed⟩ | hc | hm
          · exact settle_runoutLasts h hbasis.mode hbasis.grant (by rw [hbasis.comp, hstate]) hon hmin
              (by rw [hbasis.settings]; exact hspeed)
          · simp [State.commandedOn, hc] at hon'
          · simp [hm] at hmin'
        · rw [hcase, arb_recompute] at hrunout
          exact absurd hrunout (enterParkDelay_not_runout y)
      have hfinish := finish_of_idle hphase hsound (by rw [hinit]; exact hrun) (by rw [hinit]; exact hsettled)
        (by rw [hinit]; exact hlasts)
      rw [hfinish, hinit]
      exact hentered
    · simp only [not_or, not_and, not_lt] at hlong
      refine ⟨by rw [hidle.grant, hsettled], happ' hentered.2.1, fun hstate _ _ hspeed => ?_, fun hpark => ?_⟩
      · exact absurd hspeed (not_lt.2 (hlong.1 hstate))
      · exact (hpark.elim hlong.2.1 hlong.2.2).elim
  · rw [hidle.lastEnd, settle_arb_of_idle hnone, h, (enterIdle_idleOnly y).lastEnd]

/-! ## The list at a grant's end -/

/-- On an exact list a grant's end adds the holder that is still a member at the newest end (R79). -/
theorem endGrant_waiting {s : State} {g : Grant} (r : EndReason) (hgrant : s.arb.grant = some g)
    (hlist : s.relisted = s.arb.waiting) :
    (endGrant r s).arb.waiting = s.arb.waiting ++ (if s.member g.zone = true then [⟨g.zone, 0⟩] else []) := by
  have hexact : s.listExact := by
    have hsame : relist s = s := by
      unfold relist
      rw [hlist]
    rw [← hsame]
    exact relist_exact s
  rw [State.listExact_iff] at hexact
  have hholds : ∀ z, s.holds z = decide (g.zone = z) := by
    intro z
    simp [State.holds, hgrant]
  have hstays : s.arb.waiting.filter (fun w => s.member w.zone && !false) = s.arb.waiting := by
    refine List.filter_eq_self.2 fun w hw => ?_
    have hmember := (s.onList_iff w.zone).2 ⟨w, hw, rfl⟩
    rw [hexact, Bool.and_eq_true] at hmember
    rw [hmember.1]
    rfl
  have hjoins : (Zone.all.filter fun z => s.member z && !false && !s.onList z) =
      if s.member g.zone = true then [g.zone] else [] := by
    have hcond : ∀ z, (s.member z && !false && !s.onList z) = (s.member g.zone && decide (g.zone = z)) := by
      intro z
      rw [hexact, hholds]
      by_cases hz : g.zone = z
      · subst hz
        cases s.member g.zone <;> simp
      · cases s.member z <;> simp [hz]
    simp only [hcond]
    cases s.member g.zone <;> cases g.zone <;> rfl
  rw [endGrant_some r hgrant]
  show s.arb.waiting.filter (fun w => s.member w.zone && !false) ++
    (Zone.all.filter fun z => s.member z && !false && !s.onList z).map (fun z => (⟨z, 0⟩ : Waiting)) = _
  rw [hstays, hjoins]
  cases s.member g.zone <;> rfl

theorem endGrant_route {s : State} {g : Grant} (r : EndReason) (hgrant : s.arb.grant = some g) :
    (endGrant r s).route = { s.route with app := none } := by rw [endGrant_some r hgrant]; rfl

theorem endGrant_lastEnd {s : State} {g : Grant} (r : EndReason) (hgrant : s.arb.grant = some g) :
    (endGrant r s).arb.lastEnd = some ⟨g.zone, r⟩ := (endGrant_spec r s).2 g hgrant

theorem endGrant_pointers (r : EndReason) (s : State) :
    (endGrant r s).arb.p1 = s.arb.p1 ∧ (endGrant r s).arb.p2 = s.arb.p2 := by
  unfold endGrant
  split <;> exact ⟨rfl, rfl⟩

theorem endGrant_lastRoute {s : State} {g : Grant} (r : EndReason) (hgrant : s.arb.grant = some g) :
    (endGrant r s).arb.lastRoute = s.route.app.map RouteApp.zone := by rw [endGrant_some r hgrant]; rfl

/-- After a grant's end the winner of the next selection is that of the list as the end left it. -/
theorem winner_of_exact {s : State} (h : s.listExact) : s.winner = (normalise s).selection none := by
  unfold State.winner
  rw [relist_of_exact h]

/-! ## The basis of what an ended grant makes way for -/

/-- The state in which the selection after an end of `s`'s grant is made. -/
theorem grantBasis_of_end {s : State} {g : Grant} (r : EndReason) {t : State} (hgrant : t.arb.grant = some g)
    (harc : ArcOnly s t) (hclaim : t.arb.claim = s.arb.claim) (hp1 : t.arb.p1 = s.arb.p1) (hp2 : t.arb.p2 = s.arb.p2)
    (hroute : t.route = s.route) : s.grantBasis (normalise (endGrant r t)) := by
  have h : ArcOnly s (normalise (endGrant r t)) := (harc.trans (endGrant_arc r t)).trans (normalise_arc _)
  obtain ⟨hq1, hq2⟩ := endGrant_pointers r t
  refine ⟨h.settings, h.sensing, h.doors, ?_, ?_, ?_, ?_⟩
  · rw [normalise_claim, endGrant_claim, hclaim]
  · exact (normalise_congr ((harc.trans (endGrant_arc r t)).settings) (hq1.trans hp1) (hq2.trans hp2)).2
  · rw [normalise_route, endGrant_route r hgrant, hroute]
  · rw [normalise_route, endGrant_route r hgrant, hroute]

theorem idleBasis_of_end {s : State} {g : Grant} (r : EndReason) (hrun : s.mode.opState = .run)
    (hgrant : s.arb.grant = some g) : s.idleBasis (normalise (endGrant r (relist s))) := by
  have h : ArcOnly s (normalise (endGrant r (relist s))) :=
    ((relist_arc s).trans (endGrant_arc r _)).trans (normalise_arc _)
  have hroute : (normalise (endGrant r (relist s))).route = { s.route with app := none } := by
    rw [normalise_route, endGrant_route (s := relist s) r hgrant]
    rfl
  refine ⟨by rw [h.mode, hrun], h.settings, ?_, ?_, by rw [hroute], by rw [hroute], by rw [hroute], by rw [hroute]⟩
  · rw [normalise_comp, endGrant_comp]
    rfl
  · rw [normalise_grant, endGrant_grant]

/-! ## The end -/

theorem createGrant_lastEnd (z : Zone) (r : GrantReason) (s : State) : (createGrant z r s).arb.lastEnd = s.arb.lastEnd := by
  rw [createGrant_arb]

/-- The start of COOLING and what stands before it leave the recorded end. -/
theorem settle_lastEnd (s : State) : (settle s).arb.lastEnd = (arbitrate s).arb.lastEnd := by
  rw [settle_eq]
  rcases coolingStart_grant_cases (passBody (arbitrate s)) with h | ⟨g, -, -, -, harb, -⟩
  · rw [h, passBody_arb]
  · rw [harb, passBody_arb]

/-- An arbitration in RUN that creates a grant decides the event (with a sound claim): what is made stands after it. -/
theorem finish_created {s x y : State} {z : Zone} {r : GrantReason} (hphase : x.defrost.phase ≠ .pending)
    (hsound : x.claimSound) (hrun : x.mode.opState = .run) (h : arbitrate x = createGrant z r y)
    (hbasis : s.grantBasis y) : State.grantMade s (finish x) z r ∧ (finish x).arb.lastEnd = y.arb.lastEnd := by
  have hinit : initEnd x = x := initEnd_of_not_init (by rw [hrun]; exact nofun)
  have hmade := settle_grantMade h hbasis
  have hsome : (settle x).arb.grant.isSome = true := by
    obtain ⟨⟨g, hg, -⟩, -⟩ := hmade
    rw [hg]
    rfl
  rw [finish_of_held hphase hsound (.inl (by rw [hinit]; exact hsome)), hinit]
  refine ⟨publish_grantMade hmade, ?_⟩
  rw [publish_arb, settle_lastEnd, h, createGrant_lastEnd]

/-- What a grant's end with cause `r` is followed by (R79, R80). -/
theorem finish_of_endCause {s : State} {g : Grant} {r : EndReason} (hphase : s.defrost.phase ≠ .pending)
    (hrun : s.mode.opState = .run) (hgrant : s.arb.grant = some g) (hend : s.endCause g = some r) :
    (∀ z q, (endGrant r (relist s)).winner = some (z, q) →
        (finish s).arb.lastEnd = some ⟨g.zone, r⟩ ∧ State.grantMade s (finish s) z q) ∧
      ((endGrant r (relist s)).winner = none →
        (finish s).arb.lastEnd = some ⟨g.zone, r⟩ ∧ State.idleEntered s (finish s)) := by
  have hsound : s.claimSound := by
    intro g' hg' hnone
    obtain rfl := Option.some.inj (hgrant.symm.trans hg')
    rw [hend] at hnone
    cases hnone
  have hrelist : (relist s).arb.grant = some g := hgrant
  have harbitrate : arbitrate s = afterEnd (endGrant r (relist s)) := by
    rw [arbitrate_run_some hrun hgrant]
    rcases heldGrant_cases g (relist s) with ⟨r', hr', h⟩ | ⟨hno, -⟩
    · obtain rfl := Option.some.inj (hr'.symm.trans hend)
      exact h
    · exact absurd (hno.symm.trans hend) (by simp)
  have hwinner := winner_of_exact (endGrant_listExact r (relist_exact s))
  have hlastEnd : (normalise (endGrant r (relist s))).arb.lastEnd = some ⟨g.zone, r⟩ := by
    rw [normalise_lastEnd, endGrant_lastEnd r hrelist]
  refine ⟨fun z q hw => ?_, fun hw => ?_⟩
  · rw [hwinner] at hw
    rcases afterEnd_cases (endGrant r (relist s)) with ⟨z', q', hw', h⟩ | ⟨hw', -⟩
    · obtain ⟨rfl, rfl⟩ := Prod.mk.inj (Option.some.inj (hw'.symm.trans hw))
      obtain ⟨hmade, hlast⟩ := finish_created hphase hsound hrun (harbitrate.trans h)
        (grantBasis_of_end r hrelist (relist_arc s) rfl rfl rfl rfl)
      exact ⟨hlast.trans hlastEnd, hmade⟩
    · exact absurd (hw'.symm.trans hw) (by simp)
  · rw [hwinner] at hw
    rcases afterEnd_cases (endGrant r (relist s)) with ⟨z', q', hw', -⟩ | ⟨-, h⟩
    · exact absurd (hw'.symm.trans hw) (by simp)
    · obtain ⟨hentered, hlast⟩ := finish_idleEntered hphase hsound hrun (harbitrate.trans h)
        (idleBasis_of_end r hrun hgrant)
        (by rw [normalise_route, endGrant_route r hrelist])
        (by
          rw [normalise_eq]
          exact endGrant_lastRoute r hrelist)
      exact ⟨hlast.trans hlastEnd, hentered⟩

/-! ## The grant that goes on -/

theorem relist_endCause (s : State) (g : Grant) : (relist s).endCause g = s.endCause g := rfl

/-- In the list as R56 has it, a zone that waited and does not hold the grant waits (R57). -/
theorem relist_waitingSelectable {s : State} {z : Zone} (hwaits : s.waitingSelectable z = true)
    (hother : ∀ g, s.arb.grant = some g → g.zone ≠ z) : (relist s).waitingSelectable z = true := by
  have hholds : (relist s).holds z = false := by
    rw [← Bool.not_eq_true, State.holds_iff]
    rintro ⟨g, hg, hz⟩
    exact hother g hg hz
  rw [State.waitingSelectable_of_exact (relist_exact s), hholds]
  have hselectable : (relist s).selectable z = s.selectable z := rfl
  rw [hselectable, ((s.waitingSelectable_iff z).1 hwaits).2]
  rfl

/-- The preemptor of the marked grant is that of the list as it stands. -/
theorem markContinuation_preemptor (s : State) (g : Grant) :
    (markContinuation s).preemptor g = s.preemptor g := preemptor_congr rfl rfl (fun _ => rfl) rfl rfl

section Held
variable {s : State} {g : Grant} (hphase : s.defrost.phase ≠ .pending) (hrun : s.mode.opState = .run)
  (hgrant : s.arb.grant = some g) (hend : s.endCause g = none)
include hphase hrun hgrant hend

/-- A grant that is preempted (R68). -/
theorem finish_of_preempted {z : Zone} {r : GrantReason} (hsound : s.claimSound)
    (hpre : (relist s).preemptor g = some (z, r)) (hable : g.preemptable = true) :
    (finish s).arb.lastEnd = some ⟨g.zone, .preempted⟩ ∧ State.grantMade s (finish s) z r := by
  have hmarked := markContinuation_eq (s := relist s) hgrant
  have harbitrate : arbitrate s = createGrant z r (normalise (endGrant .preempted (markContinuation (relist s)))) := by
    rw [arbitrate_run_some hrun hgrant]
    rcases heldGrant_cases g (relist s) with ⟨r', hr', -⟩ | ⟨-, ⟨z', r', hp, -, h⟩ | ⟨hno, -⟩⟩
    · exact absurd (hr'.symm.trans hend) (by simp)
    · rw [markContinuation_preemptor, hpre] at hp
      obtain ⟨rfl, rfl⟩ := Prod.mk.inj (Option.some.inj hp)
      exact h
    · rw [markContinuation_preemptor, hpre] at hno
      simp [hable] at hno
  have hheld : (markContinuation (relist s)).arb.grant = some { g with continuation := (relist s).continues g } := by
    rw [hmarked]
  obtain ⟨hmade, hlast⟩ := finish_created hphase hsound hrun harbitrate
    (grantBasis_of_end .preempted hheld ((relist_arc s).trans (markContinuation_arc _)) rfl rfl rfl rfl)
  refine ⟨hlast.trans ?_, hmade⟩
  rw [normalise_lastEnd, endGrant_lastEnd .preempted hheld]

/-- A grant without an end cause that nobody preempts goes on, with its mark (R73). -/
theorem finish_of_kept (hpre : (relist s).preemptor g = none ∨ g.preemptable = false) :
    finish s = publish (settle s) ∧
      arbitrate s =
        { relist s with
          arb := { (relist s).arb with grant := some { g with continuation := s.continues g } } } := by
  have hinit : initEnd s = s := initEnd_of_not_init (by rw [hrun]; exact nofun)
  have harbitrate : arbitrate s = markContinuation (relist s) := by
    rw [arbitrate_run_some hrun hgrant]
    rcases heldGrant_cases g (relist s) with ⟨r', hr', -⟩ | ⟨-, ⟨z', r', hp, hable, -⟩ | ⟨-, h⟩⟩
    · exact absurd (hr'.symm.trans hend) (by simp)
    · rw [markContinuation_preemptor] at hp
      rcases hpre with hpre | hpre
      · exact absurd (hpre.symm.trans hp) (by simp)
      · rw [hpre] at hable
        cases hable
    · exact h
  have hsettled : (settle s).arb.grant.isSome = true := by
    rcases settle_grant s with h | ⟨g', -, -, h⟩
    · rw [h, harbitrate, markContinuation_eq (s := relist s) hgrant]
      rfl
    · rw [h]
      rfl
  have hdecided : (arbitrate s).decided := by
    rw [harbitrate]
    refine markContinuation_decided (relist_exact s) hgrant hend ?_
    rwa [markContinuation_preemptor]
  have hsettle : settle (settle s) = settle s :=
    settle_of_arbitrate (arbitrate_of_decided (settle_decided_of hdecided) (.inl hsettled))
  refine ⟨by rw [finish_of_not_pending hphase, hinit, hsettle], ?_⟩
  rw [harbitrate, markContinuation_eq (s := relist s) hgrant]
  rfl

end Held

end Sys2Proof.Machine
end

section
/-!
PROOFS. How an event ends a grant, goes on with it or preempts it: the statement O44.
-/
namespace Sys2Proof.Machine

/-- The end cause in the order of R72 to R74. -/
theorem State.endCause_eq (s : State) (g : Grant) :
    s.endCause g =
      if s.compAvailable = false then some .compUnavailable
      else if (s.settings.zone.get g.zone).enabled = false ∨ s.held g.zone = true ∨ s.routeAvailable g.zone = false then
        some .ineligible
      else if (s.zones.get g.zone).demand = .satisfied ∧ (g.phase = .routing ∨ g.minLeft = 0) then some .satisfied
      else none := by
  unfold State.endCause
  cases s.compAvailable <;> cases (s.settings.zone.get g.zone).enabled <;> cases s.held g.zone <;>
    cases s.routeAvailable g.zone <;> simp

/-- Without the compressor no zone is selectable, so nobody wins (R59). -/
theorem winner_of_unavailable {s : State} (h : s.compAvailable = false) : s.winner = none := by
  have hcomp : (normalise (relist s)).compAvailable = false := by
    rw [← h]
    exact compAvailable_of_comp (by rw [normalise_comp]; rfl)
  refine (State.selection_none_iff _).2 fun z => ?_
  simp [State.waitingSelectable, State.selectable, hcomp]

theorem State.preemptor_of_claim {s : State} {g : Grant} (hclaim : s.arb.claim = true)
    (hwaits : s.waitingSelectable .freeze = true) (hzone : g.zone ≠ .freeze) :
    s.preemptor g = some (.freeze, .recovery) := by
  unfold State.preemptor
  rw [if_pos (by simp [hclaim, hwaits, hzone])]

theorem State.preemptor_of_forced {s : State} {g : Grant} {f : Forced} (hclaim : s.arb.claim = false)
    (hforced : s.arb.forced = some f) (hwaits : s.waitingSelectable f.zone = true) (hzone : f.zone ≠ g.zone)
    (hreason : g.reason ≠ .recovery) : s.preemptor g = some (f.zone, .forced) := by
  simp [State.preemptor, hclaim, hforced, hwaits, hzone, hreason]

theorem State.preemptor_of_nobody {s : State} {g : Grant} (hclaim : s.arb.claim = false)
    (hforced : s.arb.forced = none) : s.preemptor g = none := by
  simp [State.preemptor, hclaim, hforced]

section Kept
variable {s : State} {g : Grant} (hphase : s.defrost.phase ≠ .pending) (hrun : s.mode.opState = .run)
  (hgrant : s.arb.grant = some g) (hend : s.endCause g = none)
include hphase hrun hgrant hend

/-- A grant in COOLING that goes on stands with its mark. -/
theorem finish_of_kept_cooling (hpre : (relist s).preemptor g = none ∨ g.preemptable = false)
    (hcooling : g.phase = .cooling) :
    (finish s).arb.grant = some { g with continuation := s.continues g } := by
  obtain ⟨hfinish, harbitrate⟩ := finish_of_kept hphase hrun hgrant hend hpre
  rw [hfinish, publish_arb]
  rcases settle_grant s with h | ⟨g', hg', hrouting, -⟩
  · rw [h, harbitrate]
  · rw [harbitrate] at hg'
    obtain rfl := Option.some.inj hg'
    rw [hcooling] at hrouting
    cases hrouting

/-- A grant that goes on keeps the recorded end and its route application, marked where it is in place. -/
theorem finish_of_kept_route (hpre : (relist s).preemptor g = none ∨ g.preemptable = false) :
    (finish s).arb.lastEnd = s.arb.lastEnd ∧
      ∀ a, s.route.app = some a →
        (finish s).route.app =
          some
            { a with
              inPlace :=
                a.inPlace ||
                  ((finish s).route.valve.isAt (if a.zone = .fresh then .fr else .fz) &&
                    (finish s).dampersConfirmed a.zone) } := by
  obtain ⟨hfinish, harbitrate⟩ := finish_of_kept hphase hrun hgrant hend hpre
  have harc : ArcOnly s (settle s) := settle_arc s
  have hroute : (arbitrate s).route = s.route := by rw [harbitrate]; rfl
  refine ⟨?_, fun a ha => ?_⟩
  · rw [hfinish, publish_arb, settle_lastEnd, harbitrate]
    rfl
  · have hdampers : (publish (settle s)).route.dampers = s.route.dampers := by
      rw [publish_dampers, settle_dampers, hroute]
    have hconfirmed : (publish (settle s)).dampersConfirmed a.zone = s.dampersConfirmed a.zone := by
      unfold State.dampersConfirmed
      rw [hdampers, publish_bus, harc.bus]
    have hconfirmed' : (arbitrate s).dampersConfirmed a.zone = s.dampersConfirmed a.zone :=
      (arbitrate_arc s).dampersConfirmed (by rw [hroute]) a.zone
    have houtlet : outletOf a.zone = if a.zone = .fresh then .fr else .fz := by cases a.zone <;> rfl
    rw [hfinish, publish_app, publish_valve, settle_app, passBody_app, settle_valve, hroute, ha, hconfirmed,
      ← houtlet, ← hconfirmed']
    rfl

/-- A grant in ROUTING that goes on begins COOLING with its route in place and the compressor commanded on (R70, R71, R108). -/
theorem finish_of_kept_routing (hpre : (relist s).preemptor g = none ∨ g.preemptable = false)
    (hrouting : g.phase = .routing) (hspeed : 0 < s.settings.comp.nMin) :
    ∃ h, (finish s).arb.grant = some h ∧ h.zone = g.zone ∧ h.reason = g.reason ∧
      (h.phase = .cooling ↔
        (∃ a, (finish s).route.app = some a ∧ a.inPlace = true) ∧ (finish s).comp.command ≠ 0) ∧
      (h.phase = .routing → h = { g with continuation := false }) ∧
      (h.phase = .cooling →
        h =
            { g with
              phase := .cooling
              minLeft := (s.settings.timing.get g.zone).minDwell * 60 * 9600
              maxLeft := (s.settings.timing.get g.zone).maxDwell * 60 * 9600
              startTemp := (s.sensing.air.get g.zone).filtered
              continuation := false } ∧
          State.preChillStarted s (finish s) g.zone
            (if g.zone = .fresh then s.route.preFreezer else s.route.preFresh)) := by
  obtain ⟨hfinish, harbitrate⟩ := finish_of_kept hphase hrun hgrant hend hpre
  have hcontinues : s.continues g = false := by simp [State.continues, hrouting]
  rw [hcontinues] at harbitrate
  have harc : ArcOnly s (passBody (arbitrate s)) := (arbitrate_arc s).trans (passBody_arc _)
  have hheld : (passBody (arbitrate s)).arb.grant = some { g with continuation := false } := by
    rw [passBody_arb, harbitrate]
  have hroute : (arbitrate s).route = s.route := by rw [harbitrate]; rfl
  obtain ⟨hfreezer, hfresh⟩ := passBody_preChill (arbitrate s)
  rw [hroute] at hfreezer hfresh
  have happ := settle_app s
  rw [hfinish]
  rcases coolingStart_route_cases (passBody (arbitrate s)) with hstay | ⟨g', a, hg', ha, -, hplace, hon, hcarb, hcroute, hcomp⟩
  · have hsettle : settle s = passBody (arbitrate s) := by rw [settle_eq, hstay]
    refine ⟨{ g with continuation := false }, by rw [publish_arb, hsettle, hheld], rfl, rfl, ?_, fun _ => rfl,
      fun h => ?_⟩
    · refine iff_of_false (by simp [hrouting]) ?_
      rintro ⟨⟨a, ha, hplace⟩, hon⟩
      rw [publish_app, hsettle] at ha
      rw [publish_command, hsettle] at hon
      have hstart : coolingStart (passBody (arbitrate s)) = passBody (arbitrate s) := hstay
      have hcooled : (coolingStart (passBody (arbitrate s))).arb.grant ≠ (passBody (arbitrate s)).arb.grant := by
        unfold coolingStart
        simp only [hheld, ha]
        rw [if_pos (by simp [hrouting, hplace, State.commandedOn, hon]), startPreChill_arb, arb_recompute]
        simp [hrouting]
      exact hcooled (by rw [hstart])
    · rw [show ({ g with continuation := false } : Grant).phase = g.phase from rfl, hrouting] at h
      cases h
  · obtain rfl := Option.some.inj (hheld.symm.trans hg')
    refine ⟨(passBody (arbitrate s)).cooled { g with continuation := false }, by rw [publish_arb, settle_eq, hcarb], rfl,
      rfl, ?_, fun h => (by cases h), fun _ => ⟨?_, ?_⟩⟩
    · refine iff_of_true rfl ⟨⟨a, ?_, hplace⟩, ?_⟩
      · rw [publish_app, happ, ha]
      · rw [publish_command, settle_eq, hcomp]
        refine recompute_command_pos (by simpa [State.commandedOn] using hon) ?_
        have hmode : (passBody (arbitrate s)).mode.opState = .run := by rw [harc.mode, hrun]
        have hsettings : (passBody (arbitrate s)).settings = s.settings := harc.settings
        simp only [State.targetSpeed, hmode, hsettings, State.cooled]
        exact lt_of_lt_of_le hspeed (le_max_left _ _)
    · unfold State.cooled
      rw [harc.settings, harc.sensing]
      simp [mins, Nat.mul_assoc]
    · have hbegun := State.preChillBegun_congr harc.sensing g.zone
      have hpublish : ∀ t : State, (publish t).route.preFreezer = t.route.preFreezer ∧
          (publish t).route.preFresh = t.route.preFresh := fun t => ⟨rfl, rfl⟩
      unfold State.preChillStarted
      rw [(hpublish _).1, (hpublish _).2, settle_eq, hcroute, ← hbegun]
      cases g.zone <;> exact ⟨by simp [Route.setPreChill, Zone.fan, hfreezer], by simp [Route.setPreChill, Zone.fan, hfresh]⟩

end Kept

/-- Settles O44: the end, the preemption and the going on of the grant that an event finds. -/
theorem grantEnds : Obligations.GrantEnds := by
  intro s g hrun hgrant hphase
  refine ⟨fun hno => ?_, fun r => ⟨endGrant_grant r s, endGrant_lastEnd r hgrant, endGrant_route r hgrant,
    endGrant_waiting r hgrant, finish_of_endCause hphase hrun hgrant⟩, s.endCause_eq g, fun hyes henabled hheld hroute => ?_⟩
  · have hend : s.endCause g = some .compUnavailable := by rw [s.endCause_eq, if_pos hno]
    refine (finish_of_endCause hphase hrun hgrant hend).2 (winner_of_unavailable ?_)
    rw [← hno]
    exact compAvailable_of_comp (by rw [endGrant_comp]; rfl)
  · have hnoEnd : ∀ _ : ¬((s.zones.get g.zone).demand = .satisfied ∧ (g.phase = .routing ∨ g.minLeft = 0)),
        s.endCause g = none := fun h => (s.endCause_none_iff g).2 ⟨hyes, henabled, hheld, hroute, h⟩
    have hlong : ∀ {d}, (s.zones.get g.zone).demand = d → g.phase = .cooling → g.minLeft ≠ 0 →
        (finish s).arb.grant = some { g with continuation := s.continues g } := by
      intro d _ hcooling hleft
      exact finish_of_kept_cooling hphase hrun hgrant (hnoEnd (by simp [hcooling, hleft]))
        (.inr (by simp [Grant.preemptable, hcooling, hleft])) hcooling
    refine ⟨fun hdemand hcooling hleft => ?_, fun hdemand hcooling hleft => ?_, fun hdemand hable => ?_⟩
    · rw [hlong hdemand hcooling hleft]
      simp [State.continues, hcooling, hdemand]
    · rw [hlong hdemand hcooling hleft]
      simp [State.continues, hdemand]
    · have hend : s.endCause g = none := hnoEnd (by simp [hdemand])
      have hable' : g.preemptable = true := by simpa [Grant.preemptable] using hable
      have hcontinues : s.continues g = false := by simp [State.continues, hdemand]
      refine ⟨fun hclaim hwaits hzone => ?_, fun hclaim f hforced hwaits hzone hreason => ?_,
        fun hclaim hforced => ?_⟩
      · refine finish_of_preempted hphase hrun hgrant hend ?_ (State.preemptor_of_claim hclaim
          (relist_waitingSelectable hwaits fun g' hg' => ?_) hzone) hable'
        · intro g' hg' _ _ hz
          obtain rfl := Option.some.inj (hgrant.symm.trans hg')
          exact absurd hz hzone
        · obtain rfl := Option.some.inj (hgrant.symm.trans hg')
          exact hzone
      · refine finish_of_preempted hphase hrun hgrant hend (State.claimSound_of_noClaim hclaim)
          (State.preemptor_of_forced hclaim hforced (relist_waitingSelectable hwaits fun g' hg' => ?_) hzone hreason) hable'
        obtain rfl := Option.some.inj (hgrant.symm.trans hg')
        exact hzone.symm
      · have hpre : (relist s).preemptor g = none ∨ g.preemptable = false :=
          .inl (State.preemptor_of_nobody hclaim hforced)
        obtain ⟨hlast, happ⟩ := finish_of_kept_route hphase hrun hgrant hend hpre
        refine ⟨hlast, ?_⟩
        have hphases : g.phase = .cooling ∨ g.phase = .routing := by cases g.phase <;> simp
        rcases hphases with hg | hg
        · have hkept := finish_of_kept_cooling hphase hrun hgrant hend hpre hg
          rw [hcontinues] at hkept
          exact ⟨_, hkept, rfl, rfl, fun _ => rfl, fun h => absurd (hg.symm.trans h) (by simp), happ⟩
        · refine Nat.eq_zero_or_pos s.settings.comp.nMin |>.elim (fun hzero => ?_) fun hspeed => ?_
          · have hsettled : ∃ h, (finish s).arb.grant = some h ∧ h.zone = g.zone ∧ h.reason = g.reason := by
              obtain ⟨hfinish, harbitrate⟩ := finish_of_kept hphase hrun hgrant hend hpre
              rw [hfinish, publish_arb]
              rcases settle_grant s with h | ⟨g', hg', -, h⟩
              · rw [h, harbitrate]
                exact ⟨_, rfl, rfl, rfl⟩
              · rw [harbitrate] at hg'
                obtain rfl := Option.some.inj hg'
                rw [h]
                exact ⟨_, rfl, rfl, rfl⟩
            obtain ⟨h, hg', hz, hr⟩ := hsettled
            exact ⟨h, hg', hz, hr, fun hc => absurd (hg.symm.trans hc) (by simp), fun _ hpos => absurd hzero (Nat.ne_of_gt hpos), happ⟩
          · obtain ⟨h, hg', hz, hr, hiff, hstay, hbegin⟩ :=
              finish_of_kept_routing hphase hrun hgrant hend hpre hg hspeed
            exact ⟨h, hg', hz, hr, fun hc => absurd (hg.symm.trans hc) (by simp), fun _ _ => ⟨hiff, hstay, hbegin⟩, happ⟩

end Sys2Proof.Machine
end

section
/-!
PROOFS. The end of INIT and the arbiter's timers (statements O25, O45).
-/
namespace Sys2Proof.Machine

/-! ## The pointers and the selection of a normalised state -/

theorem normaliseP1_of_done {s : State} (h : ∀ z, s.arb.p1 = some (.zone z) → s.settings.level.get z ≠ .group) :
    normaliseP1 s = s := by
  unfold normaliseP1
  split
  · rename_i z hz
    exact if_neg (h z hz)
  · rfl

theorem normaliseP2_of_done {s : State} (h : ∀ z, s.arb.p2 = some z → s.settings.level.get z ≠ .l1) :
    normaliseP2 s = s := by
  unfold normaliseP2
  split
  · rename_i z hz
    exact if_neg (h z hz)
  · rfl

/-- After the moves of R62 each pointer names a zone of its own ring. -/
theorem normalise_done (s : State) :
    (∀ z, (normalise s).arb.p2 = some z → (normalise s).settings.level.get z ≠ .l1) ∧
      ∀ z, (normalise s).arb.p1 = some (.zone z) → (normalise s).settings.level.get z ≠ .group := by
  have hp2 : ∀ z, (normaliseP2 s).arb.p2 = some z → s.settings.level.get z ≠ .l1 := by
    intro z
    rw [normaliseP2_eq]
    dsimp only
    cases s.arb.p2 with
    | none => exact nofun
    | some y =>
      dsimp only
      split
      · exact nofun
      · rintro ⟨rfl⟩
        assumption
  have hsettings : (normaliseP2 s).settings = s.settings := by rw [normaliseP2_eq]
  rw [(normalise_arc s).settings]
  unfold normalise normaliseP1
  split
  · rename_i y hy
    split
    · rename_i hgroup
      rw [hsettings] at hgroup
      refine ⟨?_, nofun⟩
      rintro z ⟨rfl⟩
      rw [hgroup]
      exact nofun
    · rename_i hgroup
      rw [hsettings] at hgroup
      refine ⟨hp2, fun z hz => ?_⟩
      obtain rfl := Turn.zone.inj (Option.some.inj (hy.symm.trans hz))
      exact hgroup
  · rename_i hno
    exact ⟨hp2, fun z hz => absurd hz (hno z)⟩

theorem normalise_normalise (s : State) : normalise (normalise s) = normalise s := by
  obtain ⟨hp2, hp1⟩ := normalise_done s
  rw [normalise, normaliseP2_of_done hp2, normaliseP1_of_done hp1]

/-- The selection looks at the settings, the list, the claim, the forced record, the pointers and who is selectable. -/
theorem selection_congr {s t : State} (hsettings : t.settings = s.settings) (hwaiting : t.arb.waiting = s.arb.waiting)
    (hclaim : t.arb.claim = s.arb.claim) (hforced : t.arb.forced = s.arb.forced) (hp1 : t.arb.p1 = s.arb.p1)
    (hp2 : t.arb.p2 = s.arb.p2) (hselectable : ∀ z, t.selectable z = s.selectable z) (holder : Option Zone) :
    t.selection holder = s.selection holder := by
  have hsame : t.selectable = s.selectable := funext hselectable
  have hwaits : t.waitingSelectable = s.waitingSelectable := by
    funext z
    unfold State.waitingSelectable State.onList
    rw [hwaiting, hsame]
  have haged : t.aged = s.aged := by
    funext w
    unfold State.aged
    rw [hsettings]
  have hrotation : t.rotation = s.rotation := by
    unfold State.rotation State.ring1 State.ring2
    rw [hsettings, hp1, hp2, hwaits]
  unfold State.selection State.candidate
  rw [hclaim, hforced, hwaiting, hsame, hwaits, haged, hrotation]

/-! ## The end of INIT -/

theorem finish_mode_eq (s : State) : (finish s).mode = (initEnd s).mode := by
  rw [finish_eq_settle, publish_mode, (settle_arc _).mode, (pendingTest_only _).mode, (settle_arc _).mode]

/-- INIT ends with the valve homed and at CLOSED and the air channels settled (R198). -/
theorem initEnd_of_done {s : State} (hmode : s.mode.opState = .init) (hhomed : s.homedClosed = true)
    (hsettled : s.airSettled = true) :
    initEnd s =
      normalise { s with mode := { s.mode with opState := .run }, arb := { s.arb with idle := some .parked } } := by
  unfold initEnd
  rw [if_pos (by simp [hmode, hhomed, hsettled])]

theorem State.homedClosed_iff (s : State) :
    s.homedClosed = true ↔
      s.route.valve.homed = true ∧ s.route.valve.counter = 16 ∧ s.route.valve.move = none ∧
        s.route.valve.drive = none ∧ s.route.valve.homing = .none := by
  have hcounter : ValvePos.closed.counter = 16 := rfl
  simp only [State.homedClosed, Valve.isAt, Bool.and_eq_true, Option.isNone_iff_eq_none, decide_eq_true_eq, hcounter]
  tauto

theorem State.airSettled_iff (s : State) :
    s.airSettled = true ↔ ∀ z, s.present z = true → (s.sensing.air.get z).state ≠ .starting := by
  have hall : ∀ z, z ∈ Zone.all := by
    intro z
    cases z <;> decide
  simp only [State.airSettled, List.all_eq_true, Bool.or_eq_true, Bool.not_eq_true', decide_eq_true_eq]
  constructor
  · intro h z hz
    rcases h z (hall z) with hno | hs
    · rw [hz] at hno
      cases hno
    · exact hs
  · intro h z _
    cases hz : s.present z with
    | false => exact .inl rfl
    | true => exact .inr (h z hz)

/-- The winner of the first selection is that of the state before INIT ends: the operating state and the idle sub-state do not
enter into it. -/
theorem initEnd_winner {s : State} (h : initEnd s =
    normalise { s with mode := { s.mode with opState := .run }, arb := { s.arb with idle := some .parked } }) :
    (normalise (relist (initEnd s))).selection none = s.winner := by
  have hpointers := normalise_congr (s := normalise s)
    (t := relist (normalise
      { s with mode := { s.mode with opState := .run }, arb := { s.arb with idle := some .parked } }))
  have hfirst := normalise_congr (s := s)
    (t := { s with mode := { s.mode with opState := .run }, arb := { s.arb with idle := some .parked } }) rfl rfl rfl
  have hlist := normalise_congr (s := s) (t := relist s) rfl rfl rfl
  have hsettings : ∀ x : State, (normalise x).settings = x.settings := fun x => (normalise_arc x).settings
  obtain ⟨hp1, hp2⟩ := hpointers (by
    show (normalise _).settings = _
    rw [hsettings, hsettings]) hfirst.1 hfirst.2
  rw [normalise_normalise] at hp1 hp2
  rw [h]
  unfold State.winner
  have hmember : ∀ x : State, (normalise x).relisted = x.relisted := by
    intro x
    rw [normalise_eq]
    rfl
  refine selection_congr ?_ ?_ ?_ ?_ (hp1.trans hlist.1.symm) (hp2.trans hlist.2.symm) (fun z => ?_) none
  · rw [hsettings, hsettings]
    exact hsettings _
  · rw [normalise_waiting, normalise_waiting]
    exact hmember _
  · rw [normalise_claim, normalise_claim]
    exact normalise_claim _
  · rw [normalise_forced, normalise_forced]
    exact normalise_forced _
  · rw [normalise_eq (relist _), normalise_eq { s with mode := _, arb := _ }, normalise_eq (relist s)]
    rfl

/-- Settles O25: the end of INIT and the selection at it, and INIT going on. -/
theorem initEnds : Obligations.InitEnds := by
  rintro s f rfl hmode
  refine ⟨?_, fun hgrant hopen => ?_⟩
  · rintro ⟨hhomed, hcounter, hmove, hdrive, hhoming, hair⟩
    have hinit := initEnd_of_done hmode
      (s.homedClosed_iff.2 ⟨hhomed, hcounter, hmove, hdrive, hhoming⟩) (s.airSettled_iff.2 hair)
    have hrun : (initEnd s).mode = { s.mode with opState := .run } := by
      rw [hinit, (normalise_arc _).mode]
    refine ⟨by rw [finish_mode_eq, hrun], fun hgrant hask hmoves hphase => ?_⟩
    have hrun' : (initEnd s).mode.opState = .run := by rw [hrun]
    have hnone : (initEnd s).arb.grant = none := by rw [hinit, normalise_grant, hgrant]
    have hidle : (initEnd s).arb.idle = some .parked := by rw [hinit, normalise_idle]
    have hroute : (initEnd s).route = s.route := by rw [hinit, normalise_route]
    have hsound : s.claimSound := State.claimSound_of_noGrant hgrant
    have hwinner := initEnd_winner hinit
    have harbitrate := arbitrate_run_none hrun' hnone
    refine ⟨fun hw => ?_, fun z r hw => ?_⟩
    · have hstays : arbitrate (initEnd s) = relist (initEnd s) := by
        rw [harbitrate]
        rcases noGrant_cases (relist (initEnd s)) with ⟨z, r, hw', -⟩ | ⟨-, h⟩
        · rw [hwinner, hw] at hw'
          cases hw'
        · have hrunout : runoutEnd (relist (initEnd s)) = relist (initEnd s) :=
            runoutEnd_of_lasts fun hr => absurd (hidle.symm.trans hr) (by simp)
          rw [h, hrunout, rehomeTest_of_done]
          rintro ⟨-, hmany, -⟩
          rw [relist_route, hroute] at hmany
          exact absurd hmoves (not_lt.2 hmany)
      have harb := settle_arb_of_idle (s := initEnd s) (by rw [hstays]; exact hnone)
      rw [hstays] at harb
      have hgrant' : (settle (initEnd s)).arb.grant = none := by
        rw [harb]
        exact hnone
      have hidle' : (settle (initEnd s)).arb.idle = some .parked := by
        rw [harb]
        exact hidle
      rw [finish_of_idle hphase hsound hrun' hgrant' (fun hr => absurd (hidle'.symm.trans hr) (by simp))]
      exact ⟨hgrant', hidle'⟩
    · have hcreated : arbitrate (initEnd s) = createGrant z r (normalise (relist (initEnd s))) := by
        rw [harbitrate]
        rcases noGrant_cases (relist (initEnd s)) with ⟨z', r', hw', h⟩ | ⟨hw', -⟩
        · rw [hwinner, hw] at hw'
          obtain ⟨rfl, rfl⟩ := Prod.mk.inj (Option.some.inj hw')
          exact h
        · rw [hwinner, hw] at hw'
          cases hw'
      have hbasis : s.grantBasis (normalise (relist (initEnd s))) := by
        have harc := (relist_arc (initEnd s)).trans (normalise_arc _)
        have hsettings : (initEnd s).settings = s.settings := by rw [initEnd_eq]
        refine ⟨harc.settings.trans hsettings, ?_, ?_, ?_, ?_, ?_, ?_⟩
        · rw [harc.sensing, initEnd_eq]
        · rw [harc.doors, initEnd_eq]
        · rw [normalise_claim]
          show (initEnd s).arb.claim = _
          rw [initEnd_eq]
        · have hfirst := normalise_congr (s := s)
            (t := { s with mode := { s.mode with opState := .run }, arb := { s.arb with idle := some .parked } })
            rfl rfl rfl
          have hagain := normalise_congr (s := normalise s) (t := relist (initEnd s))
            (hsettings.trans (normalise_arc s).settings.symm) (by rw [hinit]; exact hfirst.1) (by rw [hinit]; exact hfirst.2)
          rw [hagain.2, normalise_normalise]
        · rw [normalise_route, relist_route, hroute]
        · rw [normalise_route, relist_route, hroute]
      have hmade := settle_grantMade hcreated hbasis
      have hsome : (settle (initEnd s)).arb.grant.isSome = true := by
        obtain ⟨⟨g, hg, -⟩, -⟩ := hmade
        rw [hg]
        rfl
      rw [finish_of_held hphase hsound (.inl hsome)]
      exact publish_grantMade hmade
  · have hstay : initEnd s = s := by
      refine initEnd_of_open ?_
      rcases hopen with h | h | h | ⟨z, hz, h⟩
      · exact .inl (Bool.eq_false_iff.2 fun hh => by simp [(s.homedClosed_iff.1 hh).1] at h)
      · exact .inl (Bool.eq_false_iff.2 fun hh => h (s.homedClosed_iff.1 hh).2.1)
      · exact .inl (homedClosed_of_homing h)
      · exact .inr (Bool.eq_false_iff.2 fun hh => s.airSettled_iff.1 hh z hz h)
    have hnot : s.mode.opState ≠ .run := by rw [hmode]; exact nofun
    exact ⟨finish_mode_outside hnot hstay, finish_grant_outside hnot hstay hgrant, finish_idle_outside hnot hstay⟩

/-! ## The arbiter's timers -/

/-- FRESH's record is none that the DEFROST hold touches (R9(a)). -/
theorem Changes.freshZone {s t : State} (h : Changes s t) : t.zones.get .fresh = s.zones.get .fresh := by
  refine h.keeps (P := fun t => t.zones.get .fresh = s.zones.get .fresh) ?_ rfl
  intro t u hchange ht
  cases hchange with
  | recompute =>
    rw [(recompute_arc t).zones]
    exact ht
  | _ => exact ht

/-- The defrost controller's test acts with no grant at the FZ outlet alone, so it brings no holder an end. -/
theorem pendingTest_endCause {s : State} {g : Grant} (hgrant : s.arb.grant = some g) :
    (pendingTest s).endCause g = s.endCause g := by
  by_cases h : s.defrost.phase = .pending ∧ s.fzGrant = false
  · have hfresh : g.zone = .fresh := by
      obtain ⟨-, hno⟩ := h
      unfold State.fzGrant at hno
      rw [hgrant] at hno
      cases hz : g.zone <;> simp_all [Zone.fzOutlet]
    have honly := pendingTest_only s
    have hzone := (pendingTest_changes s).freshZone
    unfold State.endCause State.compAvailable State.held State.routeAvailable
    rw [honly.comp, honly.settings, honly.bus, hfresh, hzone]
  · have hsame : pendingTest s = s := by
      unfold pendingTest
      refine if_neg fun hcond => h ?_
      simp only [Bool.and_eq_true, decide_eq_true_eq, Bool.not_eq_true'] at hcond
      exact hcond.1
    rw [hsame]

/-- What an event brings a holder without an end cause: its mark, or a preemption that leaves no idle sub-state. -/
theorem arbitrate_idle_of_held {s : State} {g : Grant} (hrun : s.mode.opState = .run) (hgrant : s.arb.grant = some g)
    (hend : s.endCause g = none) : (arbitrate s).arb.idle = s.arb.idle ∨ (arbitrate s).arb.idle = none := by
  rw [arbitrate_run_some hrun hgrant]
  rcases heldGrant_cases g (relist s) with ⟨r, hr, -⟩ | ⟨-, ⟨z, r, -, -, h⟩ | ⟨-, h⟩⟩
  · exact absurd (hr.symm.trans hend) (by simp)
  · rw [h, createGrant_arb]
    exact .inr rfl
  · rw [h]
    exact .inl rfl

/-- Without a grant and outside RUNOUT the arbitration enters no PARK_DELAY: it grants, or PARKED and REHOME alternate. -/
theorem arbitrate_idle_of_noGrant {s : State} (hrun : s.mode.opState = .run) (hgrant : s.arb.grant = none)
    (hrunout : s.arb.idle ≠ some .runout) (hdelay : s.arb.idle ≠ some .parkDelay) :
    (arbitrate s).arb.grant.isSome = true ∧ (arbitrate s).arb.idle = none ∨
      (arbitrate s).arb.grant = none ∧ (arbitrate s).arb.idle ≠ some .runout ∧
        (arbitrate s).arb.idle ≠ some .parkDelay := by
  rw [arbitrate_run_none hrun hgrant]
  rcases noGrant_cases (relist s) with ⟨z, r, -, h⟩ | ⟨-, h⟩
  · rw [h, createGrant_arb]
    exact .inl ⟨rfl, rfl⟩
  · have hstay : runoutEnd (relist s) = relist s := runoutEnd_of_lasts fun hr => absurd hr hrunout
    rw [h, hstay]
    refine .inr ⟨?_, ?_⟩
    · rw [(rehomeTest_idleOnly _).grant]
      exact hgrant
    · unfold rehomeTest
      split
      · exact ⟨by simp [kickValve, State.mapValve], by simp [kickValve, State.mapValve]⟩
      · exact ⟨hrunout, hdelay⟩

/-- From PARKED or a rehome without a grant no event enters PARK_DELAY. -/
theorem finish_idle_of_parked {s : State} (hgrant : s.arb.grant = none) (hrunout : s.arb.idle ≠ some .runout)
    (hdelay : s.arb.idle ≠ some .parkDelay) : (finish s).arb.idle ≠ some .parkDelay := by
  by_cases hrun : (initEnd s).mode.opState = .run
  · have hgrant' : (initEnd s).arb.grant = none := by rw [initEnd_eq]; exact hgrant
    have hidle' : (initEnd s).arb.idle ≠ some .runout ∧ (initEnd s).arb.idle ≠ some .parkDelay := by
      unfold initEnd
      split
      · rw [normalise_idle]
        exact ⟨by simp, by simp⟩
      · exact ⟨hrunout, hdelay⟩
    have hdecided := settle_decided (s := initEnd s) (State.claimSound_of_noGrant hgrant')
    have hmode : (pendingTest (settle (initEnd s))).mode.opState = .run := by
      rw [(pendingTest_only _).mode, (settle_arc _).mode, hrun]
    have htest := pendingTest_only (settle (initEnd s))
    have hidle : (pendingTest (settle (initEnd s))).arb.idle = (settle (initEnd s)).arb.idle := by rw [htest.arb]
    rw [finish_eq_settle, publish_arb, settle_idle]
    rcases arbitrate_idle_of_noGrant hrun hgrant' hidle'.1 hidle'.2 with ⟨hsome, hnone⟩ | ⟨hnone, hpark⟩
    · have hheld : (settle (initEnd s)).arb.grant.isSome = true := by
        rcases settle_grant (initEnd s) with h | ⟨g, -, -, h⟩
        · rw [h, hsome]
        · rw [h]
          rfl
      obtain ⟨g, hg⟩ := Option.isSome_iff_exists.1 hheld
      have hend : (pendingTest (settle (initEnd s))).endCause g = none := by
        rw [pendingTest_endCause hg]
        exact ((hdecided.2 (by rw [(settle_arc _).mode, hrun])).1 g hg).1
      rcases arbitrate_idle_of_held hmode (by rw [htest.grant, hg]) hend with h | h
      · rw [h, hidle, settle_idle, hnone]
        exact nofun
      · rw [h]
        exact nofun
    · have hsettled : (settle (initEnd s)).arb = (arbitrate (initEnd s)).arb := settle_arb_of_idle hnone
      have hidleIn : (pendingTest (settle (initEnd s))).arb.idle ≠ some .runout ∧
          (pendingTest (settle (initEnd s))).arb.idle ≠ some .parkDelay := by
        rw [hidle, hsettled]
        exact hpark
      rcases arbitrate_idle_of_noGrant hmode (by rw [htest.grant, hsettled, hnone]) hidleIn.1 hidleIn.2 with
        ⟨-, h⟩ | ⟨-, -, h⟩
      · rw [h]
        exact nofun
      · exact h
  · have hinit : initEnd s = s := by
      unfold initEnd at hrun ⊢
      split
      · rename_i h
        rw [if_pos h, (normalise_arc _).mode] at hrun
        exact absurd rfl hrun
      · rfl
    rw [hinit] at hrun
    rw [finish_idle_outside hrun hinit]
    exact hdelay

/-- The arbitration in RUN with neither a grant nor a winner: the idle sub-state's own moves. -/
theorem arbitrate_of_no_winner {s : State} (hrun : s.mode.opState = .run) (hgrant : s.arb.grant = none)
    (hwinner : s.winner = none) : arbitrate s = rehomeTest (runoutEnd (relist s)) := by
  rw [arbitrate_run_none hrun hgrant]
  rcases noGrant_cases (relist s) with ⟨z, r, hw, -⟩ | ⟨-, h⟩
  · exact absurd (hw.symm.trans hwinner) (by simp)
  · exact h

/-- RUNOUT that has ended gives way to PARK_DELAY (R80, R81, R106). -/
theorem finish_runoutEnded {s : State} (hrun : s.mode.opState = .run) (hgrant : s.arb.grant = none)
    (hphase : s.defrost.phase ≠ .pending) (hwinner : s.winner = none) (hidle : s.arb.idle = some .runout)
    (hended : s.comp.command = 0 ∨ s.minOnMet = true ∨ s.compAvailable = false)
    (hdelay : s.settings.arb.parkDelay ≠ 0) : State.parkDelayEntered s (finish s) := by
  have hinit : initEnd s = s := initEnd_of_not_init (by rw [hrun]; exact nofun)
  have hend : runoutEnd (relist s) = enterParkDelay (relist s) := by
    unfold runoutEnd
    refine if_pos ?_
    have hcond : (!s.commandedOn || s.minOnMet || !s.compAvailable) = true := by
      rcases hended with h | h | h <;> simp [State.commandedOn, h]
    have hidle' : (relist s).arb.idle = some .runout := hidle
    rw [hidle']
    exact hcond
  have hpark : (enterParkDelay (relist s)).arb.idle = some .parkDelay := by
    rw [enterParkDelay_arb (s := relist s) hdelay]
  have harbitrate : arbitrate s = enterParkDelay (relist s) := by
    rw [arbitrate_of_no_winner hrun hgrant hwinner, hend,
      rehomeTest_of_done (State.rehomeDone_of_idle (by rw [hpark]; simp))]
  have hentered := settle_parkDelayEntered (s := s) (x := s) (y := relist s)
    ⟨hrun, rfl, rfl, hgrant, rfl, rfl, rfl, rfl⟩ hdelay (by rw [harbitrate]) (by rw [harbitrate])
    (by rw [harbitrate]; exact Compressor.steady_refl _) ((relist_arc s).trans (by rw [harbitrate]; exact enterParkDelay_arc _))
  rw [finish_of_idle hphase (State.claimSound_of_noGrant hgrant) (by rw [hinit]; exact hrun)
    (by rw [hinit]; exact hentered.1) (by rw [hinit, hentered.2.1]; exact nofun), hinit]
  exact hentered

/-- PARKED with 100 outlet moves begins its rehome (R82, R99). -/
theorem finish_rehomeBegun {s : State} (hrun : s.mode.opState = .run) (hgrant : s.arb.grant = none)
    (hphase : s.defrost.phase ≠ .pending) (hwinner : s.winner = none) (hidle : s.arb.idle = some .parked)
    (hmoves : 100 ≤ s.route.valve.outletMoves) (hrehoming : s.route.valve.rehoming = false) :
    (finish s).arb.grant = none ∧ (finish s).arb.idle = some .rehome ∧
      (finish s).route.valve =
        Valve.kick { s.route.valve with rehomeAsk := if s.arb.parkMode = .close then .toClosed else .toHeld } := by
  have hinit : initEnd s = s := initEnd_of_not_init (by rw [hrun]; exact nofun)
  have hstay : runoutEnd (relist s) = relist s :=
    runoutEnd_of_lasts fun hr => absurd (hidle.symm.trans hr) (by simp)
  have hbegin : rehomeTest (relist s) =
      kickValve
        { relist s with
          arb := { (relist s).arb with idle := some .rehome }
          route :=
            { s.route with
              valve :=
                { s.route.valve with rehomeAsk := if s.arb.parkMode = .close then .toClosed else .toHeld } } } := by
    unfold rehomeTest
    have hidle' : (relist s).arb.idle = some .parked := hidle
    exact if_pos (by simp [hidle', hmoves, hrehoming])
  have harbitrate := arbitrate_of_no_winner hrun hgrant hwinner
  rw [hstay, hbegin] at harbitrate
  have hnone : (arbitrate s).arb.grant = none := by
    rw [harbitrate]
    exact hgrant
  have harb := settle_arb_of_idle hnone
  have hidle' : (settle s).arb.idle = some .rehome := by rw [harb, harbitrate]; rfl
  have hgrant' : (settle s).arb.grant = none := by rw [harb, hnone]
  rw [finish_of_idle hphase (State.claimSound_of_noGrant hgrant) (by rw [hinit]; exact hrun)
    (by rw [hinit]; exact hgrant') (by rw [hinit, hidle']; exact nofun), hinit]
  refine ⟨hgrant', hidle', ?_⟩
  rw [publish_valve, settle_valve, harbitrate]
  exact Valve.kick_kick _

theorem kick_of_rehome_asked {v : Valve} {a : RehomeAsk} (ha : a ≠ .none) (hmove : v.move = none)
    (hdrive : v.drive = none) :
    Valve.kick { v with rehomeAsk := a } =
      ⟨false, 0, some (match a with | .toHeld => v.rest.getD .closed | _ => .closed), none, v.rest, v.outletMoves,
        .rehome, some 0, .none, match a with | .toHeld => v.rest.getD .closed | _ => .closed⟩ := by
  unfold Valve.kick
  rw [if_neg (by simp [hmove, hdrive]), if_pos ha]
  cases a <;> rfl

theorem kick_of_moving {v : Valve} (hmove : v.move.isSome = true) : v.kick = v := by
  unfold Valve.kick
  rw [if_pos (by simp [hmove])]

/-- The valve of an entry to PARKED with park mode CLOSE, at rest and homed. -/
theorem kick_to_closed {v : Valve} (hhomed : v.homed = true) (hmove : v.move = none) (hdrive : v.drive = none)
    (hask : v.rehomeAsk = .none) :
    Valve.kick { v with target := some .closed } =
      { v with
        target := some .closed
        move := if v.counter = 16 then none else some ⟨.closed, 0⟩ } := by
  unfold Valve.kick
  rw [if_neg (by simp [hmove, hdrive]), if_neg (by simp [hask]), if_pos hhomed]
  show (if v.counter = 16 then _ else _) = _
  by_cases hcounter : v.counter = 16
  · rw [if_pos hcounter, if_pos hcounter, ← hmove]
  · rw [if_neg hcounter, if_neg hcounter]

/-- The entry to PARKED with fewer than 100 outlet moves: the park mode's own move alone (R81). -/
theorem enterParked_of_few {s : State} (hmoves : s.route.valve.outletMoves < 100) :
    enterParked s =
      (let t : State := { s with arb := { s.arb with idle := some .parked, parkTimer := none } }
      if s.arb.parkMode = .close ∧ s.route.valve.rehoming = false then kickValve (setValveTarget .closed t) else t) := by
  unfold enterParked
  rw [rehomeTest_of_done]
  · by_cases h : s.arb.parkMode = .close ∧ s.route.valve.rehoming = false
    · exact (if_pos (by simp [h])).trans (if_pos h).symm
    · exact (if_neg (by simpa using h)).trans (if_neg h).symm
  · rintro ⟨-, hmany, -⟩
    refine absurd hmoves (not_lt.2 (le_trans hmany (le_of_eq ?_)))
    split
    · unfold kickValve State.mapValve
      rw [Valve.kick_outletMoves]
      rfl
    · rfl

theorem mapGrant_some {s : State} {g : Grant} (f : Grant → Grant) (hgrant : s.arb.grant = some g) :
    s.mapGrant f = { s with arb := { s.arb with grant := some (f g) } } := by
  unfold State.mapGrant
  rw [hgrant]
  rfl

/-- Settles O45: the changes at the last tick of each timer, the end of RUNOUT and the rehome of PARKED. -/
theorem arbiterTimers : Obligations.ArbiterTimers := by
  intro s
  refine ⟨fun g hg hphase hleft => ?_, fun z left hz hleft => ?_, fun f hf hleft => ?_,
    fun left htimer hleft hidle hmoves => ⟨fun hmode => ?_, fun hmode hhoming hask hhomed hmove hdrive => ?_⟩,
    fun left htimer hleft hidle hgrant => ?_, fun hrun hgrant hphase hwinner => ⟨fun hidle hended hdelay =>
      finish_runoutEnded hrun hgrant hphase hwinner hidle hended hdelay, fun hidle hmoves hrehoming => ?_⟩⟩
  · refine congrArg Host.Outcome.next ((if_pos (s.minDwellDue_iff.2 ⟨g, hg, hphase, hleft⟩)).trans ?_)
    rw [mapGrant_some _ hg]
  · exact congrArg Host.Outcome.next (if_pos ((s.isolationDue_iff z).2 ⟨left, hz, hleft⟩))
  · exact congrArg Host.Outcome.next (if_pos (s.forcedDue_iff.2 ⟨f, hf, hleft⟩))
  · refine congrArg Host.Outcome.next ((if_pos (s.parkDue_iff.2 ⟨hidle, left, htimer, hleft⟩)).trans ?_)
    rw [enterParked_of_few hmoves]
    dsimp only
    rw [if_neg (by simp [hmode])]
  · refine congrArg Host.Outcome.next ((if_pos (s.parkDue_iff.2 ⟨hidle, left, htimer, hleft⟩)).trans ?_)
    have hrehoming : s.route.valve.rehoming = false := by simp [Valve.rehoming, hhoming, hask]
    rw [enterParked_of_few hmoves]
    dsimp only
    rw [if_pos ⟨hmode, hrehoming⟩]
    unfold kickValve setValveTarget State.mapValve
    dsimp only
    rw [kick_to_closed hhomed hmove hdrive hask]
  · have hparked := enterParked_idle s
    refine ⟨finish (enterParked s), congrArg Host.Outcome.next (if_pos (s.parkDue_iff.2 ⟨hidle, left, htimer, hleft⟩)),
      finish_idle_of_parked ?_ ?_ ?_⟩
    · rw [(enterParked_idleOnly s).grant, hgrant]
    · rw [hparked]
      split <;> simp
    · rw [hparked]
      split <;> simp
  · obtain ⟨hnone, hrehome, hvalve⟩ := finish_rehomeBegun hrun hgrant hphase hwinner hidle hmoves hrehoming
    refine ⟨hnone, hrehome, fun hmove hdrive final hfinal => ?_, fun m hm => ?_⟩
    · rw [hvalve, hfinal]
      cases s.arb.parkMode
      all_goals exact kick_of_rehome_asked (by simp) hmove hdrive
    · rw [hvalve, kick_of_moving (by simp [hm])]
      cases s.arb.parkMode <;> rfl

end Sys2Proof.Machine
end

section
/-!
PROOFS. The route controller's timed events and a start failure (statements O47, O53).
-/
namespace Sys2Proof.Machine

/-! ## A decided state through what follows an event -/

/-- A decided state keeps the recorded end. -/
theorem finish_lastEnd_of_decided {s : State} (hphase : s.defrost.phase ≠ .pending) (hrun : s.mode.opState = .run)
    (h : s.decided) : (finish s).arb.lastEnd = s.arb.lastEnd := by
  have hinit : initEnd s = s := initEnd_of_not_init (by rw [hrun]; exact nofun)
  cases hgrant : s.arb.grant with
  | some g =>
    have harbitrate := arbitrate_of_decided h (.inl (by rw [hgrant]; rfl))
    have hsome : (settle s).arb.grant.isSome = true := by
      rcases settle_grant s with hs | ⟨g', -, -, hs⟩
      · rw [hs, harbitrate, hgrant]
        rfl
      · rw [hs]
        rfl
    have hdecided : (arbitrate s).decided := by rwa [harbitrate]
    have hsettle : settle (settle s) = settle s :=
      settle_of_arbitrate (arbitrate_of_decided (settle_decided_of hdecided) (.inl hsome))
    rw [finish_of_not_pending hphase, hinit, hsettle, publish_arb, settle_lastEnd, harbitrate]
  | none =>
    have hsound := State.claimSound_of_noGrant hgrant
    have hfirst := (settle_idleOnly h hrun hgrant).1
    have hsecond := (settle_idleOnly (settle_decided hsound) (by rw [(settle_arc s).mode, hrun])
      (by rw [hfirst.grant, hgrant])).1
    rw [finish_of_not_pending hphase, hinit, publish_arb, hsecond.lastEnd, hfirst.lastEnd]

/-! ## The valve -/

theorem ValvePos.counter_eq (p : ValvePos) :
    p.counter = match p with | .closed => 16 | .fr => 64 | .fz => 112 := by cases p <;> rfl

/-- The end of a move (R95, R96). -/
theorem Valve.endMove_eq {v : Valve} {m : Move} (hm : v.move = some m) :
    v.endMove =
      { v with
        counter := match m.target with | .closed => 16 | .fr => 64 | .fz => 112
        move := none
        rest := some m.target
        outletMoves := if v.rest = none ∨ v.rest = some m.target then v.outletMoves else min 65535 (v.outletMoves + 1)
        homing := if v.homing = .homing ∧ m.target = .closed then .none else v.homing } := by
  have hmoves : (match v.rest with
      | some r => if r = m.target then v.outletMoves else min 65535 (v.outletMoves + 1)
      | none => v.outletMoves) =
      if v.rest = none ∨ v.rest = some m.target then v.outletMoves else min 65535 (v.outletMoves + 1) := by
    cases v.rest <;> simp
  have hhoming : (if (decide (v.homing = .homing) && decide (m.target = .closed)) = true then Homing.none else v.homing) =
      if v.homing = .homing ∧ m.target = .closed then .none else v.homing := by
    simp only [Bool.and_eq_true, decide_eq_true_eq]
  unfold Valve.endMove
  rw [hm]
  dsimp only
  rw [hhoming, ← ValvePos.counter_eq]
  refine Eq.trans ?_ (congrArg (fun n => ({ v with
    counter := m.target.counter, move := none, rest := some m.target, outletMoves := n
    homing := if v.homing = .homing ∧ m.target = .closed then .none else v.homing } : Valve)) hmoves)
  rfl

/-- What the exec of HOMING_DRIVE_END is once the drive has ended. -/
theorem exec_homingDriveEnd {s : State} {d : Ticks} (hd : s.route.valve.drive = some d) (hdue : 44159 ≤ d) :
    exec .homingDriveEnd s = .next (finish (afterDrive (s.mapValve Valve.endDrive))) := by
  refine congrArg Host.Outcome.next (if_pos ((Valve.driveDue_iff _).2 ⟨d, hd, ?_⟩))
  exact Nat.succ_le_succ hdue

theorem Valve.kick_to_target {v : Valve} {p : ValvePos} (hhomed : v.homed = true) (hmove : v.move = none)
    (hdrive : v.drive = none) (hask : v.rehomeAsk = .none) (htarget : v.target = some p) (hcounter : v.counter ≠ p.counter) :
    v.kick = { v with move := some ⟨p, 0⟩ } := by
  unfold Valve.kick
  rw [if_neg (by simp [hmove, hdrive]), if_neg (by simp [hask]), if_pos hhomed, htarget]
  exact if_neg hcounter

theorem ValvePos.counter_ne_zero (p : ValvePos) : (0 : Nat) ≠ p.counter := by cases p <;> exact nofun

/-- ROUTE_FAULT is recorded and stands after the event (R74, R104). -/
theorem finish_routeFault {s : State} {g : Grant} (hgrant : s.arb.grant = some g) (hrun : s.mode.opState = .run)
    (hphase : s.defrost.phase ≠ .pending) : (finish (routeFault s)).arb.lastEnd = some ⟨g.zone, .routeFault⟩ := by
  have hfault : routeFault s = afterEnd (endGrant .routeFault s) := if_pos (by rw [hgrant]; rfl)
  have hexact : (endGrant .routeFault s).listExact := by
    rw [endGrant_some .routeFault hgrant]
    exact relist_exact _
  have hend := endGrant_lastEnd .routeFault hgrant
  have harc : ArcOnly s (afterEnd (endGrant .routeFault s)) := (endGrant_arc _ s).trans (afterEnd_arc _)
  have hdecided := afterEnd_decided hexact (endGrant_grant .routeFault s)
  rw [hfault, finish_lastEnd_of_decided (by rw [harc.defrost]; exact hphase) (by rw [harc.mode]; exact hrun) hdecided]
  rcases afterEnd_cases (endGrant .routeFault s) with ⟨z, r, -, h⟩ | ⟨-, h⟩
  · rw [h, createGrant_lastEnd, normalise_lastEnd, hend]
  · rw [h, (enterIdle_idleOnly _).lastEnd, normalise_lastEnd, hend]

theorem routeFault_arc (s : State) : ArcOnly s (routeFault s) := by
  unfold routeFault
  split
  · exact (endGrant_arc _ s).trans (afterEnd_arc _)
  · rfl

theorem ArcOnly.sameSetup {s t : State} (h : ArcOnly s t) : State.sameSetup s t := by
  refine ⟨h.strap, h.settings, h.sensing, ?_, ?_⟩ <;> rw [h]

/-- Settles O47: each timed event's change, and the recorded end of a route timeout. -/
theorem routeTimers : Obligations.RouteTimers := by
  intro s
  refine ⟨fun m hm hstep hlow hhigh => ?_, fun d hd hdue => ⟨fun hmode hhoming => ?_, fun hmode hhoming => ?_,
    fun hmode hhoming hask => ⟨fun hgrant => ?_, fun g hgrant => ?_⟩⟩, fun a g ha hplace hdue hgrant => ?_,
    fun g e hgrant hphase hzone hpre hdue => ?_, fun g e hgrant hphase hzone hpre hdue => ?_⟩
  · refine congrArg Host.Outcome.next ((if_pos ((Valve.moveDue_iff _).2 
      ⟨m, _, hm, rfl, Nat.succ_le_succ hstep, hlow, hhigh⟩)).trans (congrArg finish ?_))
    unfold State.mapValve
    rw [Valve.endMove_eq hm] <;> rfl
  · rw [exec_homingDriveEnd hd hdue]
    unfold afterDrive setValveTarget State.mapValve Valve.endDrive
    simp [hmode, hhoming]
  · have hdrive : afterDrive (s.mapValve Valve.endDrive) =
        { s with
          route :=
            { s.route with
              valve :=
                { s.route.valve with
                  homed := true, counter := 0, rest := none, outletMoves := 0, drive := none, homing := .none } } } := by
      unfold afterDrive State.mapValve Valve.endDrive
      simp [hmode, hhoming]
    refine ⟨_, (exec_homingDriveEnd hd hdue).trans (by rw [hdrive]), rfl, fun p hp hmove hask => ?_⟩
    rw [finish_valve_outside (by simp [hmode]) (initEnd_of_not_init (by simp [hmode])),
      Valve.kick_to_target (v := { s.route.valve with
        homed := true, counter := 0, rest := none, outletMoves := 0, drive := none, homing := .none })
        rfl hmove rfl hask hp p.counter_ne_zero]
    simp [hp, hask]
  · rw [exec_homingDriveEnd hd hdue]
    have hdrive : afterDrive (s.mapValve Valve.endDrive) =
        { s with
          arb := { s.arb with idle := if s.arb.idle = some .rehome then some .parked else s.arb.idle }
          route :=
            { s.route with
              valve :=
                { s.route.valve with
                  homed := true, counter := 0, rest := none, outletMoves := 0, drive := none, homing := .none
                  target := some s.route.valve.rehomeFinal } } } := by
      unfold afterDrive setValveTarget State.mapValve Valve.endDrive
      simp only [hmode, hgrant, hhoming]
      by_cases hidle : s.arb.idle = some .rehome
      · simp [hidle]
      · simp [hidle]
        rw [← hgrant]
    rw [hdrive]
  · rw [exec_homingDriveEnd hd hdue]
    have hended : (s.mapValve Valve.endDrive).route.valve =
        { s.route.valve with
          homed := true, counter := 0, rest := none, outletMoves := 0, drive := none, homing := .none } := by
      simp [State.mapValve, Valve.endDrive, hhoming]
    have hdrive : afterDrive (s.mapValve Valve.endDrive) = applyRoute g.zone (s.mapValve Valve.endDrive) := by
      unfold afterDrive
      simp [State.mapValve, hmode, hgrant]
    have hroute := applyRoute_route g.zone (s.mapValve Valve.endDrive)
    have harc := applyRoute_arc g.zone (s.mapValve Valve.endDrive)
    have hdampers : (s.mapValve Valve.endDrive).route.dampers = s.route.dampers := rfl
    rw [if_neg (by rw [hended]; simp [Valve.rehoming, hask]), hended, hdampers] at hroute
    have htargets := Dampers.change_targets s.route.dampers g.zone.dampers.1 g.zone.dampers.2
    rw [hdrive]
    refine ⟨_, rfl, by rw [arb_applyRoute]; rfl, by rw [harc.zones]; rfl, by rw [harc.settings]; rfl,
      by rw [applyRoute_comp]; rfl, by rw [hroute], by rw [hroute], by rw [hroute], by rw [hroute], by rw [hroute],
      ?_, ?_, by rw [hroute], by rw [hroute], ?_⟩
    · rw [hroute]
      cases g.zone <;> rfl
    · rw [hroute]
      show ((s.route.dampers.change _ _).flex, (s.route.dampers.change _ _).ice) = _
      rw [htargets.1, htargets.2]
      cases g.zone <;> rfl
    · rw [hroute]
      dsimp only
      rw [htargets.1, htargets.2]
  · have harc := routeFault_arc s
    refine ⟨finish (routeFault s), congrArg Host.Outcome.next (if_pos ?_), fun z => ?_, harc.sameSetup.finish,
      fun hrun hphase => finish_routeFault hgrant hrun hphase⟩
    · exact s.routeTimeoutDue_iff.2 ⟨a, ha, hplace, hdue⟩
    · exact State.sameZone.trans (State.sameZone_of_eq (by rw [harc.zones])) (finish_sameZone _ z)
  · refine congrArg Host.Outcome.next (if_pos ((s.preChillDue_iff .freezer).2 ⟨(s.preChillCounts_iff _).2
      ⟨g, hgrant, hphase, ?_⟩, e, hpre, hdue⟩))
    cases hz : g.zone <;> simp_all [Zone.fan]
  · refine congrArg Host.Outcome.next (if_pos ((s.preChillDue_iff .fresh).2 ⟨(s.preChillCounts_iff _).2
      ⟨g, hgrant, hphase, by rw [hzone]; rfl⟩, e, hpre, hdue⟩))

/-! ## An unavailable compressor -/

theorem running_of_available {s : State} (h : s.compAvailable = false) :
    s.comp.state ≠ .running ∧ s.comp.state ≠ .stopped := by
  simp only [State.compAvailable, Bool.or_eq_false_iff, decide_eq_false_iff_not] at h
  exact ⟨h.2, h.1⟩

/-- Without the compressor an arbitration in RUN leaves no grant and no RUNOUT with the command at 0, and records the end of
the grant it found (R72, R80). -/
theorem arbitrate_of_unavailable {s : State} (hrun : s.mode.opState = .run) (hno : s.compAvailable = false)
    (hoff : s.comp.command = 0) :
    (arbitrate s).arb.grant = none ∧ (arbitrate s).arb.idle ≠ some .runout ∧
      (s.arb.grant = none → (arbitrate s).arb.lastEnd = s.arb.lastEnd) ∧
      ∀ g, s.arb.grant = some g → (arbitrate s).arb.lastEnd = some ⟨g.zone, .compUnavailable⟩ := by
  have hnobody : ∀ x : State, x.compAvailable = false → (normalise x).selection none = none := by
    intro x hx
    have hcomp : (normalise x).compAvailable = false := by
      rw [← hx]
      exact compAvailable_of_comp (normalise_comp x)
    exact (State.selection_none_iff _).2 fun z => by simp [State.waitingSelectable, State.selectable, hcomp]
  cases hgrant : s.arb.grant with
  | none =>
    rw [arbitrate_run_none hrun hgrant]
    rcases noGrant_cases (relist s) with ⟨z, r, hw, -⟩ | ⟨-, h⟩
    · rw [hnobody (relist s) hno] at hw
      cases hw
    · have hidle := (runoutEnd_idleOnly (relist s)).trans (rehomeTest_idleOnly (runoutEnd (relist s)))
      rw [h]
      refine ⟨by rw [hidle.grant]; exact hgrant, fun hrunout => ?_, fun _ => by rw [hidle.lastEnd]; rfl, nofun⟩
      have hended : (runoutEnd (relist s)).arb.idle ≠ some .runout := by
        unfold runoutEnd
        split
        · exact enterParkDelay_not_runout _
        · rename_i hcond
          intro hr
          have hav : (relist s).compAvailable = false := hno
          simp [hr, hav] at hcond
      unfold rehomeTest at hrunout
      split at hrunout
      · simp [kickValve, State.mapValve] at hrunout
      · exact hended hrunout
  | some g =>
    have hrelist : (relist s).arb.grant = some g := hgrant
    have hav : (endGrant .compUnavailable (relist s)).compAvailable = false := by
      rw [← hno]
      exact compAvailable_of_comp (by rw [endGrant_comp]; rfl)
    rw [arbitrate_run_some hrun hgrant]
    rcases heldGrant_cases g (relist s) with ⟨r, hr, h⟩ | ⟨hend, -⟩
    · have hcause : r = .compUnavailable := by
        rw [relist_endCause, s.endCause_eq, if_pos hno] at hr
        exact (Option.some.inj hr).symm
      subst hcause
      rcases afterEnd_cases (endGrant .compUnavailable (relist s)) with ⟨z, q, hw, -⟩ | ⟨-, h'⟩
      · rw [hnobody _ hav] at hw
        cases hw
      · have hidle := enterIdle_idleOnly (normalise (endGrant .compUnavailable (relist s)))
        rw [h, h']
        refine ⟨by rw [hidle.grant, normalise_grant, endGrant_grant], ?_, nofun, ?_⟩
        · rcases enterIdle_cases (normalise (endGrant .compUnavailable (relist s))) with ⟨hon, -⟩ | ⟨-, hcase⟩
          · unfold State.commandedOn at hon
            rw [normalise_comp, endGrant_comp] at hon
            simp [hoff] at hon
          · rw [hcase, arb_recompute]
            exact enterParkDelay_not_runout _
        · rintro _ ⟨rfl⟩
          rw [hidle.lastEnd, normalise_lastEnd, endGrant_lastEnd _ hrelist]
    · rw [relist_endCause, s.endCause_eq, if_pos hno] at hend
      cases hend

/-- A pass changes nothing of the record of a compressor that does not run and cannot start (R116, R118, R120, R121). -/
theorem settle_comp_of_still {s : State} (hrunning : s.comp.state ≠ .running)
    (hwaits : s.comp.state = .stopped → s.minOffElapsed = false) : (settle s).comp = s.comp := by
  have harbitrate : (arbitrate s).comp = s.comp := (arbitrate_steady s).2 hrunning
  have hkick : (kickValve (arbitrate s)).comp = s.comp := harbitrate
  have helapsed : (kickValve (arbitrate s)).minOffElapsed = s.minOffElapsed := by
    unfold State.minOffElapsed
    rw [hkick]
    show decide (sec (arbitrate s).settings.comp.minOff ≤ _) = _
    rw [(arbitrate_arc s).settings]
  have hbody : (passBody (arbitrate s)).comp = s.comp := by
    rw [passBody_comp, compReact_of_stands (fun h => ?_) (fun h => hrunning (hkick ▸ h.1)), hkick]
    have hno := hwaits (hkick ▸ h.1)
    rw [← helapsed, h.2.2] at hno
    cases hno
  rw [settle_eq, (coolingStart_steady _).2 (by rw [hbody]; exact hrunning), hbody]

theorem settle_comp_of_unavailable {s : State} (hno : s.compAvailable = false) : (settle s).comp = s.comp :=
  settle_comp_of_still (running_of_available hno).1 fun h => absurd h (running_of_available hno).2

/-- The end of a grant without the compressor, through what follows the event: no grant, no RUNOUT, the end recorded. -/
theorem settle_of_unavailable {s : State} (hrun : s.mode.opState = .run) (hno : s.compAvailable = false)
    (hoff : s.comp.command = 0) :
    (settle s).arb.grant = none ∧ (settle s).arb.idle ≠ some .runout ∧
      (s.arb.grant = none → (settle s).arb.lastEnd = s.arb.lastEnd) ∧
      ∀ g, s.arb.grant = some g → (settle s).arb.lastEnd = some ⟨g.zone, .compUnavailable⟩ := by
  obtain ⟨hnone, h⟩ := arbitrate_of_unavailable hrun hno hoff
  rw [settle_arb_of_idle hnone]
  exact ⟨hnone, h⟩

/-- What follows an event that leaves the compressor unavailable and commanded off. -/
theorem finish_of_unavailable {s : State} (hno : s.compAvailable = false) (hoff : s.comp.command = 0)
    (hservice : s.mode.opState = .service → s.comp.serviceSpeed = 0) :
    (finish s).comp = { s.comp with target := none } ∧
      (s.mode.opState = .run →
        (finish s).arb.grant = none ∧
          ∀ g, s.arb.grant = some g → (finish s).arb.lastEnd = some ⟨g.zone, .compUnavailable⟩) := by
  have hinitComp : (initEnd s).comp = s.comp := by rw [initEnd_eq]
  have hinitAv : (initEnd s).compAvailable = false := by
    rw [← hno]
    exact compAvailable_of_comp hinitComp
  have hfirst := settle_comp_of_unavailable hinitAv
  have htest := pendingTest_only (settle (initEnd s))
  have hcomp : (pendingTest (settle (initEnd s))).comp = s.comp := by rw [htest.comp, hfirst, hinitComp]
  have hav : (pendingTest (settle (initEnd s))).compAvailable = false := by
    rw [← hno]
    exact compAvailable_of_comp hcomp
  have hmode : (pendingTest (settle (initEnd s))).mode = (initEnd s).mode := by
    rw [htest.mode, (settle_arc _).mode]
  have hsecond := settle_comp_of_unavailable hav
  obtain ⟨hrunning, hstopped⟩ := running_of_available hno
  generalize hr : settle (pendingTest (settle (initEnd s))) = r at *
  have hrcomp : r.comp = s.comp := hsecond.trans hcomp
  have hrmode : r.mode = (initEnd s).mode := by rw [← hr, (settle_arc _).mode, hmode]
  have hrequest : r.runRequest = false := by
    unfold State.runRequest
    cases hm : r.mode.opState with
    | init => rfl
    | service =>
      have hs : s.mode.opState = .service := by
        rw [hrmode] at hm
        unfold initEnd at hm
        split at hm
        · rw [(normalise_arc _).mode] at hm
          cases hm
        · exact hm
      simp [hrcomp, hservice hs]
    | run =>
      have hrun : (pendingTest (settle (initEnd s))).mode.opState = .run := by rw [hmode, ← hrmode, hm]
      obtain ⟨hgrant, hidle, -⟩ := settle_of_unavailable hrun hav (by rw [hcomp, hoff])
      rw [hr] at hgrant hidle
      simp [hgrant, hidle]
  have hshown : r.shownTarget = none := by
    unfold State.shownTarget
    rw [hrcomp, hrequest]
    split
    · exact absurd ‹_› hrunning
    · rfl
    · rfl
  have hfinish : finish s = publish r := by rw [finish_eq_settle, hr]
  rw [hfinish]
  refine ⟨?_, fun hrun => ?_⟩
  · show { r.comp with target := r.shownTarget } = _
    rw [hshown, hrcomp]
  · have hinit : initEnd s = s := initEnd_of_not_init (by rw [hrun]; exact nofun)
    rw [hinit] at hr hcomp hav hmode htest
    obtain ⟨hnone, -, -, hlast⟩ := settle_of_unavailable hrun hno hoff
    obtain ⟨hgrant, -, hkeep, -⟩ := settle_of_unavailable (s := pendingTest (settle s)) (by rw [hmode, hrun]) hav
      (by rw [hcomp, hoff])
    rw [hr] at hgrant hkeep
    refine ⟨hgrant, fun g hg => ?_⟩
    rw [publish_arb, hkeep (by rw [htest.grant, hnone]), htest.arb, hlast g hg]

/-! ## A start failure -/

/-- The fault's steps (R128). -/
theorem takeFault_comp {s : State} (source : FaultSource) (code : Byte) (h : s.compAvailable = true) :
    (takeFault source code s).comp =
      { s.comp with
        state := if 3 ≤ s.comp.faults.length + 1 then .lockout else .faultHold
        hold := if 3 ≤ s.comp.faults.length + 1 then none else some (300 * 9600)
        faults := s.comp.faults ++ [⟨0, source, code⟩]
        command := 0
        stopFor := 0
        postRun := if s.comp.command = 0 then s.comp.postRun else some (60 * 9600)
        runWatch := none
        speedTimer := none
        serviceSpeed := if s.mode.opState = .service then 0 else s.comp.serviceSpeed } := by
  unfold takeFault
  rw [if_pos h]
  by_cases hlocked : 3 ≤ s.comp.faults.length + 1
  · simp [dropCommand, State.setComp, hlocked, sec]
  · simp [dropCommand, State.setComp, hlocked, sec]

theorem takeFault_else {s : State} (source : FaultSource) (code : Byte) :
    takeFault source code s = { s with comp := (takeFault source code s).comp } := by
  unfold takeFault
  split <;> rfl

/-- Settles O53: the fault's steps at the start failure, and the end of the grant that follows. -/
theorem startFailure : Obligations.StartFailure := by
  intro s x hx hdue hav
  have hcomp := takeFault_comp .start 0 hav
  have helse := takeFault_else (s := s) .start 0
  generalize hu : takeFault .start 0 s = u at hcomp helse
  have hmode : u.mode = s.mode := by rw [helse]
  have hno : u.compAvailable = false := by
    unfold State.compAvailable
    rw [hcomp]
    by_cases hlocked : 3 ≤ s.comp.faults.length + 1 <;> simp [hlocked]
  have hoff : u.comp.command = 0 := by rw [hcomp]
  have hservice : u.mode.opState = .service → u.comp.serviceSpeed = 0 := by
    intro hm
    rw [hmode] at hm
    rw [hcomp]
    exact if_pos hm
  obtain ⟨hfinal, harb⟩ := finish_of_unavailable hno hoff hservice
  have hsetup : State.sameSetup s u := by
    refine ⟨?_, ?_, ?_, ?_, ?_⟩ <;> rw [helse]
  refine ⟨finish u, ?_, ?_⟩
  · refine congrArg Host.Outcome.next ((if_pos (s.runWatchDue_iff.2 ⟨hav, x, hx, hdue⟩)).trans ?_)
    rw [hu]
  · rw [hfinal, hcomp]
    refine ⟨rfl, rfl, rfl, rfl, rfl, rfl, fun hfew => ?_, fun hmany => ?_, rfl, rfl, rfl, rfl, rfl, fun g hrun hg => ?_,
      hsetup.finish, ?_, ?_, fun z => ?_⟩
    · have hunlocked : ¬3 ≤ s.comp.faults.length + 1 := by omega
      exact ⟨if_neg hunlocked, if_neg hunlocked⟩
    · have hlocked : 3 ≤ s.comp.faults.length + 1 := by omega
      exact ⟨if_pos hlocked, if_pos hlocked⟩
    · obtain ⟨hnone, hlast⟩ := harb (by rw [hmode, hrun])
      exact ⟨hnone, hlast g (by rw [helse]; exact hg)⟩
    · rw [finish_doors, helse]
    · rw [finish_bus, helse]
    · exact State.sameZone.trans (State.sameZone_of_eq (by rw [helse])) (finish_sameZone u z)

end Sys2Proof.Machine
end

section
/-!
PROOFS. The end with MAX_DWELL (statement O46).
-/
namespace Sys2Proof.Machine

/-! ## The no-progress check -/

/-- The check changes the holder's count and isolation alone (R84). -/
theorem noProgressCheck_only (g : Grant) (s : State) :
    ∃ r : ZoneRec, r.demand = (s.zones.get g.zone).demand ∧ r.level = (s.zones.get g.zone).level ∧
      r.holdDefrost = (s.zones.get g.zone).holdDefrost ∧ r.holdHarvest = (s.zones.get g.zone).holdHarvest ∧
      noProgressCheck g s = { s with zones := s.zones.set g.zone r } := by
  have hself : s.zones.set g.zone (s.zones.get g.zone) = s.zones := by cases g.zone <;> rfl
  have hstay : ∃ r : ZoneRec, r.demand = (s.zones.get g.zone).demand ∧ r.level = (s.zones.get g.zone).level ∧
      r.holdDefrost = (s.zones.get g.zone).holdDefrost ∧ r.holdHarvest = (s.zones.get g.zone).holdHarvest ∧
      s = { s with zones := s.zones.set g.zone r } := ⟨_, rfl, rfl, rfl, rfl, by rw [hself]⟩
  unfold noProgressCheck
  split
  · split
    · exact hstay
    · refine ⟨_, ?_, ?_, ?_, ?_, rfl⟩ <;> dsimp only <;> split
      · split <;> rfl
      · rfl
      · split <;> rfl
      · rfl
      · split <;> rfl
      · rfl
      · split <;> rfl
      · rfl
  · exact hstay

/-- Where the check does not apply it changes nothing (R84). -/
theorem noProgressCheck_of_exempt {g : Grant} {s : State}
    (h : g.door = true ∨ g.reason = .recovery ∨ g.startTemp = none ∨ (s.sensing.air.get g.zone).filtered = none) :
    noProgressCheck g s = s := by
  unfold noProgressCheck
  split
  · rename_i a b ha hb
    rcases h with h | h | h | h
    · rw [if_pos (by simp [h])]
    · rw [if_pos (by simp [h])]
    · rw [ha] at h
      cases h
    · rw [hb] at h
      cases h
  · rfl

/-- What the check makes of the holder's record where it applies (R84). -/
theorem noProgressCheck_self {g : Grant} {s : State} {a b : Int} (hdoor : g.door = false) (hreason : g.reason ≠ .recovery)
    (ha : g.startTemp = some a) (hb : (s.sensing.air.get g.zone).filtered = some b) :
    (noProgressCheck g s).zones.get g.zone =
      if a - b < (s.settings.arb.progress : Int) then
        if 3 ≤ (s.zones.get g.zone).noProgress + 1 then
          { s.zones.get g.zone with noProgress := 0, isolation := some (mins s.settings.arb.isolationHold) }
        else { s.zones.get g.zone with noProgress := (s.zones.get g.zone).noProgress + 1 }
      else { s.zones.get g.zone with noProgress := 0 } := by
  unfold noProgressCheck
  rw [ha, hb]
  dsimp only
  rw [if_neg (by simp [hdoor, hreason])]
  exact PerZone.get_set_self _ _ _

/-! ## The end with MAX_DWELL -/

theorem maxDwellEnd_arc (g : Grant) (s : State) : ArcOnly (noProgressCheck g s) (maxDwellEnd g s) := by
  unfold maxDwellEnd
  have hstart := normalise_arc (noProgressCheck g s)
  dsimp only
  split
  · split
    · exact hstart.trans (regrant_arc _ _)
    · exact (hstart.trans (endGrant_arc _ _)).trans (createGrant_arc _ _ _)
  · split
    · exact hstart.trans (regrant_arc _ _)
    · exact (hstart.trans (endGrant_arc _ _)).trans (enterIdle_arc _)

/-- The state in which the selection of a MAX_DWELL end is made. -/
def dwellBasis (g : Grant) (s : State) : State := normalise (noProgressCheck g s)

/-- The selection of a MAX_DWELL end among the waiting zones, without claim and forced record (R64 steps 3 and 4). -/
theorem State.selection_plain {s : State} (hclaim : s.arb.claim = false) (hforced : s.arb.forced = none)
    (holder : Option Zone) :
    s.selection holder =
      match s.arb.waiting.find? (fun w => s.aged w && s.selectable w.zone) with
      | some w => some (w.zone, .aged)
      | none => s.rotation.map fun z => (z, .rotation) := by
  unfold State.selection
  rw [hclaim, hforced] <;> rfl

/-- With nobody on the list nobody is selected. -/
theorem State.selection_of_nobody {s : State} (hclaim : s.arb.claim = false) (hforced : s.arb.forced = none)
    (hwaiting : s.arb.waiting = []) (holder : Option Zone) : s.selection holder = none := by
  have hrotation : s.rotation = none :=
    s.rotation_none_iff.2 fun z => by simp [State.waitingSelectable, State.onList, hwaiting]
  rw [State.selection_plain hclaim hforced, hwaiting, hrotation]
  rfl

/-- The one selectable zone on the list is selected, as aged or in rotation. -/
theorem State.selection_of_one {s : State} {w : Waiting} (hclaim : s.arb.claim = false) (hforced : s.arb.forced = none)
    (hwaiting : s.arb.waiting = [w]) (hw : s.selectable w.zone = true) (holder : Option Zone) :
    s.selection holder =
      some (w.zone, if s.settings.arb.maxWait * 60 ≤ w.waited / 9600 then .aged else .rotation) := by
  rw [State.selection_plain hclaim hforced, hwaiting]
  by_cases haged : s.aged w = true
  · rw [List.find?_cons_of_pos (by simp [haged, hw]), if_pos ((s.aged_iff w).1 haged)]
  · rw [List.find?_cons_of_neg (by simp [haged]), if_neg fun h => haged ((s.aged_iff w).2 h)]
    have hrotation : s.rotation = some w.zone := by
      have hself : s.waitingSelectable w.zone = true := by
        simp [State.waitingSelectable, State.onList, hwaiting, hw]
      cases hr : s.rotation with
      | none =>
        rw [s.rotation_none_iff.1 hr] at hself
        cases hself
      | some z =>
        have hz := ((s.waitingSelectable_iff z).1 (State.rotation_selectable hr)).1
        rw [State.onList_iff, hwaiting] at hz
        obtain ⟨w', hw', rfl⟩ := hz
        rw [List.mem_singleton.1 hw']
    rw [hrotation]
    rfl

/-- The arbiter's record after a REGRANT (R76). -/
theorem regrant_arb (z : Zone) (s : State) :
    (regrant z s).arb =
      { s.arb with
        p1 := (movePointers z s).arb.p1
        p2 := (movePointers z s).arb.p2
        grant :=
          some { s.newGrant z .regrant with
            phase := .cooling, minLeft := 0, startTemp := (s.sensing.air.get z).filtered }
        lastEnd := some ⟨z, .maxDwell⟩ } := by
  unfold regrant
  rw [arb_recompute, movePointers_eq]

/-- The terms of R59 for a zone are those of before the check, but for the isolation the check may set. -/
theorem selectable_of_check {g : Grant} {s : State} {z : Zone} (h : s.selectable z = true)
    (hisolation : ((noProgressCheck g s).zones.get z).isolation = none) : (dwellBasis g s).selectable z = true := by
  obtain ⟨r, hdemand, hlevel, hdefrost, hharvest, hcheck⟩ := noProgressCheck_only g s
  have harc := normalise_arc (noProgressCheck g s)
  have hcomp : (dwellBasis g s).compAvailable = (noProgressCheck g s).compAvailable :=
    compAvailable_of_comp (normalise_comp _)
  unfold dwellBasis
  rw [harc.selectable hcomp]
  have hsame : ((noProgressCheck g s).zones.get z).demand = (s.zones.get z).demand ∧
      ((noProgressCheck g s).zones.get z).holdDefrost = (s.zones.get z).holdDefrost ∧
      ((noProgressCheck g s).zones.get z).holdHarvest = (s.zones.get z).holdHarvest := by
    rw [hcheck]
    by_cases hz : z = g.zone
    · subst hz
      rw [PerZone.get_set_self]
      exact ⟨hdemand, hdefrost, hharvest⟩
    · rw [PerZone.get_set_other _ hz]
      exact ⟨rfl, rfl, rfl⟩
  obtain ⟨hd, hh, hv⟩ := hsame
  simp only [State.selectable, State.zoneSelectable, State.member, State.isolated, State.held, State.routeAvailable,
    State.compAvailable, State.present, Bool.and_eq_true, Bool.not_eq_true'] at h ⊢
  rw [hd, hh, hv, hisolation]
  rw [hcheck]
  simp only [Option.isSome_none]
  tauto

theorem dwellBasis_arc (g : Grant) (s : State) : ArcOnly (noProgressCheck g s) (dwellBasis g s) := normalise_arc _

/-- The state of the selection has everything but the holder's record from before the end. -/
theorem dwellBasis_keeps (g : Grant) (s : State) :
    (dwellBasis g s).mode = s.mode ∧ (dwellBasis g s).settings = s.settings ∧ (dwellBasis g s).sensing = s.sensing ∧
      (dwellBasis g s).doors = s.doors ∧ (dwellBasis g s).defrost = s.defrost ∧ (dwellBasis g s).route = s.route ∧
      (dwellBasis g s).arb.claim = s.arb.claim ∧ (dwellBasis g s).arb.forced = s.arb.forced ∧
      (dwellBasis g s).arb.waiting = s.arb.waiting ∧ (dwellBasis g s).arb.grant = s.arb.grant ∧
      (dwellBasis g s).arb.p2 = (normalise s).arb.p2 := by
  obtain ⟨r, -, -, -, -, hcheck⟩ := noProgressCheck_only g s
  have harc := dwellBasis_arc g s
  have hp2 := (normalise_congr (s := s) (t := noProgressCheck g s) (by rw [hcheck]) (by rw [hcheck]) (by rw [hcheck])).2
  refine ⟨?_, ?_, ?_, ?_, ?_, ?_, ?_, ?_, ?_, ?_, hp2⟩
  · rw [harc.mode, hcheck]
  · rw [harc.settings, hcheck]
  · rw [harc.sensing, hcheck]
  · rw [harc.doors, hcheck]
  · rw [harc.defrost, hcheck]
  all_goals unfold dwellBasis
  · rw [normalise_route, hcheck]
  · rw [normalise_claim, hcheck]
  · rw [normalise_forced, hcheck]
  · rw [normalise_waiting, hcheck]
  · rw [normalise_grant, hcheck]

/-- With nobody waiting and the holder selectable the grant is replaced by a REGRANT (R76). -/
theorem finish_regrant {s : State} {g : Grant} (hrun : s.mode.opState = .run) (hphase : s.defrost.phase ≠ .pending)
    (hclaim : s.arb.claim = false) (hforced : s.arb.forced = none) (hwaiting : s.arb.waiting = [])
    (hself : (dwellBasis g s).selectable g.zone = true) :
    (finish (maxDwellEnd g s)).arb.lastEnd = some ⟨g.zone, .maxDwell⟩ ∧
      (finish (maxDwellEnd g s)).arb.grant =
        some
          ⟨g.zone, .regrant, .cooling, 0, 0, (s.settings.timing.get g.zone).maxDwell * 60 * 9600,
            (s.sensing.air.get g.zone).filtered, s.zoneDoorOpen g.zone, false⟩ ∧
      (s.settings.level.get g.zone = .l1 →
        (finish (maxDwellEnd g s)).arb.p1 = some (.zone g.zone) ∧
          (finish (maxDwellEnd g s)).arb.p2 = (normalise s).arb.p2) ∧
      (s.settings.level.get g.zone = .group →
        (finish (maxDwellEnd g s)).arb.p1 = some .group ∧ (finish (maxDwellEnd g s)).arb.p2 = some g.zone) ∧
      (finish (maxDwellEnd g s)).route.dampers = s.route.dampers ∧
      (finish (maxDwellEnd g s)).route.preFreezer = s.route.preFreezer ∧
      (finish (maxDwellEnd g s)).route.preFresh = s.route.preFresh := by
  obtain ⟨kmode, ksettings, ksensing, kdoors, kdefrost, kroute, kclaim, kforced, kwaiting, -, kp2⟩ := dwellBasis_keeps g s
  have hnobody := State.selection_of_nobody (kclaim.trans hclaim) (kforced.trans hforced) (kwaiting.trans hwaiting)
    (some g.zone)
  have hend : maxDwellEnd g s = regrant g.zone (dwellBasis g s) := by
    unfold dwellBasis at hnobody hself ⊢
    unfold maxDwellEnd
    dsimp only
    rw [hnobody]
    exact if_pos hself
  obtain ⟨havailable, henabled, hheld, hroute, hcalling, -⟩ := selectable_spec hself
  have harc : ArcOnly (dwellBasis g s) (maxDwellEnd g s) := by
    rw [hend]
    exact regrant_arc _ _
  have hcomp : (maxDwellEnd g s).compAvailable = (dwellBasis g s).compAvailable := by
    rw [hend]
    exact compAvailable_of_steady (regrant_steady _ _)
  have harb : (maxDwellEnd g s).arb = (regrant g.zone (dwellBasis g s)).arb := by rw [hend]
  rw [regrant_arb] at harb
  have hurun : (maxDwellEnd g s).mode.opState = .run := by rw [harc.mode, kmode, hrun]
  have huphase : (maxDwellEnd g s).defrost.phase ≠ .pending := by rw [harc.defrost, kdefrost]; exact hphase
  have hugrant : (maxDwellEnd g s).arb.grant = some { (dwellBasis g s).newGrant g.zone .regrant with
      phase := .cooling, minLeft := 0, startTemp := ((dwellBasis g s).sensing.air.get g.zone).filtered } := by rw [harb]
  have huroute : (maxDwellEnd g s).route = s.route := by rw [hend, regrant_route, kroute]
  have hdemand : ((maxDwellEnd g s).zones.get g.zone).demand = .calling := by rw [harc.zones, hcalling]
  have hnoEnd : (maxDwellEnd g s).endCause { (dwellBasis g s).newGrant g.zone .regrant with
      phase := .cooling, minLeft := 0, startTemp := ((dwellBasis g s).sensing.air.get g.zone).filtered } = none := by
    rw [harc.endCause hcomp, State.endCause_none_iff]
    exact ⟨havailable, henabled, hheld, hroute, fun h => absurd (hcalling.symm.trans h.1) (by simp)⟩
  have hpre := State.preemptor_of_nobody (s := relist (maxDwellEnd g s))
    (g := { (dwellBasis g s).newGrant g.zone .regrant with
      phase := .cooling, minLeft := 0, startTemp := ((dwellBasis g s).sensing.air.get g.zone).filtered })
    (by show (maxDwellEnd g s).arb.claim = false; rw [harb]; exact kclaim.trans hclaim)
    (by show (maxDwellEnd g s).arb.forced = none; rw [harb]; exact kforced.trans hforced)
  obtain ⟨hfinish, harbitrate⟩ := finish_of_kept huphase hurun hugrant hnoEnd (.inl hpre)
  have hkept := finish_of_kept_cooling huphase hurun hugrant hnoEnd (.inl hpre) rfl
  have hlast := (finish_of_kept_route huphase hurun hugrant hnoEnd (.inl hpre)).1
  have hsettle : settle (maxDwellEnd g s) = passBody (arbitrate (maxDwellEnd g s)) := by
    rw [settle_eq]
    rcases coolingStart_grant_cases (passBody (arbitrate (maxDwellEnd g s))) with h | ⟨g', hg', hrouting, -⟩
    · exact h
    · rw [passBody_arb, harbitrate] at hg'
      obtain rfl := Option.some.inj hg'
      cases hrouting
  have hp1 : (finish (maxDwellEnd g s)).arb.p1 = (maxDwellEnd g s).arb.p1 := by
    rw [hfinish, publish_arb, hsettle, passBody_arb, harbitrate]
    rfl
  have hp2 : (finish (maxDwellEnd g s)).arb.p2 = (maxDwellEnd g s).arb.p2 := by
    rw [hfinish, publish_arb, hsettle, passBody_arb, harbitrate]
    rfl
  have hpointers := movePointers_cases g.zone (dwellBasis g s)
  rw [ksettings] at hpointers
  obtain ⟨hfreezer, hfresh⟩ := passBody_preChill (arbitrate (maxDwellEnd g s))
  have hroute' : (arbitrate (maxDwellEnd g s)).route = s.route := by
    rw [harbitrate, ← huroute]
    rfl
  refine ⟨?_, ?_, fun hlevel => ?_, fun hlevel => ?_, ?_, ?_, ?_⟩
  · rw [hlast, harb]
  · have hdoor : (dwellBasis g s).zoneDoorOpen g.zone = s.zoneDoorOpen g.zone := by
      unfold State.zoneDoorOpen
      rw [kdoors]
    rw [hkept]
    simp [State.continues, State.newGrant, hdemand, ksettings, ksensing, hdoor, mins, Nat.mul_assoc]
  · rw [hp1, hp2, harb]
    exact ⟨(hpointers.1 hlevel).1, (hpointers.1 hlevel).2.trans kp2⟩
  · rw [hp1, hp2, harb]
    exact hpointers.2 hlevel
  · rw [hfinish, publish_dampers, settle_dampers, hroute']
  · rw [hfinish, hsettle]
    show (passBody (arbitrate (maxDwellEnd g s))).route.preFreezer = _
    rw [hfreezer, hroute']
  · rw [hfinish, hsettle]
    show (passBody (arbitrate (maxDwellEnd g s))).route.preFresh = _
    rw [hfresh, hroute']

/-- With one selectable zone waiting the grant is handed over (R76). -/
theorem finish_handOver {s : State} {g : Grant} {w : Waiting} (hgrant : s.arb.grant = some g)
    (hrun : s.mode.opState = .run)
    (hphase : s.defrost.phase ≠ .pending) (hclaim : s.arb.claim = false) (hforced : s.arb.forced = none)
    (hwaiting : s.arb.waiting = [w]) (hw : (dwellBasis g s).selectable w.zone = true) (hother : w.zone ≠ g.zone) :
    (finish (maxDwellEnd g s)).arb.lastEnd = some ⟨g.zone, .maxDwell⟩ ∧
      State.grantMade s (finish (maxDwellEnd g s)) w.zone
        (if s.settings.arb.maxWait * 60 ≤ w.waited / 9600 then .aged else .rotation) := by
  obtain ⟨kmode, ksettings, ksensing, kdoors, kdefrost, kroute, kclaim, kforced, kwaiting, kgrant, kp2⟩ :=
    dwellBasis_keeps g s
  have hselection := State.selection_of_one (kclaim.trans hclaim) (kforced.trans hforced) (kwaiting.trans hwaiting) hw
    (some g.zone)
  rw [ksettings] at hselection
  generalize (if s.settings.arb.maxWait * 60 ≤ w.waited / 9600 then GrantReason.aged else .rotation) = r at hselection ⊢
  have hend : maxDwellEnd g s = createGrant w.zone r (endGrant .maxDwell (dwellBasis g s)) := by
    unfold dwellBasis at hselection ⊢
    unfold maxDwellEnd
    dsimp only
    rw [hselection]
    exact if_neg hother
  have hheld : (dwellBasis g s).arb.grant = some g := kgrant.trans hgrant
  have harc : ArcOnly (dwellBasis g s) (endGrant .maxDwell (dwellBasis g s)) := endGrant_arc _ _
  have hexact : (endGrant .maxDwell (dwellBasis g s)).listExact := by
    rw [endGrant_some .maxDwell hheld]
    exact relist_exact _
  have hselectable : (endGrant .maxDwell (dwellBasis g s)).selectable w.zone = true := by
    rw [harc.selectable (compAvailable_of_comp (endGrant_comp _ _))]
    exact hw
  have hnoclaim : (endGrant .maxDwell (dwellBasis g s)).arb.claim = false := by
    rw [endGrant_claim, kclaim, hclaim]
  have hdecided : (createGrant w.zone r (endGrant .maxDwell (dwellBasis g s))).decided := by
    refine createGrant_decided hexact (endGrant_grant _ _) hselectable (fun hc => ?_) fun f hf => ?_
    · rw [hnoclaim] at hc
      cases hc
    · rw [endGrant_forced, kforced, hforced] at hf
      cases hf
  have hcreated := createGrant_arc w.zone r (endGrant .maxDwell (dwellBasis g s))
  have harbitrate : arbitrate (maxDwellEnd g s) = createGrant w.zone r (endGrant .maxDwell (dwellBasis g s)) := by
    rw [hend]
    exact arbitrate_of_decided hdecided (.inl (by rw [(createGrant_grant _ _ _).1]; rfl))
  obtain ⟨hq1, hq2⟩ := endGrant_pointers .maxDwell (dwellBasis g s)
  have hbasis : s.grantBasis (endGrant .maxDwell (dwellBasis g s)) := by
    have hroute := endGrant_route .maxDwell hheld
    refine ⟨harc.settings.trans ksettings, harc.sensing.trans ksensing, harc.doors.trans kdoors,
      (endGrant_claim _ _).trans kclaim, hq2.trans kp2, ?_, ?_⟩
    · rw [hroute, kroute]
    · rw [hroute, kroute]
  obtain ⟨hmade, hlast⟩ := finish_created
    (by rw [hend, hcreated.defrost, harc.defrost, kdefrost]; exact hphase)
    (State.claimSound_of_noClaim (by
      rw [hend, createGrant_arb]
      show (if r = .recovery then false else (endGrant _ _).arb.claim) = false
      rw [hnoclaim]
      exact ite_self _))
    (by rw [hend, hcreated.mode, harc.mode, kmode, hrun]) harbitrate hbasis
  exact ⟨hlast.trans (endGrant_lastEnd .maxDwell hheld), hmade⟩

/-- Settles O46: the check, and the outcome of the end where nobody or one zone waits. -/
theorem maxDwellExpiry : Obligations.MaxDwellExpiry := by
  intro s g hgrant hcooling hleft
  generalize hg' : ({ g with maxLeft := 0 } : Grant) = g'
  have hzone : g'.zone = g.zone := by rw [← hg']
  generalize hs' : ({ s with arb := { s.arb with grant := some g' } } : State) = s'
  have hmap : (s.mapGrant fun g => { g with maxLeft := 0 }) = s' := by rw [mapGrant_some _ hgrant, hg', hs']
  have hexec : exec .maxDwellExpiry s = .next (finish (maxDwellEnd g' s')) := by
    refine congrArg Host.Outcome.next ((if_pos (s.maxDwellDue_iff.2 ⟨g, hgrant, hcooling, hleft⟩)).trans ?_)
    rw [hmap, maxDwellExpired, ← hs']
  obtain ⟨r, hdemand, hlevel, -, -, hcheck⟩ := noProgressCheck_only g' s'
  have hzones : ∀ z, State.sameZone (noProgressCheck g' s') (finish (maxDwellEnd g' s')) z := fun z =>
    State.sameZone.trans (State.sameZone_of_eq (by rw [(maxDwellEnd_arc g' s').zones])) (finish_sameZone _ z)
  have hself : (noProgressCheck g' s').zones.get g.zone = r := by
    rw [hcheck, hzone]
    exact PerZone.get_set_self _ _ _
  have hszones : s'.zones = s.zones := by rw [← hs']
  have hssettings : s'.settings = s.settings := by rw [← hs']
  have hp2 : (normalise s').arb.p2 = (normalise s).arb.p2 :=
    (normalise_congr hssettings (by rw [← hs']) (by rw [← hs'])).2
  have happlied : ∀ a b, g.door = false → g.reason ≠ .recovery → g.startTemp = some a →
      (s.sensing.air.get g.zone).filtered = some b → ∀ q : ZoneRec,
      q = (if a - b < (s.settings.arb.progress : Int) then
            if 3 ≤ (s.zones.get g.zone).noProgress + 1 then
              { s.zones.get g.zone with noProgress := 0, isolation := some (mins s.settings.arb.isolationHold) }
            else { s.zones.get g.zone with noProgress := (s.zones.get g.zone).noProgress + 1 }
          else { s.zones.get g.zone with noProgress := 0 }) →
      ((finish (maxDwellEnd g' s')).zones.get g.zone).noProgress = q.noProgress ∧
        ((finish (maxDwellEnd g' s')).zones.get g.zone).isolation = q.isolation := by
    rintro a b hdoor hreason ha hb q rfl
    have hrecord := noProgressCheck_self (g := g') (s := s') (a := a) (b := b) (by rw [← hg']; exact hdoor)
      (by rw [← hg']; exact hreason) (by rw [← hg']; exact ha) (by rw [← hs', hzone]; exact hb)
    rw [hzone, hszones, hssettings] at hrecord
    rw [(hzones g.zone).noProgress, (hzones g.zone).isolation, hrecord]
    exact ⟨rfl, rfl⟩
  refine ⟨_, hexec, fun z hz => ?_, ?_, ?_, fun hexempt => ?_, fun a b hdoor hreason ha hb => ⟨fun hprogress => ?_,
    fun hno hfew => ?_, fun hno hmany => ?_⟩, fun hrun hphase hclaim hforced => ⟨fun hwaiting hselectable hisolation => ?_,
    fun w hwaiting hw hother => ?_⟩⟩
  · refine State.sameZone.trans (State.sameZone_of_eq ?_) (hzones z)
    rw [hcheck, hzone, ← hszones]
    exact PerZone.get_set_other _ hz _
  · rw [(hzones g.zone).demand, hself, hdemand, hzone, hszones]
  · rw [(hzones g.zone).level, hself, hlevel, hzone, hszones]
  · have hexempt' : noProgressCheck g' s' = s' := by
      refine noProgressCheck_of_exempt ?_
      rw [← hs', ← hg']
      exact hexempt
    refine State.sameZone.trans (State.sameZone_of_eq ?_) (hzones g.zone)
    rw [hexempt', hszones]
  · exact happlied a b hdoor hreason ha hb _ (if_neg (not_lt.2 hprogress)).symm
  · refine happlied a b hdoor hreason ha hb { s.zones.get g.zone with noProgress := _ } ?_
    rw [if_pos hno, if_neg (by omega)]
  · have h := happlied a b hdoor hreason ha hb
      { s.zones.get g.zone with noProgress := 0, isolation := some (mins s.settings.arb.isolationHold) }
      (by rw [if_pos hno, if_pos (by omega)])
    refine ⟨h.1, h.2.trans ?_⟩
    simp [mins, Nat.mul_assoc]
  · have hchecked : ((noProgressCheck g' s').zones.get g.zone).isolation = none := by
      rw [← (hzones g.zone).isolation, hisolation]
    have hregrant := finish_regrant (s := s') (g := g') (by rw [← hs']; exact hrun) (by rw [← hs']; exact hphase)
      (by rw [← hs']; exact hclaim) (by rw [← hs']; exact hforced) (by rw [← hs']; exact hwaiting)
      (selectable_of_check (by rw [← hs', hzone]; exact hselectable) (by rw [hzone]; exact hchecked))
    rw [hzone, hp2] at hregrant
    rw [← hs'] at hregrant ⊢
    exact hregrant
  · have hisolation : ((noProgressCheck g' s').zones.get w.zone).isolation = none := by
      rw [hcheck, hzone, PerZone.get_set_other _ hother, hszones]
      have hmember := (selectable_spec hw).2.2.2.2.2
      simp only [State.member, State.isolated, Bool.and_eq_true, Bool.not_eq_true'] at hmember
      simpa using hmember.2
    have hover := finish_handOver (s := s') (g := g') (w := w) (by rw [← hs']) (by rw [← hs']; exact hrun)
      (by rw [← hs']; exact hphase) (by rw [← hs']; exact hclaim) (by rw [← hs']; exact hforced)
      (by rw [← hs']; exact hwaiting) (selectable_of_check (by rw [← hs']; exact hw) hisolation)
      (by rw [hzone]; exact hother)
    unfold State.grantMade at hover ⊢
    rw [hzone, hp2] at hover
    rw [← hs'] at hover ⊢
    exact hover

end Sys2Proof.Machine
end

section
/-!
PROOFS. The entry to SERVICE and the exit from it (statements O27, O29).
-/
namespace Sys2Proof.Machine

/-- With no defrost PENDING what follows an event changes of the defrost controller's record the heater and the mark of an
unbroken second. -/
theorem finish_defrost_of_not_pending {s : State} (hphase : s.defrost.phase ≠ .pending) :
    (finish s).defrost =
      { s.defrost with heater := (finish s).defrost.heater, minute := (finish s).defrost.minute } := by
  have hsame : (settle (settle (initEnd s))).defrost = s.defrost := by
    rw [settle_defrost, settle_defrost, initEnd_eq]
  rw [finish_of_not_pending hphase]
  generalize settle (settle (initEnd s)) = r at hsame
  rw [← hsame]
  rfl

/-! ## The entry -/

theorem serviceArbiter_arc (s : State) : ArcOnly s (serviceArbiter s) := by
  unfold serviceArbiter
  exact (((endGrant_arc .service s).trans (clearPreChill_arc _)).trans rfl)

theorem endGrant_dampers (r : EndReason) (s : State) : (endGrant r s).route.dampers = s.route.dampers := by
  unfold endGrant
  split <;> rfl

theorem serviceArbiter_route (s : State) :
    (serviceArbiter s).route.valve = { s.route.valve with rehomeAsk := .none } ∧
      (serviceArbiter s).route.dampers = s.route.dampers := by
  unfold serviceArbiter State.mapValve clearPreChill
  dsimp only
  rw [endGrant_valve, endGrant_dampers]
  exact ⟨rfl, rfl⟩

theorem serviceArbiter_arb (s : State) :
    (serviceArbiter s).arb =
      { (endGrant .service s).arb with idle := some .inactive, parkTimer := none, lastRoute := none } := rfl

/-- The ending at once of a defrost in progress (R151). -/
theorem endDefrostAtOnce_of_idle {s : State} (h : s.defrost.phase = .idle) : endDefrostAtOnce s = s := if_pos h

theorem endDefrostAtOnce_of_active {s : State} (h : s.defrost.phase ≠ .idle) :
    (endDefrostAtOnce s).defrost =
      { s.defrost with
        phase := .idle
        credit := 0
        elapsed := 0
        minute := (endDefrostAtOnce s).defrost.minute
        phaseFor := 0
        context := none
        fanBlock := false
        report := (s.defrost.context.map fun c => c.report .abort s.defrost.th).or s.defrost.report } := by
  have hend : endDefrostAtOnce s = endDefrost .abort s.defrost.th (holdDefrost false s) := if_neg h
  rw [hend]
  rfl

theorem endDefrostAtOnce_th (s : State) : (endDefrostAtOnce s).defrost.th = s.defrost.th := by
  unfold endDefrostAtOnce
  split <;> rfl

theorem endDefrostAtOnce_member (s : State) (z : Zone) : (endDefrostAtOnce s).member z = s.member z := by
  have hzone : ((endDefrostAtOnce s).zones.get z).demand = (s.zones.get z).demand ∧
      ((endDefrostAtOnce s).zones.get z).isolation = (s.zones.get z).isolation := by
    unfold endDefrostAtOnce
    split
    · exact ⟨rfl, rfl⟩
    · cases z <;> exact ⟨rfl, rfl⟩
  have honly := endDefrostAtOnce_only s
  unfold State.member State.isolated State.present
  rw [hzone.1, hzone.2, honly.strap, honly.settings]

/-- The state at the entry to SERVICE, in the parts that the recomputation leaves. -/
theorem enterService_spec (s : State) :
    ∃ t : State, t = endDefrostAtOnce (serviceArbiter s) ∧
      (enterService s).mode = { t.mode with opState := .service, serviceTimer := some (sec 900) } ∧
      (enterService s).service = serviceSettings t ∧ (enterService s).comp.serviceSpeed = 0 ∧
      (enterService s).arb = t.arb ∧
      (enterService s).route = { t.route with valve := { t.route.valve with target := some (serviceSettings t).valve } } ∧
      (enterService s).defrost = t.defrost ∧ (enterService s).zones = t.zones ∧ (enterService s).settings = t.settings ∧
      (enterService s).sensing = t.sensing ∧ (enterService s).doors = t.doors ∧ (enterService s).strap = t.strap ∧
      (enterService s).pending = t.pending := by
  refine ⟨_, rfl, ?_⟩
  unfold enterService
  dsimp only
  split
  · have hsteady := fun u : State => (recompute_steady u).serviceSpeed
    have harc := fun u : State => recompute_arc u
    refine ⟨(harc _).mode, (harc _).service, hsteady _, arb_recompute _, route_recompute _, (harc _).defrost,
      (harc _).zones, (harc _).settings, (harc _).sensing, (harc _).doors, (harc _).strap, ?_⟩
    rw [harc _]
    rfl
  · exact ⟨rfl, rfl, rfl, rfl, rfl, rfl, rfl, rfl, rfl, rfl, rfl, rfl⟩

/-- Outside RUN an exact list stands through what follows an event with the defrost IDLE. -/
theorem finish_waiting_outside {s : State} (hmode : s.mode.opState ≠ .run) (hinit : initEnd s = s)
    (hphase : s.defrost.phase ≠ .pending) (hexact : s.listExact) : (finish s).arb.waiting = s.arb.waiting := by
  have hfirst : (settle s).arb.waiting = s.arb.waiting := by
    rw [settle_waiting, arbitrate_not_run hmode, relist_of_exact hexact]
  rw [finish_of_not_pending hphase, hinit, publish_arb, settle_waiting,
    arbitrate_not_run (by rw [(settle_arc s).mode]; exact hmode), settle_relist, hfirst]

theorem listExact_of_relisted {s : State} (h : s.relisted = s.arb.waiting) : s.listExact := by
  have hsame : relist s = s := by
    unfold relist
    rw [h]
  rw [← hsame]
  exact relist_exact s

/-- Settles O27: what the entry sets, and that what follows in SERVICE leaves it. -/
theorem serviceEnter : Obligations.ServiceEnter := by
  intro s htaking
  refine ⟨fun hmode => ?_, fun hmode => ?_⟩
  · exact congrArg Host.Outcome.next ((takeRequest_owner
      (owner := fun s => if s.mode.opState = .run then accept .ok (enterService s) else refuse .notNow s) htaking rfl
      (if_neg hmode) opStateFields).trans rfl)
  · obtain ⟨t, ht, hm, hservice, hspeed, harb, hroute, hdefrost, hzones, hsettings, hsensing, hdoors, hstrap, hpending⟩ :=
      enterService_spec s
    have hbus := enterService_bus s
    have hgrant := enterService_grant s
    have hphase := enterService_phase s
    have howner : (if s.mode.opState = .run then accept .ok (enterService s) else refuse .notNow s) =
        (.ok, finish (enterService s)) := if_pos hmode
    generalize hu : enterService s = u at *
    have honly : DefrostOnly (serviceArbiter s) t := ht ▸ endDefrostAtOnce_only _
    have harc := serviceArbiter_arc s
    obtain ⟨hvalve, hdampers⟩ := serviceArbiter_route s
    have htroute : t.route = (serviceArbiter s).route := honly.route
    have hume : u.mode = ⟨.service, s.mode.startCause, some (sec 900)⟩ := by rw [hm, honly.mode, harc.mode]
    have hnot : u.mode.opState ≠ .run := by rw [hume]; exact nofun
    have hinit : initEnd u = u := initEnd_of_not_init (by rw [hume]; exact nofun)
    have hidle : u.defrost.phase ≠ .pending := by rw [hphase]; exact nofun
    have hfinal := finish_arb_outside hnot hinit
    have huarb : u.arb = { (endGrant .service s).arb with
        idle := some .inactive, parkTimer := none, lastRoute := none, claim := u.arb.claim } := by
      rw [harb, honly.arb, serviceArbiter_arb]
    have hexact : s.relisted = s.arb.waiting → u.listExact := by
      intro hlist
      refine listExact_congr (s := endGrant .service s) (by rw [huarb]) (fun z => ?_)
        (fun z => holds_congr (by rw [huarb]) z) (endGrant_listExact .service (listExact_of_relisted hlist))
      have hmember : u.member z = t.member z := by
        unfold State.member State.isolated State.present
        rw [hzones, hsettings, hstrap]
      rw [hmember, ht, endDefrostAtOnce_member, harc.member, (endGrant_arc .service s).member]
    have hwaiting : s.relisted = s.arb.waiting → (finish u).arb.waiting = (endGrant .service s).arb.waiting := by
      intro hlist
      rw [finish_waiting_outside hnot hinit hidle (hexact hlist), huarb]
    have hserviceValve : u.service.valve = s.route.valve.serviceTarget := by
      rw [hservice, serviceSettings, htroute, hvalve]
      rfl
    have hfinalDefrost := finish_defrost_of_not_pending hidle
    have hsdefrost : (serviceArbiter s).defrost = s.defrost := harc.defrost
    refine ⟨finish u, ?_, (finish_mode_outside hnot hinit).trans hume, finish_grant_outside hnot hinit hgrant, ?_, ?_, ?_,
      fun g hg => ?_, fun hlist => ⟨fun hnone => ?_, fun g hg => ?_⟩, ?_, ?_, ?_, ?_, ?_, ?_, ?_, ?_, ?_, fun hdrive => ?_,
      fun m hdrive hmove => ?_, fun p hdrive hmove hrest => ?_, ?_, ?_, fun hwas => ?_, fun hwas => ?_, fun c hwas hc => ?_,
      ?_, ?_, ?_, ?_, ?_⟩
    · refine congrArg Host.Outcome.next ((takeRequest_owner (r := .ok) (t := finish u)
        (owner := fun s => if s.mode.opState = .run then accept .ok (enterService s) else refuse .notNow s) htaking rfl
        (by rw [hu]; exact howner) opStateFields).trans ?_)
      unfold opStateFields
      rw [finish_mode_outside hnot hinit, hume]
      rfl
    · rw [hfinal, huarb]
    · rw [hfinal, huarb]
    · rw [finish_forced, huarb, endGrant_forced]
    · rw [hfinal, huarb]
      exact endGrant_lastEnd .service hg
    · rw [hwaiting hlist, endGrant_none .service hnone]
    · rw [hwaiting hlist]
      exact endGrant_waiting .service hg hlist
    · exact (finish_sameRecord u).2.2.2.2.trans hspeed
    · rw [finish_service, hservice]
      rfl
    · rw [finish_service, hservice]
      rfl
    · rw [finish_service, hservice]
      rfl
    · rw [finish_service, hservice]
      rfl
    · rw [finish_service, hservice, serviceSettings, htroute, hdampers]
    · rw [finish_service, hservice, serviceSettings, htroute, hdampers]
    · rw [finish_dampers_outside hnot hinit, hroute, htroute, hdampers]
    · rw [finish_valve_outside hnot hinit, finish_service, hservice, Valve.kick_target]
      · rw [hroute]
      · rw [hroute, htroute, hvalve]
    · rw [finish_service, hserviceValve]
      exact if_pos (Option.isSome_iff_ne_none.2 hdrive)
    · rw [finish_service, hserviceValve, Valve.serviceTarget, if_neg (by simp [hdrive]), hmove]
    · rw [finish_service, hserviceValve, Valve.serviceTarget, if_neg (by simp [hdrive]), hmove, hrest]
      rfl
    · rw [hfinalDefrost]
      exact hphase
    · rw [hfinalDefrost]
      show u.defrost.th = _
      rw [hdefrost, ht, endDefrostAtOnce_th, hsdefrost]
    · rw [hfinalDefrost]
      show u.defrost.report = _
      rw [hdefrost, ht, endDefrostAtOnce_of_idle (by rw [hsdefrost, hwas]), hsdefrost]
    · rw [hfinalDefrost]
      show u.defrost.credit = 0 ∧ u.defrost.elapsed = 0 ∧ u.defrost.fanBlock = false
      rw [hdefrost, ht, endDefrostAtOnce_of_active (by rw [hsdefrost]; exact hwas)]
      exact ⟨rfl, rfl, rfl⟩
    · rw [hfinalDefrost]
      show u.defrost.report = _
      rw [hdefrost, ht, endDefrostAtOnce_of_active (by rw [hsdefrost]; exact hwas), hsdefrost, hc]
      rfl
    · rw [finish_settings, hsettings, honly.settings, harc.settings]
    · rw [finish_sensing, hsensing, honly.sensing, harc.sensing]
    · rw [finish_doors, hdoors, honly.doors, harc.doors]
    · rw [finish_bus, hbus]
    · rw [finish_pending, hpending, honly, harc]

/-! ## The exit -/

theorem serviceStop_route (s : State) : (serviceStop s).route = s.route := by
  unfold serviceStop
  split <;> rfl

/-- The compressor at the exit: a running one is stopped whatever min-on says (R203 step 1). -/
theorem serviceStop_comp (s : State) :
    (serviceStop s).comp.serviceSpeed = 0 ∧ (serviceStop s).compAvailable = s.compAvailable ∧
      (serviceStop s).comp.state ≠ .running ∧
      (s.comp.state = .running →
        (serviceStop s).comp.state = .stopped ∧ (serviceStop s).comp.command = 0 ∧ (serviceStop s).comp.stopFor = 0) := by
  unfold serviceStop
  split
  · rename_i h
    exact ⟨rfl, by simp [State.compAvailable, State.setComp, stopComp, h], nofun, fun _ => ⟨rfl, rfl, rfl⟩⟩
  · rename_i h
    exact ⟨rfl, rfl, h, fun hrun => absurd hrun h⟩

/-- The state that the exit leaves (R203). -/
theorem leaveService_spec (s : State) :
    leaveService s =
      { s with
        mode := { s.mode with opState := .run, serviceTimer := none }
        service := .reset
        comp := (serviceStop s).comp
        arb := { s.arb with idle := some .rehome, p1 := (normalise s).arb.p1, p2 := (normalise s).arb.p2 }
        route :=
          { s.route with valve := s.route.valve.serviceExit.kick, dampers := s.route.dampers.change 0 0 } } := by
  have harc := serviceStop_arc s
  have hroute := serviceStop_route s
  have harb := serviceStop_arb s
  unfold leaveService
  generalize serviceStop s = w at harc hroute harb ⊢
  dsimp only
  rw [normalise_eq]
  obtain ⟨hp1, hp2⟩ := normalise_congr (s := s)
    (t := kickValve (changeDampers 0 0 (State.mapValve
      { w with
        mode := { w.mode with opState := .run, serviceTimer := none }
        service := .reset
        arb := { w.arb with idle := some .rehome } } Valve.serviceExit)))
    harc.settings (by show w.arb.p1 = _; rw [harb]) (by show w.arb.p2 = _; rw [harb])
  rw [hp1, hp2]
  unfold kickValve changeDampers State.mapValve
  dsimp only
  rw [hroute, harb, harc.mode, harc.strap, harc.settings, harc.sensing, harc.doors, harc.zones, harc.defrost, harc.bus,
    harc.pending]
  rw [harc]

/-- The valve at the exit is on its way into a rehome (R203 step 3, R99). -/
theorem Valve.serviceExit_rehoming (v : Valve) : v.serviceExit.kick.rehoming = true := by
  rw [Valve.kick_rehoming]
  unfold Valve.serviceExit
  split
  · rename_i h
    exact h
  · simp [Valve.rehoming]

theorem Valve.serviceExit_target (v : Valve) (hask : v.rehomeAsk = .none) : v.serviceExit.kick.target = some .closed := by
  unfold Valve.serviceExit
  split
  · exact Valve.kick_target hask
  · unfold Valve.kick
    split
    · rfl
    · rw [if_pos (by simp)]
      rfl

/-- With no move under way the rehome's drive begins, or a rehome's drive goes on as that rehome. -/
theorem Valve.serviceExit_drive {v : Valve} (hask : v.rehomeAsk = .none) (hmove : v.move = none)
    (hdrive : v.drive ≠ none → v.homing = .rehome) (h : v.homing = .none ∨ v.drive ≠ none) :
    v.serviceExit.kick.homing = .rehome ∧ v.serviceExit.kick.drive = some (v.drive.getD 0) ∧
      v.serviceExit.kick.rehomeFinal = .closed := by
  cases hd : v.drive with
  | some d =>
    have hrehome := hdrive (by rw [hd]; exact nofun)
    have hexit : v.serviceExit = { v with target := some .closed, rehomeFinal := .closed } :=
      if_pos (by simp [Valve.rehoming, hrehome])
    rw [hexit, Valve.kick, if_pos (by simp [hd])]
    exact ⟨hrehome, hd, rfl⟩
  | none =>
    have hhoming := h.resolve_right (not_not.2 hd)
    have hexit : v.serviceExit = { v with target := some .closed, rehomeAsk := .toClosed } :=
      if_neg (by simp [Valve.rehoming, hhoming, hask])
    rw [hexit, Valve.kick, if_neg (by simp [hmove, hd]), if_pos (by simp)]
    exact ⟨rfl, rfl, rfl⟩

/-- A move under way completes first (R99). -/
theorem Valve.serviceExit_move {v : Valve} (hask : v.rehomeAsk = .none) (hmove : v.move ≠ none)
    (hhoming : v.homing ≠ .rehome) :
    v.serviceExit.kick.move = v.move ∧ v.serviceExit.kick.rehomeAsk = .toClosed := by
  have hexit : v.serviceExit = { v with target := some .closed, rehomeAsk := .toClosed } :=
    if_neg (by simp [Valve.rehoming, hhoming, hask])
  have hsome : v.move.isSome = true := Option.isSome_iff_ne_none.2 hmove
  rw [hexit, kick_of_moving (v := { v with target := some .closed, rehomeAsk := .toClosed }) hsome]
  exact ⟨rfl, rfl⟩

/-- The selection at the exit is that of SERVICE: the operating state, the route and the stop do not enter into it. -/
theorem leaveService_winner (s : State) : (leaveService s).winner = s.winner := by
  have hspec := leaveService_spec s
  have hav := (serviceStop_comp s).2.1
  have hfirst := normalise_congr (s := normalise s) (t := relist (leaveService s))
    (by rw [hspec]; exact (normalise_arc s).settings.symm) (by rw [hspec]; rfl) (by rw [hspec]; rfl)
  rw [normalise_normalise] at hfirst
  have hlist := normalise_congr (s := s) (t := relist s) rfl rfl rfl
  unfold State.winner
  refine selection_congr ?_ ?_ ?_ ?_ (hfirst.1.trans hlist.1.symm) (hfirst.2.trans hlist.2.symm) (fun z => ?_) none
  · rw [(normalise_arc _).settings, (normalise_arc _).settings, hspec] <;> rfl
  · rw [normalise_waiting, normalise_waiting, hspec] <;> rfl
  · rw [normalise_claim, normalise_claim, hspec] <;> rfl
  · rw [normalise_forced, normalise_forced, hspec] <;> rfl
  · have hcomp : (relist (leaveService s)).compAvailable = s.compAvailable := by
      rw [← hav]
      exact compAvailable_of_comp (by rw [hspec]; rfl)
    rw [(normalise_arc _).selectable (compAvailable_of_comp (normalise_comp _)),
      (normalise_arc _).selectable (compAvailable_of_comp (normalise_comp _))]
    unfold State.selectable
    rw [hcomp, hspec] <;> rfl

/-- Without an application a grant that a rehome keeps from its route stays in ROUTING. -/
theorem settle_grant_of_waiting {x y : State} {z : Zone} {r : GrantReason} (h : arbitrate x = createGrant z r y)
    (hrehoming : y.route.valve.rehoming = true) (happ : y.route.app = none) :
    (settle x).arb.grant = some (y.newGrant z r) := by
  have hroute : (arbitrate x).route.app = none := by
    rw [h, createGrant_route, if_pos hrehoming]
    exact happ
  rw [settle_eq]
  rcases coolingStart_route_cases (passBody (arbitrate x)) with hc | ⟨g, a, -, ha, -⟩
  · rw [hc, passBody_arb, h, createGrant_arb]
  · rw [passBody_app, hroute] at ha
    cases ha

/-- The exit from SERVICE without a grant, with the defrost IDLE, through what follows it. -/
theorem finish_leaveService {s : State} (hgrant : s.arb.grant = none) (hphase : s.defrost.phase = .idle) :
    (finish (leaveService s)).route.valve = s.route.valve.serviceExit.kick ∧
      (finish (leaveService s)).route.dampers = s.route.dampers.change 0 0 ∧
      (s.winner = none →
        (finish (leaveService s)).arb.grant = none ∧ (finish (leaveService s)).arb.idle = some .rehome) ∧
      ∀ z r, s.route.app = none → s.winner = some (z, r) →
        ∃ g, (finish (leaveService s)).arb.grant = some g ∧ g.zone = z ∧ g.reason = r ∧ g.phase = .routing ∧
          (finish (leaveService s)).arb.idle = none := by
  have hspec := leaveService_spec s
  have hwinner := leaveService_winner s
  have hrehoming := Valve.serviceExit_rehoming s.route.valve
  generalize leaveService s = u at hspec hwinner ⊢
  have hrun : u.mode.opState = .run := by rw [hspec]
  have hnone : u.arb.grant = none := by rw [hspec]; exact hgrant
  have hidle : u.arb.idle = some .rehome := by rw [hspec]
  have huvalve : u.route.valve = s.route.valve.serviceExit.kick := by rw [hspec]
  have hudampers : u.route.dampers = s.route.dampers.change 0 0 := by rw [hspec]
  have huapp : u.route.app = s.route.app := by rw [hspec]
  have hnot : u.defrost.phase ≠ .pending := by rw [hspec]; simp [hphase]
  have hinit : initEnd u = u := initEnd_of_not_init (by rw [hrun]; exact nofun)
  have hsound : u.claimSound := State.claimSound_of_noGrant hnone
  cases hw : s.winner with
  | none =>
    have harbitrate : arbitrate u = relist u := by
      rw [arbitrate_of_no_winner hrun hnone (hwinner.trans hw),
        runoutEnd_of_lasts (s := relist u) fun hr => absurd (hidle.symm.trans hr) (by simp),
        rehomeTest_of_done (s := relist u) (State.rehomeDone_of_idle (s := relist u) fun hp => absurd (hidle.symm.trans hp) (by simp))]
    have harb := settle_arb_of_idle (s := u) (by rw [harbitrate]; exact hnone)
    rw [harbitrate] at harb
    have hidle' : (settle u).arb.idle = some .rehome := by rw [harb]; exact hidle
    have hgrant' : (settle u).arb.grant = none := by rw [harb]; exact hnone
    rw [finish_of_idle hnot hsound (by rw [hinit]; exact hrun) (by rw [hinit]; exact hgrant')
      (by rw [hinit, hidle']; exact nofun), hinit]
    refine ⟨?_, ?_, fun _ => ⟨hgrant', hidle'⟩, fun z r _ h => absurd h (by simp)⟩
    · rw [publish_valve, settle_valve, harbitrate, relist_route, huvalve, Valve.kick_kick]
    · rw [publish_dampers, settle_dampers, harbitrate, relist_route, hudampers]
  | some p =>
    obtain ⟨z, r⟩ := p
    have hcreated : arbitrate u = createGrant z r (normalise (relist u)) := by
      rw [arbitrate_run_none hrun hnone]
      rcases noGrant_cases (relist u) with ⟨z', r', hw', h⟩ | ⟨hw', -⟩
      · obtain ⟨rfl, rfl⟩ := Prod.mk.inj (Option.some.inj (hw'.symm.trans (hwinner.trans hw)))
        exact h
      · exact absurd (hw'.symm.trans (hwinner.trans hw)) (by simp)
    have hyroute : (normalise (relist u)).route = u.route := by rw [normalise_route, relist_route]
    have hwait : (normalise (relist u)).route.valve.rehoming = true := by rw [hyroute, huvalve, hrehoming]
    have hroute := createGrant_route z r (normalise (relist u))
    rw [if_pos hwait, hyroute] at hroute
    have hsome : (settle u).arb.grant.isSome = true := by
      rcases settle_grant u with h | ⟨g, -, -, h⟩
      · rw [h, hcreated, (createGrant_grant _ _ _).1]
        rfl
      · rw [h]
        rfl
    rw [finish_of_held hnot hsound (.inl (by rw [hinit]; exact hsome)), hinit]
    refine ⟨?_, ?_, fun h => absurd h (by simp), fun z' r' happ h => ?_⟩
    · rw [publish_valve, settle_valve, hcreated, hroute]
      show u.route.valve.kick = _
      rw [huvalve, Valve.kick_kick]
    · rw [publish_dampers, settle_dampers, hcreated, hroute]
      exact hudampers
    · obtain ⟨rfl, rfl⟩ := Prod.mk.inj (Option.some.inj h)
      refine ⟨_, settle_grant_of_waiting hcreated hwait (by rw [hyroute, huapp, happ]), rfl, rfl, rfl, ?_⟩
      rw [publish_arb, settle_idle, hcreated, createGrant_arb]

/-- Settles O29: the exit's effects, alike for the request and the timer. -/
theorem serviceLeft : Obligations.ServiceLeft := by
  intro s
  refine ⟨fun hmode htaking => ?_, fun hmode => ?_⟩
  · exact congrArg Host.Outcome.next ((takeRequest_owner
      (owner := fun s => if s.mode.opState = .service then accept .ok (leaveService s) else refuse .notNow s) htaking rfl
      (if_neg hmode) opStateFields).trans rfl)
  · have hspec := leaveService_spec s
    have hrun : (leaveService s).mode.opState = .run := by rw [hspec]
    have hinit : initEnd (leaveService s) = leaveService s := initEnd_of_not_init (by rw [hrun]; exact nofun)
    have hfinalMode : (finish (leaveService s)).mode = ⟨.run, s.mode.startCause, none⟩ := by
      rw [finish_mode_eq, hinit, hspec]
    obtain ⟨hspeed, -, hnotRunning, hstopped⟩ := serviceStop_comp s
    have hcomp : (leaveService s).comp = (serviceStop s).comp := by rw [hspec]
    refine ⟨finish (leaveService s), fun htaking => ?_, fun left htimer hleft => ?_, hfinalMode, ?_, ?_,
      fun hwas hoff => ?_, fun hgrant hask hphase hdrive => ?_, ?_, ?_, ?_, ?_, ?_⟩
    · refine congrArg Host.Outcome.next ((takeRequest_owner (r := .ok) (t := finish (leaveService s))
        (owner := fun s => if s.mode.opState = .service then accept .ok (leaveService s) else refuse .notNow s) htaking rfl
        (if_pos hmode) opStateFields).trans ?_)
      unfold opStateFields
      rw [hfinalMode]
      rfl
    · exact congrArg Host.Outcome.next (if_pos (s.serviceTimerDue_iff.2 ⟨hmode, left, htimer, hleft⟩))
    · rw [finish_service, hspec]
      rfl
    · rw [(finish_sameRecord _).2.2.2.2, hcomp, hspeed]
    · obtain ⟨hstate, hcommand, hstopFor⟩ := hstopped hwas
      have hstill : ∀ x : State, x.comp = (serviceStop s).comp → x.settings = s.settings → (settle x).comp = x.comp := by
        intro x hx hsettings
        refine settle_comp_of_still (by rw [hx]; exact hnotRunning) fun _ => ?_
        rw [State.minOffElapsed, hx, hstopFor, hsettings]
        exact decide_eq_false (by unfold sec Ticks; omega)
      have hfirst := hstill (leaveService s) hcomp (by rw [hspec])
      have htest := pendingTest_only (settle (leaveService s))
      have hsecond := hstill (pendingTest (settle (leaveService s))) (by rw [htest.comp, hfirst, hcomp])
        (by rw [htest.settings, (settle_arc _).settings, hspec])
      have hfinal : (settle (pendingTest (settle (initEnd (leaveService s))))).comp = (serviceStop s).comp := by
        rw [hinit, hsecond, htest.comp, hfirst, hcomp]
      rw [finish_eq_settle, publish_compState, publish_command, publish_stopFor, hfinal]
      exact ⟨hstate, hcommand, hstopFor⟩
    · obtain ⟨hvalve, hdampers, hidle, hgranted⟩ := finish_leaveService hgrant hphase
      have htargets := Dampers.change_targets s.route.dampers 0 0
      rw [hvalve, hdampers]
      exact ⟨htargets.1, htargets.2, Valve.serviceExit_target _ hask, Valve.serviceExit_rehoming _,
        fun hmove hh => Valve.serviceExit_drive hask hmove hdrive hh, fun hmove _ hhoming => Valve.serviceExit_move hask hmove hhoming, hidle,
        hgranted⟩
    · rw [finish_settings, hspec]
    · rw [finish_sensing, hspec]
    · rw [finish_doors, hspec]
    · rw [finish_bus, hspec]
    · rw [finish_pending, hspec]

end Sys2Proof.Machine
end

section
/-!
PROOFS. The defrost controller's phases: the recovery claim through what follows an event, the entry to RECOVER and the
completion (statements O55, O56).
-/
namespace Sys2Proof.Machine

/-! ## The recovery claim through a pass (R65, R69) -/

/-- The recovery grant of FREEZE exists. -/
def State.recovering (s : State) : Prop :=
  ∃ g, s.arb.grant = some g ∧ g.zone = .freeze ∧ g.reason = .recovery

/-- The claim has gone into the recovery grant of FREEZE, which leaves nothing to decide. -/
def State.claimUsed (s : State) : Prop := s.arb.claim = false ∧ s.decided ∧ s.recovering

/-- A new grant leaves the claim, unless it is the claim's own, which leaves nothing to decide. -/
theorem createGrant_claimed {x : State} {z : Zone} {r : GrantReason} (hexact : x.listExact) (hgrant : x.arb.grant = none)
    (hz : x.selectable z = true) (hrecovery : r = .recovery → z = .freeze) :
    (createGrant z r x).arb.claim = x.arb.claim ∨ (createGrant z r x).claimUsed := by
  by_cases hr : r = .recovery
  · refine .inr ⟨?_, createGrant_decided hexact hgrant hz (fun _ _ => .inl hr) fun _ _ _ => .inr hr, _,
      (createGrant_grant z r x).1, hrecovery hr, hr⟩
    rw [createGrant_arb]
    exact if_pos hr
  · refine .inl ?_
    rw [createGrant_arb]
    exact if_neg hr

theorem createGrant_claimed_of_selection {x : State} {z : Zone} {r : GrantReason} (hexact : x.listExact)
    (hgrant : x.arb.grant = none) (h : x.selection none = some (z, r)) :
    (createGrant z r x).arb.claim = x.arb.claim ∨ (createGrant z r x).claimUsed := by
  obtain ⟨hcandidate, hreason⟩ := State.selection_spec h
  rw [State.candidate_none, waitingSelectable_of_noGrant hexact hgrant] at hcandidate
  refine createGrant_claimed hexact hgrant hcandidate fun hr => ?_
  rcases hreason with ⟨-, hz, -⟩ | ⟨hne, -⟩
  · exact hz
  · exact absurd hr hne

/-- An arbitration leaves the claim but for its own grant. -/
theorem arbitrate_claimed (s : State) :
    (arbitrate s).arb.claim = s.arb.claim ∨ (arbitrate s).claimUsed := by
  have hexact := relist_exact s
  have hselected : ∀ {x : State} {z r}, x.listExact → x.arb.grant = none → (normalise x).selection none = some (z, r) →
      (createGrant z r (normalise x)).arb.claim = x.arb.claim ∨
        (createGrant z r (normalise x)).claimUsed := by
    intro x z r hx hnone hw
    have h := createGrant_claimed_of_selection (normalise_listExact hx) (by rw [normalise_grant, hnone]) hw
    rwa [normalise_claim] at h
  by_cases hmode : s.mode.opState = .run
  · cases hgrant : s.arb.grant with
    | none =>
      rw [arbitrate_run_none hmode hgrant]
      rcases noGrant_cases (relist s) with ⟨z, r, hw, h⟩ | ⟨-, h⟩ <;> rw [h]
      · exact hselected hexact hgrant hw
      · refine .inl ?_
        rw [(rehomeTest_idleOnly _).claim, (runoutEnd_idleOnly _).claim]
        rfl
    | some g =>
      rw [arbitrate_run_some hmode hgrant]
      rcases heldGrant_cases g (relist s) with ⟨r, -, h⟩ | ⟨-, ⟨z, r, hp, -, h⟩ | ⟨-, h⟩⟩ <;> rw [h]
      · have hended : (endGrant r (relist s)).arb.claim = s.arb.claim := endGrant_claim r _
        rcases afterEnd_cases (endGrant r (relist s)) with ⟨z, r', hw, h'⟩ | ⟨-, h'⟩ <;> rw [h']
        · exact hended ▸ hselected (endGrant_listExact r hexact) (endGrant_grant r _) hw
        · refine .inl ?_
          rw [(enterIdle_idleOnly _).claim, normalise_claim, hended]
      · have hmark := markContinuation_eq (s := relist s) hgrant
        have hlist : (markContinuation (relist s)).listExact := mapGrant_listExact (fun _ => rfl) hexact
        have hclaim : (markContinuation (relist s)).arb.claim = s.arb.claim := by rw [hmark]; rfl
        generalize markContinuation (relist s) = x at hp hlist hclaim ⊢
        have harc : ArcOnly x (normalise (endGrant .preempted x)) := (endGrant_arc _ x).trans (normalise_arc _)
        have hcomp : (normalise (endGrant .preempted x)).compAvailable = x.compAvailable :=
          compAvailable_of_comp (by rw [normalise_comp, endGrant_comp])
        obtain ⟨hz, -, hreason⟩ := State.preemptor_spec hp
        have hcreated := createGrant_claimed (z := z) (r := r) (normalise_listExact (endGrant_listExact .preempted hlist))
          (by rw [normalise_grant, endGrant_grant])
          (by rw [harc.selectable hcomp]; exact ((x.waitingSelectable_iff z).1 hz).2) fun hr => by
            rcases hreason with ⟨-, hfreeze, -⟩ | ⟨hforced, -⟩
            · exact hfreeze
            · rw [hr] at hforced
              cases hforced
        rwa [normalise_claim, endGrant_claim, hclaim] at hcreated
      · exact .inl rfl
  · rw [arbitrate_not_run hmode]
    exact .inl rfl

/-- So does a pass. -/
theorem settle_claimed (s : State) :
    (settle s).arb.claim = s.arb.claim ∨ (settle s).claimUsed := by
  rcases arbitrate_claimed s with h | ⟨hgone, hdecided, g, hg, hz, hr⟩
  · exact .inl ((settle_claim s).trans h)
  · refine .inr ⟨(settle_claim s).trans hgone, settle_decided_of hdecided, ?_⟩
    rcases settle_grant s with h | ⟨g', hg', -, h⟩
    · exact ⟨g, h.trans hg, hz, hr⟩
    · obtain rfl := Option.some.inj (hg.symm.trans hg')
      exact ⟨_, h, hz, hr⟩

/-- Two passes keep a claim, or its grant. -/
theorem settle_settle_claimed {s : State} (h : s.arb.claim = true) :
    (settle (settle s)).arb.claim = true ∨ (settle (settle s)).recovering := by
  rcases settle_claimed s with hfirst | ⟨-, hdecided, hrecovering⟩
  · exact (settle_claimed (settle s)).imp (fun hc => hc.trans (hfirst.trans h)) (·.2.2)
  · have hheld : (settle s).arb.grant.isSome = true := by
      obtain ⟨g, hg, -⟩ := hrecovering
      rw [hg]
      rfl
    rw [settle_of_arbitrate (arbitrate_of_decided hdecided (.inl hheld))]
    exact .inr hrecovering

/-- A withdrawn claim is not placed again: an arbitration sets none. -/
theorem settle_noClaim {s : State} (h : s.arb.claim = false) : (settle s).arb.claim = false := by
  rcases settle_claimed s with hc | ⟨hc, -⟩
  · exact hc.trans h
  · exact hc

/-! ## Through what follows an event -/

section Finish
variable {s : State} (hphase : s.defrost.phase ≠ .pending)
include hphase

/-- With no defrost PENDING a claim stands after the event, or its grant exists. -/
theorem finish_claimed (h : s.arb.claim = true) : (finish s).arb.claim = true ∨ (finish s).recovering := by
  rw [finish_of_not_pending hphase]
  exact settle_settle_claimed (s := initEnd s) (by rw [initEnd_eq]; exact h)

theorem finish_noClaim (h : s.arb.claim = false) : (finish s).arb.claim = false := by
  rw [finish_of_not_pending hphase, publish_arb]
  exact settle_noClaim (settle_noClaim (by rw [initEnd_eq]; exact h))

theorem finish_holdDefrost (z : Zone) : ((finish s).zones.get z).holdDefrost = (s.zones.get z).holdDefrost := by
  rw [finish_of_not_pending hphase, publish_zones, (settle_arc _).zones, (settle_arc _).zones, initEnd_eq]

end Finish

/-! ## RECOVER (R147, R148) -/

/-- Th after a completion (R149), with the heat seconds as the ticks give them. -/
theorem adaptTh_eq (th : Nat) (e : Termination) (heatFor : Ticks) :
    adaptTh th e (elapsedSecs heatFor) =
      match e with
      | .time => max 240 (th / 2)
      | .temp => if heatFor < 720 * 9600 then min 5760 (th + th / 4) else th
      | .timeBlind => th
      | .abort => th := by
  cases e with
  | temp =>
    have hsecs : elapsedSecs heatFor < 720 ↔ heatFor < 720 * 9600 := Nat.div_lt_iff_lt_mul (by decide)
    unfold adaptTh
    simp only [hsecs]
  | time => rfl
  | timeBlind => rfl
  | abort => rfl

/-- `x` has the defrost controller's record of `s` but for the phase, its time, and the context, which is `c`. -/
abbrev State.defrostOf (s x : State) (c : DefrostContext) : Prop :=
  x.defrost = { s.defrost with phase := x.defrost.phase, phaseFor := x.defrost.phaseFor, context := some c }

theorem State.defrostOf_self {s : State} {c : DefrostContext} (h : s.defrost.context = some c) : State.defrostOf s s c := by
  unfold State.defrostOf
  rw [← h]

/-- The completion, with Th and the report as R148, R149 and R152 have them. -/
theorem completeDefrost_completed {s x : State} {c : DefrostContext} {e : Termination} (hdefrost : State.defrostOf s x c)
    (harb : { x.arb with claim := false } = { s.arb with claim := false }) (he : c.termination = some e) :
    State.defrostCompleted s (completeDefrost x) c e := by
  have hcontext : x.defrost.context = some c := by rw [hdefrost]
  have hcomplete : completeDefrost x = endDefrost e (adaptTh s.defrost.th e (elapsedSecs c.heatFor)) x := by
    unfold completeDefrost
    rw [hcontext, hdefrost]
    dsimp only
    rw [he]
    rfl
  rw [hcomplete, adaptTh_eq]
  refine ⟨?_, rfl, harb⟩
  unfold endDefrost
  dsimp only
  rw [hdefrost]
  rfl

/-- The entry to RECOVER before its release test (R147). -/
def recoverBegun (s : State) : State :=
  { s with
    zones := (holdDefrost false s).zones
    arb := { s.arb with claim := s.arb.claim || s.settings.zone.freeze.enabled }
    defrost := { s.defrost with phase := .recover, phaseFor := 0 } }

theorem enterRecover_eq (s : State) : enterRecover s = fanReleaseTest (recoverBegun s) := by
  unfold enterRecover recoverBegun
  refine congrArg fanReleaseTest ?_
  cases h : s.settings.zone.freeze.enabled with
  | true => exact (if_pos h).trans (by rw [Bool.or_true]; rfl)
  | false => exact (if_neg (by exact Bool.eq_false_iff.1 h)).trans (by rw [Bool.or_false]; rfl)

theorem holdDefrost_false_get (s : State) (z : Zone) :
    (holdDefrost false s).zones.get z =
      { s.zones.get z with holdDefrost := if z = .fresh then (s.zones.get z).holdDefrost else false } := by
  unfold holdDefrost
  rw [PerZone.get_map]
  cases z <;> rfl

/-- The entry to RECOVER from a state that differs from `s` in the phase and the context alone. -/
theorem enterRecover_entered {s x : State} {c : DefrostContext} (hx : x = { s with defrost := x.defrost })
    (hdefrost : State.defrostOf s x c) : State.recoverEntered s (enterRecover x) c := by
  have hsensing : (enterRecover x).sensing = s.sensing := by rw [(enterRecover_only x).sensing, hx]
  have hfzCoil : (recoverBegun x).fzCoil = s.fzCoil := by rw [hx]; rfl
  have hrecover : (recoverBegun x).defrost = { s.defrost with phase := .recover, phaseFor := 0, context := some c } := by
    show ({ x.defrost with phase := .recover, phaseFor := 0 } : Defrost) = _
    rw [hdefrost]
  have harb : (recoverBegun x).arb = { s.arb with claim := s.arb.claim || s.settings.zone.freeze.enabled } := by
    rw [hx]; rfl
  have hzones : ∀ z, (recoverBegun x).zones.get z =
      { s.zones.get z with holdDefrost := if z = .fresh then (s.zones.get z).holdDefrost else false } := by
    intro z
    rw [hx]
    exact holdDefrost_false_get s z
  unfold State.recoverEntered
  rw [hsensing, enterRecover_eq]
  generalize recoverBegun x = y at hfzCoil hrecover harb hzones
  refine ⟨fun z => ?_, fun hcold => ?_, fun f e hvalid hf hlow he => ?_⟩
  · rw [← hzones]
    rcases fanReleaseTest_cases y with h | ⟨-, h⟩ <;> rw [h]
    unfold completeDefrost
    split <;> rfl
  · have hstays : fanReleaseTest y = y := by
      unfold fanReleaseTest
      rw [hfzCoil, State.fzCoil]
      by_cases hvalid : s.sensing.fzCoil.state = .valid
      · rw [if_pos hvalid]
        cases hf : s.sensing.fzCoil.filtered with
        | none => rfl
        | some f =>
          have := hcold hvalid f hf
          exact if_neg (by simp; omega)
      · rw [if_neg hvalid]
    rw [hstays]
    exact ⟨harb, hrecover⟩
  · have hreleased : fanReleaseTest y = completeDefrost y := by
      unfold fanReleaseTest
      rw [hfzCoil, State.fzCoil, if_pos hvalid, hf]
      exact if_pos (by rw [hrecover]; simpa using hlow)
    rw [hreleased]
    exact completeDefrost_completed (by unfold State.defrostOf; rw [hrecover]) (by rw [harb]) he

theorem enterRecover_phase (s : State) :
    (enterRecover s).defrost.phase = .recover ∨ (enterRecover s).defrost.phase = .idle := by
  rw [enterRecover_eq]
  rcases fanReleaseTest_cases (recoverBegun s) with h | ⟨-, h⟩ <;> rw [h]
  · exact .inl rfl
  · unfold completeDefrost
    split
    · exact .inr rfl
    · exact .inl rfl

/-! ## HEAT and its end (R143, R144, R146) -/

/-- The end of HEAT enters DRIP. -/
theorem endHeat_drip {s : State} {c : DefrostContext} (e : Termination) (hcontext : s.defrost.context = some c)
    (hdrip : c.drip ≠ 0) :
    endHeat e s =
      { s with
        defrost := { s.defrost with phase := .drip, phaseFor := 0, context := some { c with termination := some e } } } := by
  unfold endHeat State.mapContext State.mapDefrost
  dsimp only
  rw [hcontext]
  exact if_neg hdrip

/-- With a drip time of 0 it enters RECOVER. -/
theorem endHeat_recover {s : State} {c : DefrostContext} (e : Termination) (hcontext : s.defrost.context = some c)
    (hdrip : c.drip = 0) :
    endHeat e s =
      enterRecover
        { s with
          defrost := { s.defrost with phase := .drip, phaseFor := 0, context := some { c with termination := some e } } } := by
  unfold endHeat State.mapContext State.mapDefrost
  dsimp only
  rw [hcontext]
  exact if_pos hdrip

theorem heatReached_eq {s : State} {c : DefrostContext} (hcontext : s.defrost.context = some c)
    (hlimit : c.heatLimit = c.heatFor + 1) :
    heatReached s = { s with defrost := { s.defrost with context := some { c with heatFor := c.heatFor + 1 } } } := by
  unfold heatReached State.mapContext State.mapDefrost
  dsimp only
  rw [hcontext, Option.map_some, hlimit, max_eq_right (Nat.le_succ c.heatFor)]

theorem dripReached_eq {s : State} {c : DefrostContext} (hcontext : s.defrost.context = some c)
    (hlimit : c.drip * 60 * 9600 = c.dripFor + 1) :
    dripReached s = { s with defrost := { s.defrost with context := some { c with dripFor := c.dripFor + 1 } } } := by
  have hl : c.dripLimit = c.dripFor + 1 := hlimit
  unfold dripReached State.mapContext State.mapDefrost
  dsimp only
  rw [hcontext, Option.map_some, hl, max_eq_right (Nat.le_succ c.dripFor)]

/-- The two expiries of HEAT, each with its blind mark and its termination. -/
theorem exec_heatExpiry {i : Instr} {limit : Nat} {e : Termination} {s : State} {c : DefrostContext}
    (hphase : s.defrost.phase = .heat) (hcontext : s.defrost.context = some c)
    (hi : i = .maxHeatExpiry ∧ c.blind = false ∧ limit = c.maxHeat * 60 ∧ e = .time ∨
      i = .timeBlindExpiry ∧ c.blind = true ∧ limit = min 1200 (c.maxHeat * 60) ∧ e = .timeBlind) :
    c.heatLimit = limit * 9600 ∧
      exec i s = .next (if limit * 9600 ≤ c.heatFor + 1 then finish (endHeat e (heatReached s)) else s) := by
  have hdue : ∀ blind, c.blind = blind → c.heatLimit = limit * 9600 →
      (s.defrost.heatDue blind = true ↔ limit * 9600 ≤ c.heatFor + 1) := by
    intro blind hblind hlimit
    rw [Defrost.heatDue_iff, hcontext, ← hlimit]
    simp [hphase, hblind]
  rcases hi with ⟨rfl, hblind, rfl, rfl⟩ | ⟨rfl, hblind, rfl, rfl⟩
  · have hlimit : c.heatLimit = c.maxHeat * 60 * 9600 := by rw [c.heatLimit_eq, hblind]; rfl
    exact ⟨hlimit, congrArg Host.Outcome.next (if_congr (hdue false hblind hlimit) rfl rfl)⟩
  · have hlimit : c.heatLimit = min 1200 (c.maxHeat * 60) * 9600 := by rw [c.heatLimit_eq, hblind]; rfl
    exact ⟨hlimit, congrArg Host.Outcome.next (if_congr (hdue true hblind hlimit) rfl rfl)⟩

/-! ## What the defrost controller leaves as it was -/

theorem DefrostOnly.within {s t : State} (h : DefrostOnly s t) :
    t = { s with zones := t.zones, arb := t.arb, defrost := t.defrost } := by
  rw [h]

theorem DefrostOnly.sameSetup {s t : State} (h : DefrostOnly s t) : State.sameSetup s t := by
  refine ⟨h.strap, h.settings, h.sensing, ?_, ?_⟩ <;> rw [h]

theorem State.recoverEntered.sameZone {s u : State} {c : DefrostContext} (h : State.recoverEntered s u c) (z : Zone) :
    State.sameZone s u z := by
  obtain ⟨hzones, -⟩ := h
  unfold State.sameZone
  rw [hzones]

theorem State.sameDemand_finish {s u : State} {z : Zone} (h : State.sameZone s u z) : State.sameDemand s (finish u) z :=
  (h.trans (finish_sameZone u z)).sameDemand

/-- Settles O56: each expiry is its due test, then the change of phase, which what follows the event keeps. -/
theorem defrostPhases : Obligations.DefrostPhases := by
  intro s c hcontext within hwithin
  subst hwithin
  refine ⟨fun hphase i limit e hi => ?_, fun hphase hdue => ?_, fun e hphase hdue he => ?_⟩
  · obtain ⟨hlimit, hexec⟩ := exec_heatExpiry hphase hcontext hi
    rw [hexec]
    refine ⟨fun hearly => by rw [if_neg (not_le_of_gt hearly)], fun d hnow hd => ?_⟩
    rw [if_pos hnow.le, heatReached_eq hcontext (by rw [hlimit, hnow])]
    refine ⟨fun hdrip => ?_, fun hdrip => ?_⟩
    · rw [endHeat_drip (c := { c with heatFor := c.heatFor + 1 }) e rfl hdrip, ← hd]
      have hkept := finish_defrost_of_not_pending (s := { s with defrost := { s.defrost with
        phase := .drip, phaseFor := 0, context := some d } }) nofun
      exact ⟨_, rfl, by rw [hkept], by rw [hkept], by rw [hkept], by rw [hkept], by rw [hkept],
        State.sameSetup.finish (State.sameSetup_refl s), fun z => State.sameDemand_finish (State.sameZone_of_eq rfl)⟩
    · rw [endHeat_recover (c := { c with heatFor := c.heatFor + 1 }) e rfl hdrip, ← hd]
      exact ⟨_, rfl, enterRecover_entered rfl rfl, (enterRecover_only _).within⟩
  · have hexec : exec .dripEnd s = .next (finish (enterRecover (dripReached s))) :=
      congrArg Host.Outcome.next (if_pos ((Defrost.dripDue_iff _).2 ⟨hphase, c, hcontext, hdue.le⟩))
    rw [hexec, dripReached_eq hcontext hdue]
    have hentered := enterRecover_entered (s := s) (c := { c with dripFor := c.dripFor + 1 })
      (x := { s with defrost := { s.defrost with context := some { c with dripFor := c.dripFor + 1 } } }) rfl rfl
    have hphase' := enterRecover_phase
      { s with defrost := { s.defrost with context := some { c with dripFor := c.dripFor + 1 } } }
    have honly := DefrostOnly.trans (s := s) rfl (enterRecover_only
      { s with defrost := { s.defrost with context := some { c with dripFor := c.dripFor + 1 } } })
    generalize enterRecover
      { s with defrost := { s.defrost with context := some { c with dripFor := c.dripFor + 1 } } } = u at *
    have hnot : u.defrost.phase ≠ .pending := by rcases hphase' with h | h <;> rw [h] <;> exact nofun
    refine ⟨u, finish u, rfl, rfl, honly.within, hentered, fun z hz => ?_, fun hcold => ?_,
      honly.sameSetup.finish, fun z => State.sameDemand_finish (hentered.sameZone z)⟩
    · rw [finish_holdDefrost hnot, hentered.1 z, if_neg hz]
    · obtain ⟨harb, hdefrost⟩ := hentered.2.1 (by rw [honly.sensing]; exact hcold)
      have hkept := finish_defrost_of_not_pending hnot
      refine ⟨by rw [hkept, hdefrost], by rw [hkept, hdefrost], by rw [hkept, hdefrost], by rw [hkept, hdefrost],
        fun henabled => finish_claimed hnot (by rw [harb, henabled]; exact Bool.or_true _)⟩
  · have hexec : exec .fanReleaseTimeout s = .next (finish (completeDefrost s)) :=
      congrArg Host.Outcome.next (if_pos ((Defrost.releaseDue_iff _).2 ⟨hphase, hdue⟩))
    have hcompleted := completeDefrost_completed (State.defrostOf_self hcontext) rfl he
    have hzones := completeDefrost_zones s
    have honly := completeDefrost_only s
    rw [hexec]
    generalize completeDefrost s = u at *
    obtain ⟨hdefrost, hminute, harb⟩ := id hcompleted
    have hnot : u.defrost.phase ≠ .pending := by rw [hdefrost]; exact nofun
    have hkept := finish_defrost_of_not_pending hnot
    have hth : (finish u).defrost.th = u.defrost.th := finish_th_of_not_pending hnot
    have hadapt : (finish u).defrost.th = adaptTh s.defrost.th e (elapsedSecs c.heatFor) :=
      (hth.trans (congrArg Defrost.th hdefrost)).trans (adaptTh_eq _ _ _).symm
    have hbegun : u.defrost.minute.isSome = true := by
      cases hm : u.defrost.minute with
      | none => rw [hm] at hminute; cases hminute
      | some m => rfl
    refine ⟨u, finish u, rfl, rfl, honly.within, hzones, hcompleted, by rw [hkept, hdefrost], by rw [hkept, hdefrost],
      by rw [hkept, hdefrost], by rw [hkept, hdefrost], by rw [hkept, hdefrost], by rw [hkept, hdefrost],
      finish_minute_isSome hbegun, finish_noClaim hnot (by rw [harb]), ?_, fun h => ?_, fun h hshort => ?_, fun h hlong => ?_,
      fun h => ?_, honly.sameSetup.finish, fun z => State.sameDemand_finish (State.sameZone_of_eq (by rw [hzones]))⟩
    · rw [hth]
      exact (congrArg Defrost.report hkept).trans (congrArg Defrost.report hdefrost)
    · rw [hadapt, adaptTh_eq, h]
    · rw [hadapt, adaptTh_eq, h]
      exact if_pos hshort
    · rw [hadapt, adaptTh_eq, h]
      exact if_neg (not_lt_of_ge hlong)
    · rw [hadapt, adaptTh_eq]
      rcases h with rfl | rfl <;> rfl

end Sys2Proof.Machine
end

section
/-!
PROOFS. DEFROST_START, the wait of PENDING and DEFROST_ABORT (statement O55).
-/
namespace Sys2Proof.Machine

/-! ## The wait of PENDING (R140) -/

/-- The FZ outlet is busy (R140): a grant of one of its zones, or RUNOUT there. -/
abbrev State.fzBusy (s : State) : Prop := s.fzGrant = true ∨ s.fzRunout = true

theorem State.fzGrant_iff (s : State) : s.fzGrant = true ↔ ∃ g, s.arb.grant = some g ∧ g.zone ≠ .fresh := by
  unfold State.fzGrant
  cases s.arb.grant with
  | none => simp
  | some g => cases h : g.zone <;> simp [Zone.fzOutlet, h]

theorem State.fzRunout_iff (s : State) :
    s.fzRunout = true ↔ s.arb.idle = some .runout ∧ ∃ z, s.arb.lastRoute = some z ∧ z ≠ .fresh := by
  unfold State.fzRunout
  cases s.arb.lastRoute with
  | none => simp
  | some z => cases z <;> simp [Zone.fzOutlet]

theorem pendingTest_of_busy {s : State} (h : s.fzBusy) : pendingTest s = s := by
  unfold pendingTest
  rcases h with h | h <;> simp [h]

theorem pendingTest_of_free {s : State} (hphase : s.defrost.phase = .pending) (h : ¬s.fzBusy) :
    pendingTest s = enterHeat s := by
  simp only [State.fzBusy, not_or, Bool.not_eq_true] at h
  unfold pendingTest
  rw [if_pos (by simp [hphase, h])]

/-- The entry to HEAT leaves PENDING. -/
theorem enterHeat_not_pending (s : State) : (enterHeat s).defrost.phase ≠ .pending := by
  have hend : ∀ e (u : State), (endHeat e u).defrost.phase ≠ .pending := by
    intro e u
    unfold endHeat
    dsimp only
    split
    · split
      · rcases enterRecover_phase ((u.mapContext fun c => { c with termination := some e }).mapDefrost fun d =>
          { d with phase := .drip, phaseFor := 0 }) with h | h <;> rw [h] <;> exact nofun
      · exact nofun
    · exact nofun
  unfold enterHeat
  dsimp only
  split
  · split
    · exact hend _ _
    · exact nofun
  · exact nofun

section Pending
variable {s : State} (hphase : s.defrost.phase = .pending) (hrun : s.mode.opState = .run)
include hphase

/-- In PENDING no FZ-outlet zone is selectable (R140). -/
theorem selectable_fresh {z : Zone} (h : s.selectable z = true) : z = .fresh := by
  cases z with
  | fresh => rfl
  | _ => simp [State.selectable, hphase, Zone.fzOutlet] at h

include hrun

/-- An arbitration in PENDING: a new grant is of the zone on the FR outlet; else the grant is kept, or ends for an idle
sub-state, or there was none. -/
theorem arbitrate_pending_cases :
    (∃ r x, arbitrate s = createGrant .fresh r x) ∨
      (∃ g, s.arb.grant = some g ∧ s.endCause g = none ∧ arbitrate s = markContinuation (relist s) ∧
        (arbitrate s).decided) ∨
      (∃ g r, s.arb.grant = some g ∧ s.endCause g = some r ∧
        arbitrate s = enterIdle (normalise (endGrant r (relist s)))) ∨
      s.arb.grant = none ∧ s.winner = none ∧ arbitrate s = rehomeTest (runoutEnd (relist s)) := by
  have hexact := relist_exact s
  have hselected : ∀ {x : State} {z r}, x.defrost.phase = .pending → (normalise x).selection none = some (z, r) → z = .fresh := by
    intro x z r hx hw
    obtain ⟨hcandidate, -⟩ := State.selection_spec hw
    rw [State.candidate_none] at hcandidate
    refine selectable_fresh (s := normalise x) ?_ ((State.waitingSelectable_iff _ z).1 hcandidate).2
    rw [(normalise_arc x).defrost]
    exact hx
  cases hgrant : s.arb.grant with
  | none =>
    rw [arbitrate_run_none hrun hgrant]
    rcases noGrant_cases (relist s) with ⟨z, r, hw, h⟩ | ⟨hw, h⟩ <;> rw [h]
    · obtain rfl := hselected (x := relist s) hphase hw
      exact .inl ⟨r, _, rfl⟩
    · exact .inr (.inr (.inr ⟨rfl, hw, rfl⟩))
  | some g =>
    rw [arbitrate_run_some hrun hgrant]
    rcases heldGrant_cases g (relist s) with ⟨r, hend, h⟩ | ⟨hend, ⟨z, r, hp, -, h⟩ | ⟨hp, h⟩⟩ <;> rw [h]
    · rcases afterEnd_cases (endGrant r (relist s)) with ⟨z, r', hw, h'⟩ | ⟨-, h'⟩ <;> rw [h']
      · obtain rfl := hselected (x := endGrant r (relist s)) (by rw [(endGrant_arc _ _).defrost]; exact hphase) hw
        exact .inl ⟨r', _, rfl⟩
      · exact .inr (.inr (.inl ⟨g, r, rfl, hend, rfl⟩))
    · obtain ⟨hz, -⟩ := State.preemptor_spec hp
      obtain rfl := selectable_fresh (s := markContinuation (relist s)) hphase ((State.waitingSelectable_iff _ z).1 hz).2
      exact .inl ⟨r, _, rfl⟩
    · exact .inr (.inl ⟨g, rfl, hend, rfl, markContinuation_decided hexact hgrant hend hp⟩)

end Pending

theorem settle_lastRoute (s : State) : (settle s).arb.lastRoute = (arbitrate s).arb.lastRoute := by
  rw [settle_eq]
  rcases coolingStart_grant_cases (passBody (arbitrate s)) with h | ⟨g, -, -, -, harb, -⟩
  · rw [h, passBody_arb]
  · rw [harb, passBody_arb]

/-- The pass leaves the FZ outlet as its arbitration has it. -/
theorem settle_fzBusy (s : State) : (settle s).fzBusy ↔ (arbitrate s).fzBusy := by
  have hrunout : (settle s).fzRunout = (arbitrate s).fzRunout := by
    unfold State.fzRunout
    rw [settle_idle, settle_lastRoute]
  have hgrant : (settle s).fzGrant = (arbitrate s).fzGrant := by
    unfold State.fzGrant
    rcases settle_grant s with h | ⟨g, hg, -, h⟩ <;> rw [h]
    rw [hg]
  rw [State.fzBusy, hrunout, hgrant]

/-- Without a grant and a winner, an arbitration that leaves RUNOUT has found it, and leaves all else (R80). -/
theorem runout_kept {x : State} (h : (rehomeTest (runoutEnd x)).arb.idle = some .runout) :
    rehomeTest (runoutEnd x) = x ∧ x.runoutLasts := by
  have hrehome : ∀ y : State, (rehomeTest y).arb.idle = some .runout → rehomeTest y = y := by
    intro y hy
    unfold rehomeTest at hy ⊢
    split at hy
    · cases hy
    · exact if_neg (by assumption)
  have hfirst := hrehome _ h
  rw [hfirst] at h ⊢
  unfold runoutEnd at h ⊢
  split at h
  · exact absurd h (enterParkDelay_not_runout _)
  · rename_i hno
    exact ⟨if_neg hno, by simpa [State.runoutLasts, h, and_assoc] using hno⟩

/-- A pass in PENDING leaves a free FZ outlet free. -/
theorem settle_free {s : State} (hphase : s.defrost.phase = .pending) (hrun : s.mode.opState = .run)
    (hgrants : ∀ g, s.arb.grant = some g → g.zone = .fresh) (happ : ∀ a, s.route.app = some a → a.zone = .fresh)
    (hlast : s.arb.idle = some .runout → ∀ z, s.arb.lastRoute = some z → z = .fresh) : ¬(settle s).fzBusy := by
  rw [settle_fzBusy, State.fzBusy, State.fzGrant_iff, State.fzRunout_iff]
  rcases arbitrate_pending_cases hphase hrun with ⟨r, x, h⟩ | ⟨g, hg, -, h, -⟩ | ⟨g, r, hg, -, h⟩ | ⟨hg, -, h⟩ <;> rw [h]
  · rw [createGrant_arb]
    rintro (⟨g, hg, hz⟩ | ⟨hidle, -⟩)
    · obtain rfl := Option.some.inj hg
      exact hz rfl
    · cases hidle
  · rw [markContinuation_eq (s := relist s) hg]
    rintro (⟨g', hg', hz⟩ | ⟨hidle, z, hz, hne⟩)
    · obtain rfl := Option.some.inj hg'
      exact hz (hgrants g hg)
    · exact hne (hlast hidle z hz)
  · rintro (⟨g', hg', -⟩ | ⟨hidle, z, hz, hne⟩)
    · rw [(enterIdle_idleOnly _).grant, normalise_grant, endGrant_grant] at hg'
      cases hg'
    · rcases enterIdle_cases (normalise (endGrant r (relist s))) with ⟨-, -, h'⟩ | ⟨-, h'⟩ <;>
        rw [h', arb_recompute] at hidle hz
      · have hlastRoute : (normalise (endGrant r (relist s))).arb.lastRoute = s.route.app.map RouteApp.zone := by
          rw [normalise_eq]
          exact endGrant_lastRoute (s := relist s) r hg
        rw [hlastRoute] at hz
        obtain ⟨a, ha, rfl⟩ := Option.map_eq_some_iff.1 hz
        exact hne (happ a ha)
      · exact enterParkDelay_not_runout _ hidle
  · rintro (⟨g', hg', -⟩ | ⟨hidle, z, hz, hne⟩)
    · rw [(rehomeTest_idleOnly _).grant, (runoutEnd_idleOnly _).grant] at hg'
      exact absurd (hg.symm.trans hg') (by simp)
    · obtain ⟨hkept, -⟩ := runout_kept hidle
      rw [hkept] at hidle hz
      exact hne (hlast hidle z hz)

/-- RUNOUT goes on through a pass that finds no winner (R80). -/
theorem settle_runoutKept {s : State} (hrun : s.mode.opState = .run) (hgrant : s.arb.grant = none)
    (hidle : s.arb.idle = some .runout) (hwinner : s.winner = none) (hstate : s.comp.state = .running)
    (hlasts : s.runoutLasts) :
    (settle s).arb = (relist s).arb ∧ (settle s).runoutLasts := by
  have harb : arbitrate s = relist s := by
    rw [arbitrate_of_no_winner hrun hgrant hwinner, runoutEnd_of_lasts (s := relist s) fun _ => hlasts,
      rehomeTest_of_done (s := relist s)
        (State.rehomeDone_of_idle (s := relist s) fun hp => absurd (hidle.symm.trans hp) (by simp))]
  have hnone : (arbitrate s).arb.grant = none := by rw [harb]; exact hgrant
  have hcomp : (settle s).comp = s.comp := by
    rw [settle_comp_of_idle hnone, harb, compReact_on (s := kickValve (relist s)) hstate
      (runRequest_of_runout (s := kickValve (relist s)) hrun hidle)]
    rfl
  refine ⟨(settle_arb_of_idle hnone).trans (by rw [harb]), ?_⟩
  obtain ⟨hon, hmin, havailable⟩ := hlasts
  refine ⟨?_, ?_, (compAvailable_of_comp hcomp).trans havailable⟩
  · rw [← hon, State.commandedOn, hcomp]
    rfl
  · rw [← hmin, State.minOnMet, hcomp, (settle_arc s).settings]
    rfl

/-- A busy FZ outlet that a pass in PENDING leaves stands through the next. -/
theorem settle_settle_of_busy {s : State} (hphase : s.defrost.phase = .pending) (hrun : s.mode.opState = .run)
    (hspeed : 0 < s.settings.comp.nMin) (hstate : s.comp.command ≠ 0 → s.comp.state = .running)
    (h : (settle s).fzBusy) : settle (settle s) = settle s := by
  rw [settle_fzBusy, State.fzBusy, State.fzGrant_iff, State.fzRunout_iff] at h
  rcases arbitrate_pending_cases hphase hrun with ⟨r, x, harb⟩ | ⟨g, hg, -, harb, hdecided⟩ | ⟨g, r, hg, hend, harb⟩ |
    ⟨hg, hwinner, harb⟩
  · rw [harb, createGrant_arb] at h
    rcases h with ⟨g, hg, hz⟩ | ⟨hidle, -⟩
    · obtain rfl := Option.some.inj hg
      exact absurd rfl hz
    · cases hidle
  · have hheld : (settle s).arb.grant.isSome = true := by
      rcases settle_grant s with hs | ⟨g', -, -, hs⟩ <;> rw [hs]
      · rw [harb, markContinuation_eq (s := relist s) hg]
        rfl
      · rfl
    exact settle_of_arbitrate (arbitrate_of_decided (settle_decided_of hdecided) (.inl hheld))
  · have hsound : s.claimSound := fun g' hg' hnone => by
      obtain rfl := Option.some.inj (hg.symm.trans hg')
      rw [hend] at hnone
      cases hnone
    have hnone : (arbitrate s).arb.grant = none := by
      rw [harb, (enterIdle_idleOnly _).grant, normalise_grant, endGrant_grant]
    refine settle_settle_idle hsound hrun (by rw [settle_arb_of_idle hnone, hnone]) fun hidle => ?_
    rw [settle_idle, harb] at hidle
    rcases enterIdle_cases (normalise (endGrant r (relist s))) with ⟨hon, hmin, h'⟩ | ⟨-, h'⟩
    · have hcomp : (normalise (endGrant r (relist s))).comp = s.comp := by rw [normalise_comp, endGrant_comp]; rfl
      have harc : ArcOnly s (normalise (endGrant r (relist s))) :=
        ((relist_arc s).trans (endGrant_arc r _)).trans (normalise_arc _)
      have hcommand : s.comp.command ≠ 0 := by
        simpa [State.commandedOn, hcomp] using hon
      exact settle_runoutLasts (harb.trans h') (by rw [harc.mode, hrun]) (by rw [normalise_grant, endGrant_grant])
        (by rw [hcomp, hstate hcommand]) hon hmin (by rw [harc.settings]; exact hspeed)
    · rw [h', arb_recompute] at hidle
      exact absurd hidle (enterParkDelay_not_runout _)
  · refine settle_settle_idle (State.claimSound_of_noGrant hg) hrun ?_ fun hidle => ?_
    · have hnone : (arbitrate s).arb.grant = none := by
        rw [harb, (rehomeTest_idleOnly _).grant, (runoutEnd_idleOnly _).grant]
        exact hg
      rw [settle_arb_of_idle hnone, hnone]
    · rw [settle_idle, harb] at hidle
      obtain ⟨hkept, hlasts⟩ := runout_kept hidle
      rw [hkept] at hidle
      exact (settle_runoutKept hrun hg hidle hwinner (hstate (of_decide_eq_true hlasts.1)) hlasts).2

/-! ## The entry to HEAT (R141) -/

/-- HEAT entered with context `c`, before the test of a coil already warm. -/
def heatBegun (c : DefrostContext) (s : State) : State :=
  { s with
    zones := (holdDefrost true s).zones
    defrost :=
      { s.defrost with
        phase := .heat
        phaseFor := 0
        fanBlock := true
        context := some { c with blind := s.fzCoil.isNone, peak := s.fzCoil } } }

theorem enterHeat_eq {s : State} {c : DefrostContext} (hcontext : s.defrost.context = some c) :
    enterHeat s =
      match s.fzCoil with
      | some f => if c.termTemp ≤ f then endHeat .temp (heatBegun c s) else heatBegun c s
      | none => heatBegun c s := by
  have hbegun : ((holdDefrost true s).mapDefrost fun d =>
      { d with
        phase := .heat
        phaseFor := 0
        fanBlock := true
        context := d.context.map fun c => { c with blind := s.fzCoil.isNone, peak := s.fzCoil } }) = heatBegun c s := by
    unfold State.mapDefrost heatBegun
    dsimp only
    rw [show (holdDefrost true s).defrost.context = some c from hcontext]
    rfl
  unfold enterHeat
  dsimp only
  rw [hbegun, hcontext]
  cases s.fzCoil <;> rfl

theorem heatBegun_hold (c : DefrostContext) (s : State) {z : Zone} (hz : z ≠ .fresh) :
    ((heatBegun c s).zones.get z).holdDefrost = s.present z := by
  unfold heatBegun holdDefrost
  dsimp only
  rw [PerZone.get_map]
  cases z with
  | fresh => exact absurd rfl hz
  | _ => rfl

/-- A pass and the outputs after `e` change of the defrost controller's record the heater and the mark of an unbroken second. -/
theorem publish_settle_defrost (e : State) :
    (publish (settle e)).defrost =
        { e.defrost with
          heater := (publish (settle e)).defrost.heater, minute := (publish (settle e)).defrost.minute } ∧
      (e.defrost.minute = none → (publish (settle e)).defrost.minute = none) := by
  have hsame := settle_defrost e
  generalize settle e = r at hsame
  rw [← hsame]
  exact ⟨rfl, fun h => Option.map_eq_none_iff.2 h⟩

/-- A start in RUN with the FZ outlet free enters HEAT at once: between two passes (R139 to R141). -/
theorem finish_startDefrost {s : State} (hrun : s.mode.opState = .run)
    (hgrants : ∀ g, s.arb.grant = some g → g.zone = .fresh) (happ : ∀ a, s.route.app = some a → a.zone = .fresh)
    (hlast : s.arb.idle = some .runout → ∀ z, s.arb.lastRoute = some z → z = .fresh) :
    finish (startDefrost .host s) = publish (settle (enterHeat (settle (startDefrost .host s)))) := by
  rw [finish_eq_settle, initEnd_of_not_init (s := startDefrost .host s) (by rw [show (startDefrost .host s).mode = s.mode from rfl, hrun]; exact nofun),
    pendingTest_of_free (by rw [settle_defrost]; rfl) (settle_free (s := startDefrost .host s) rfl hrun hgrants happ hlast)]

/-- The context of a start by the host (R139). -/
abbrev State.hostContext (s : State) : DefrostContext :=
  ⟨.host, s.defrost.credit, s.settings.defrost.termTemp, s.settings.defrost.maxHeat, s.settings.defrost.drip, 0, 0, none,
    false, none⟩

/-- `t` has the defrost that the host started from `s` at `phase`, with the context as given (R139 to R141). -/
abbrev State.heatStarted (s t : State) (phase : DefrostPhase) (ended : Option Termination) (blind : Bool)
    (peak : Option Int) : Prop :=
  t.defrost.phase = phase ∧ t.defrost.phaseFor = 0 ∧ t.defrost.minute = none ∧ t.defrost.fanBlock = true ∧
    t.defrost.credit = s.defrost.credit ∧ t.defrost.elapsed = s.defrost.elapsed ∧ t.defrost.th = s.defrost.th ∧
    t.defrost.report = s.defrost.report ∧
    t.defrost.context = some { s.hostContext with termination := ended, blind := blind, peak := peak } ∧
    ∀ z, z ≠ .fresh → (t.zones.get z).holdDefrost = (s.present z && decide (phase ≠ .recover))

theorem State.heatStarted_publish {s e : State} {phase : DefrostPhase} {ended : Option Termination} {blind : Bool}
    {peak : Option Int}
    (hdefrost : e.defrost =
      { s.defrost with
        phase := phase
        phaseFor := 0
        minute := none
        fanBlock := true
        context := some { s.hostContext with termination := ended, blind := blind, peak := peak } })
    (hzones : ∀ z, z ≠ .fresh → (e.zones.get z).holdDefrost = (s.present z && decide (phase ≠ .recover))) :
    s.heatStarted (publish (settle e)) phase ended blind peak := by
  obtain ⟨hkept, hminute⟩ := publish_settle_defrost e
  unfold State.heatStarted
  rw [hminute (by rw [hdefrost]), hkept, hdefrost, publish_zones, (settle_arc e).zones]
  exact ⟨rfl, rfl, rfl, rfl, rfl, rfl, rfl, rfl, rfl, hzones⟩

theorem endHeat_recoverEntered {s : State} {c : DefrostContext} (e : Termination) (hcontext : s.defrost.context = some c)
    (hdrip : c.drip = 0) : State.recoverEntered s (endHeat e s) { c with termination := some e } := by
  rw [endHeat_recover e hcontext hdrip]
  exact enterRecover_entered rfl rfl

/-- What a start in RUN with the FZ outlet free enters: HEAT, blind or not, or with the coil warm the end of HEAT. -/
theorem heatStarts {s : State} (hrun : s.mode.opState = .run)
    (hgrants : ∀ g, s.arb.grant = some g → g.zone = .fresh) (happ : ∀ a, s.route.app = some a → a.zone = .fresh)
    (hlast : s.arb.idle = some .runout → ∀ z, s.arb.lastRoute = some z → z = .fresh) :
    (s.sensing.fzCoil.state ≠ .valid → s.heatStarted (finish (startDefrost .host s)) .heat none true none) ∧
      ∀ f, s.sensing.fzCoil.state = .valid → s.sensing.fzCoil.filtered = some f →
        (f < s.settings.defrost.termTemp → s.heatStarted (finish (startDefrost .host s)) .heat none false (some f)) ∧
        (s.settings.defrost.termTemp ≤ f → s.settings.defrost.drip ≠ 0 →
          s.heatStarted (finish (startDefrost .host s)) .drip (some .temp) false (some f)) ∧
        (s.settings.defrost.termTemp ≤ f → s.settings.defrost.drip = 0 → -100 < f →
          s.heatStarted (finish (startDefrost .host s)) .recover (some .temp) false (some f) ∧
            (s.settings.zone.freeze.enabled = true →
              (finish (startDefrost .host s)).arb.claim = true ∨
                ∃ g, (finish (startDefrost .host s)).arb.grant = some g ∧ g.zone = .freeze ∧ g.reason = .recovery)) := by
  have harc := settle_arc (startDefrost .host s)
  have hdefrost : (settle (startDefrost .host s)).defrost = (startDefrost .host s).defrost := settle_defrost _
  have hcontext : (settle (startDefrost .host s)).defrost.context = some s.hostContext := congrArg Defrost.context hdefrost
  have hfz : (settle (startDefrost .host s)).fzCoil = s.fzCoil := by
    rw [State.fzCoil, harc.sensing]
    rfl
  have hpresent : ∀ z, (settle (startDefrost .host s)).present z = s.present z := harc.present
  have hsensing : (settle (startDefrost .host s)).sensing = s.sensing := harc.sensing
  have hsettings : (settle (startDefrost .host s)).settings = s.settings := harc.settings
  rw [finish_startDefrost hrun hgrants happ hlast]
  generalize settle (startDefrost .host s) = y at *
  have henter := enterHeat_eq hcontext
  have hbegun : (heatBegun s.hostContext y).defrost =
      { s.defrost with
        phase := .heat
        phaseFor := 0
        minute := none
        fanBlock := true
        context := some { s.hostContext with blind := s.fzCoil.isNone, peak := s.fzCoil } } := by
    unfold heatBegun
    dsimp only
    rw [hdefrost, hfz]
    rfl
  have hheld : ∀ z, z ≠ .fresh → ((heatBegun s.hostContext y).zones.get z).holdDefrost = s.present z := fun z hz =>
    (heatBegun_hold _ _ hz).trans (hpresent z)
  have hheatSettings : (heatBegun s.hostContext y).settings = s.settings := hsettings
  have hheatSensing : (heatBegun s.hostContext y).sensing = s.sensing := hsensing
  generalize heatBegun s.hostContext y = b at *
  rw [hfz] at henter
  refine ⟨fun hinvalid => ?_, fun f hvalid hf => ?_⟩
  · have hnone : s.fzCoil = none := if_neg hinvalid
    rw [hnone] at henter hbegun
    rw [henter]
    exact State.heatStarted_publish hbegun fun z hz => by rw [hheld z hz]; simp
  · have hsome : s.fzCoil = some f := (if_pos hvalid).trans hf
    rw [hsome] at henter hbegun
    rw [henter]
    have hbcontext := congrArg Defrost.context hbegun
    refine ⟨fun hcold => ?_, fun hwarm hdrip => ?_, fun hwarm hdrip hrelease => ?_⟩
    · dsimp only
      rw [if_neg (by show ¬s.settings.defrost.termTemp ≤ f; omega)]
      exact State.heatStarted_publish hbegun fun z hz => by rw [hheld z hz]; simp
    · dsimp only
      rw [if_pos (by exact hwarm), endHeat_drip .temp hbcontext hdrip]
      refine State.heatStarted_publish (by rw [hbegun]; rfl) fun z hz => ?_
      exact (hheld z hz).trans (by simp)
    · dsimp only
      rw [if_pos (by exact hwarm)]
      have hentered := endHeat_recoverEntered .temp hbcontext hdrip
      have honly := endHeat_only .temp b
      generalize endHeat .temp b = u at *
      obtain ⟨hzones, hcold, -⟩ := hentered
      obtain ⟨harb, hrecover⟩ := hcold (by
        rw [honly.sensing, hheatSensing]
        intro _ f' hf'
        obtain rfl := Option.some.inj (hf.symm.trans hf')
        exact hrelease)
      refine ⟨State.heatStarted_publish (by rw [hrecover, hbegun]; rfl) fun z hz => ?_, fun henabled => ?_⟩
      · rw [hzones, if_neg hz]
        simp
      · refine (settle_claimed _).imp (fun h => ?_) (·.2.2)
        rw [publish_arb, h, harb, hheatSettings, henabled]
        exact Bool.or_true _

/-- PENDING with a busy FZ outlet after one pass that the next repeats waits (R140). -/
theorem finish_of_busy {s : State} (hrun : s.mode.opState = .run) (hbusy : (settle s).fzBusy)
    (hsettled : settle (settle s) = settle s) : finish s = publish (settle s) := by
  rw [finish_eq_settle, initEnd_of_not_init (by rw [hrun]; exact nofun), pendingTest_of_busy hbusy, hsettled]

theorem finish_pending_waits {s : State} (hphase : s.defrost.phase = .pending) (h : finish s = publish (settle s)) :
    (finish s).defrost.phase = .pending ∧ (finish s).defrost.context = s.defrost.context ∧
      (finish s).arb = (settle s).arb := by
  rw [h]
  refine ⟨?_, ?_, rfl⟩
  · rw [publish_phase, settle_defrost, hphase]
  · rw [publish_context, settle_defrost]

/-- Settles O55: the start through its two passes, the wait of PENDING, and the abort by phase. -/
theorem defrostRequests : Obligations.DefrostRequests := by
  intro s
  refine ⟨fun htaking => ⟨fun hno => ?_, fun hrun hidle => ?_⟩,
    fun hphase hrun => ⟨fun g hg hzone hend hclaim hforced _ => ?_,
      fun z hg hidle hlast hz hwinner hstate hcommand hmin => ?_, fun hstays hspeed hstate => ?_⟩,
    fun htaking => ⟨fun hpending hheat => ?_, fun c hphase hcontext => ?_, fun c hphase hcontext hdrip => ?_,
      fun c hphase hcontext hdrip => ?_⟩⟩
  · exact congrArg Host.Outcome.next ((takeRequest_owner (owner := defrostStartOwner) htaking rfl
      (if_neg (by simpa using hno)) defrostPhaseFields).trans rfl)
  · refine ⟨finish (startDefrost .host s), congrArg Host.Outcome.next ((takeRequest_owner (r := .ok)
      (owner := defrostStartOwner) htaking rfl (if_pos (by simp [hrun, hidle])) defrostPhaseFields).trans rfl),
      State.sameSetup.finish (State.sameSetup_refl s), by rw [finish_doors]; rfl, by rw [finish_bus]; rfl,
      fun z => State.sameDemand_finish (State.sameZone_of_eq rfl), fun hgrants happ hlast p began hp hbegan => ?_⟩
    subst hp hbegan
    exact heatStarts hrun hgrants happ hlast
  · obtain hsound : s.claimSound := State.claimSound_of_noClaim hclaim
    have harb : arbitrate s = markContinuation (relist s) := by
      rw [arbitrate_run_some hrun hg]
      rcases heldGrant_cases g (relist s) with ⟨r, hr, -⟩ | ⟨-, ⟨z, r, hp, -⟩ | ⟨-, h⟩⟩
      · exact absurd (hr.symm.trans hend) (by simp)
      · rw [State.preemptor_of_nobody (s := markContinuation (relist s)) hclaim hforced] at hp
        cases hp
      · exact h
    have hgrant : ∃ h, (settle s).arb.grant = some h ∧ h.zone = g.zone := by
      have hmark : (arbitrate s).arb.grant = some { g with continuation := (relist s).continues g } := by
        rw [harb, markContinuation_eq (s := relist s) hg]
      rcases settle_grant s with hs | ⟨g', hg', -, hs⟩
      · exact ⟨_, hs.trans hmark, rfl⟩
      · obtain rfl := Option.some.inj (hmark.symm.trans hg')
        exact ⟨_, hs, rfl⟩
    obtain ⟨h, hh, hhz⟩ := hgrant
    obtain ⟨hp, hc, ha⟩ := finish_pending_waits hphase (finish_of_busy hrun
      (.inl ((State.fzGrant_iff _).2 ⟨h, hh, by rw [hhz]; exact hzone⟩))
      (settle_settle hsound (.inl (by rw [hh]; rfl))))
    exact ⟨hp, hc, h, by rw [ha, hh], hhz⟩
  · have hlasts : s.runoutLasts :=
      ⟨decide_eq_true hcommand, hmin, by simp [State.compAvailable, hstate]⟩
    obtain ⟨harb, hlasts'⟩ := settle_runoutKept hrun hg hidle hwinner hstate hlasts
    have hidle' : (settle s).arb.idle = some .runout := by rw [harb]; exact hidle
    have hlast' : (settle s).arb.lastRoute = some z := by rw [harb]; exact hlast
    have hg' : (settle s).arb.grant = none := by rw [harb]; exact hg
    obtain ⟨hp, hc, ha⟩ := finish_pending_waits hphase (finish_of_busy hrun
      (.inr ((State.fzRunout_iff _).2 ⟨hidle', z, hlast', hz⟩))
      (settle_settle_idle (State.claimSound_of_noGrant hg) hrun hg' fun _ => hlasts'))
    exact ⟨hp, hc, by rw [ha, hg'], by rw [ha, hidle'], by rw [ha, hlast']⟩
  · have hbusy : (settle s).fzBusy := by
      by_contra hfree
      refine enterHeat_not_pending (settle s) ?_
      rw [finish_eq_settle, initEnd_of_not_init (by rw [hrun]; exact nofun),
        pendingTest_of_free (by rw [settle_defrost, hphase]) hfree, publish_phase, settle_defrost] at hstays
      exact hstays
    have hfinish := finish_of_busy hrun hbusy (settle_settle_of_busy hphase hrun hspeed hstate hbusy)
    obtain ⟨-, -, ha⟩ := finish_pending_waits hphase hfinish
    rw [State.fzBusy, State.fzGrant_iff, State.fzRunout_iff] at hbusy
    rw [ha]
    exact hbusy
  · refine congrArg Host.Outcome.next ((takeRequest_owner (r := .notNow) (t := s) (owner := defrostAbortOwner) htaking rfl
      ?_ defrostPhaseFields).trans rfl)
    unfold defrostAbortOwner
    split
    · exact absurd (by assumption) hpending
    · exact absurd (by assumption) hheat
    · rfl
  · have howner : defrostAbortOwner s = (.ok, finish (endDefrost .abort s.defrost.th s)) := by
      unfold defrostAbortOwner
      rw [hphase]
      rfl
    have hkept := finish_defrost_of_not_pending (s := endDefrost .abort s.defrost.th s) nofun
    refine ⟨finish (endDefrost .abort s.defrost.th s), congrArg Host.Outcome.next ((takeRequest_owner htaking rfl howner
      defrostPhaseFields).trans ?_), by rw [hkept]; rfl, by rw [hkept]; rfl, by rw [hkept]; rfl, by rw [hkept]; rfl,
      by rw [hkept]; rfl, by rw [hkept]; rfl, finish_minute_isSome rfl, ?_, State.sameSetup.finish (State.sameSetup_refl s)⟩
    · unfold defrostPhaseFields
      rw [hkept]
      rfl
    · rw [hkept]
      unfold endDefrost
      dsimp only
      rw [hcontext]
      rfl
  · have howner : defrostAbortOwner s = (.ok, finish (endHeat .abort s)) := by
      unfold defrostAbortOwner
      rw [hphase]
      rfl
    rw [endHeat_drip .abort hcontext hdrip] at howner
    have hkept := finish_defrost_of_not_pending (s := { s with defrost := { s.defrost with
      phase := .drip, phaseFor := 0, context := some { c with termination := some .abort } } }) nofun
    refine ⟨_, congrArg Host.Outcome.next ((takeRequest_owner htaking rfl howner defrostPhaseFields).trans ?_), hkept,
      State.sameSetup.finish (State.sameSetup_refl s)⟩
    unfold defrostPhaseFields
    rw [hkept]
    rfl
  · have howner : defrostAbortOwner s = (.ok, finish (endHeat .abort s)) := by
      unfold defrostAbortOwner
      rw [hphase]
      rfl
    rw [endHeat_recover .abort hcontext hdrip] at howner
    exact ⟨_, congrArg Host.Outcome.next ((takeRequest_owner htaking rfl howner defrostPhaseFields).trans rfl),
      enterRecover_entered rfl rfl, (enterRecover_only _).within⟩

end Sys2Proof.Machine
end

section
/-!
PROOFS. RESTART: the values at the moment it takes effect, which what follows the event finds settled (statement O26).
-/
namespace Sys2Proof.Machine

/-! ## An event that leaves nothing to do -/

/-- Where a pass changes nothing, INIT does not end and no defrost is PENDING, only the outputs follow. -/
theorem finish_of_settled {u : State} (hinit : initEnd u = u) (hphase : u.defrost.phase ≠ .pending)
    (hsettled : settle u = u) : finish u = publish u := by
  rw [finish_of_not_pending hphase, hinit, hsettled, hsettled]

/-! ## The moment RESTART takes effect (R199) -/

theorem restartBus_eq (s : State) : restartBus s = { s with bus := (restartBus s).bus } := by
  unfold restartBus askStop
  split <;> unfold askOpening <;> split
  · rfl
  · split <;> rfl
  · rfl
  · split <;> rfl

theorem endDefrostAtOnce_restart (s : State) :
    endDefrostAtOnce (restartBlocks s) =
      { restartBlocks s with defrost := (endDefrostAtOnce (restartBlocks s)).defrost } := by
  unfold endDefrostAtOnce
  split <;> rfl

/-- The state that a RESTART leaves: all but the bus and the defrost controller's record. -/
theorem restartEffect_eq (s : State) :
    restartEffect s =
      { s with
        mode := ⟨.init, .restart, none⟩
        sensing := { Sensing.reset with next := some (.air .fresh), sweepTimer := some 0 }
        doors := s.doors.resetKeeping.beginSampling
        zones := .all .reset
        arb := .reset
        route := { Route.reset with valve := Valve.reset.beginDrive .homing .closed }
        comp := s.comp.restarted
        defrost := { (endDefrostAtOnce (restartBlocks s)).defrost with fanBlock := false, context := none }
        bus := (restartEffect s).bus
        link := .restarted
        events := ⟨s.events.device.restarted, s.events.zone.map fun _ e => e.restarted⟩
        service := .reset } := by
  have hbus := restartBus_eq (beginInit ((endDefrostAtOnce (restartBlocks s)).mapDefrost fun d =>
    { d with fanBlock := false, context := none }))
  have hhead : (restartBlocks s).sweepOrder.head? = some (.air .fresh) := State.sweepOrder_head _
  unfold restartEffect
  dsimp only
  rw [hbus, endDefrostAtOnce_restart s]
  unfold beginInit beginSweep State.mapDefrost
  dsimp only
  rw [← hhead]
  rfl

/-- The bus opens with slot 1 and the frame that stops the compressor. -/
theorem enterActive_bus {s : State} {v : Variant} (hunit : s.bus.unit = unitTable v) (hcommand : s.comp.command = 0) :
    (enterActive s).bus = ⟨.active, some .s1, 0, some ⟨.s1, [0, 0, 0], []⟩, none, [], .none, unitTable v⟩ := by
  have hexpected : (s.bus.unit.get .inverter).state ≠ .absent := by
    rw [hunit]
    cases v <;> exact nofun
  have hdata : s.setData .s1 = [0, 0, 0] := if_pos hcommand
  rw [← hunit, ← hdata]
  unfold enterActive beginSlot
  exact congrArg (fun e => (⟨.active, some .s1, 0, e, none, [], .none, s.bus.unit⟩ : Bus)) (if_neg hexpected)

/-- The bus of a RESTART (R180, R182, R199): the unit table anew, the stop at the end of a slot in flight, else slot 1 at once. -/
theorem restartBus_bus {s : State} (hcommand : s.comp.command = 0) :
    (s.bus.mode = .active →
      (restartBus s).bus = { s.bus with unit := unitTable s.strap.variant, deferred := .stopThenOpen }) ∧
    (s.bus.mode ≠ .active →
      (restartBus s).bus =
        ⟨.active, some .s1, 0, some ⟨.s1, [0, 0, 0], []⟩, none, [], .none, unitTable s.strap.variant⟩) := by
  unfold restartBus
  refine ⟨fun hactive => ?_, fun hno => ?_⟩
  · have hstop : askStop { s with bus := { s.bus with unit := unitTable s.strap.variant } } =
        { s with bus := { s.bus with unit := unitTable s.strap.variant, deferred := .stop } } := if_pos hactive
    rw [hstop]
    unfold askOpening
    rw [if_neg (by rw [hactive]; exact nofun), if_neg nofun]
  · have hstop : askStop { s with bus := { s.bus with unit := unitTable s.strap.variant } } =
        stopBus { s with bus := { s.bus with unit := unitTable s.strap.variant } } := if_neg hno
    rw [hstop, askOpening_of_stopped rfl]
    exact enterActive_bus (s := stopBus { s with bus := { s.bus with unit := unitTable s.strap.variant } }) rfl hcommand

theorem restartEffect_bus (s : State) :
    (s.bus.mode = .active →
      (restartEffect s).bus = { s.bus with unit := unitTable s.strap.variant, deferred := .stopThenOpen }) ∧
    (s.bus.mode ≠ .active →
      (restartEffect s).bus =
        ⟨.active, some .s1, 0, some ⟨.s1, [0, 0, 0], []⟩, none, [], .none, unitTable s.strap.variant⟩) := by
  have h := restartBus_bus (s := beginInit ((endDefrostAtOnce (restartBlocks s)).mapDefrost fun d =>
    { d with fanBlock := false, context := none })) (by rw [endDefrostAtOnce_restart]; rfl)
  rw [endDefrostAtOnce_restart] at h
  unfold restartEffect
  dsimp only
  rw [endDefrostAtOnce_restart]
  exact h

/-- A RESTART leaves nothing to do: nobody calls, nothing is granted, the valve drives, and no run is requested. -/
theorem restartEffect_settled (s : State) : settle (restartEffect s) = restartEffect s := by
  have hspec := restartEffect_eq s
  generalize restartEffect s = u at hspec ⊢
  have hmode : u.mode.opState = .init := by rw [hspec]
  have hgrant : u.arb.grant = none := by rw [hspec]; rfl
  have hexact : u.listExact := by
    intro z
    have hsatisfied : (u.zones.get z).demand = .satisfied := by rw [hspec]; cases z <;> rfl
    have hempty : u.arb.waiting = [] := by rw [hspec]; rfl
    rw [hempty, hsatisfied]
    simp
  have hstill : u.comp.state ≠ .running := by
    rw [hspec]
    show (if s.comp.state = .running then CompState.stopped else s.comp.state) ≠ .running
    split
    · exact nofun
    · assumption
  have hrequest : u.runRequest = false := by simp [State.runRequest, hmode]
  have harb : arbitrate u = u := by
    rw [arbitrate_not_run (by rw [hmode]; exact nofun), relist_of_exact hexact]
  have hkick : kickValve u = u := by
    rw [hspec]
    rfl
  have hreact : compReact u = u :=
    compReact_of_stands (by simp [hrequest]) (fun h => hstill h.1)
  have hplace : inPlaceTest u = u := by
    rw [hspec]
    rfl
  have hcool : coolingStart u = u := by
    unfold coolingStart
    rw [hgrant]
  rw [settle, harb, hkick, hreact, hplace, hcool]

theorem restartEffect_mapLink (s : State) (f : Link → Link) : restartEffect (s.mapLink f) = restartEffect s :=
  congrArg (fun x => restartBus (beginInit ((endDefrostAtOnce x).mapDefrost fun d =>
    { d with fanBlock := false, context := none }))) rfl

theorem restartEffect_units (s : State) : (restartEffect s).bus.unit = unitTable s.strap.variant := by
  obtain ⟨hactive, hother⟩ := restartEffect_bus s
  by_cases h : s.bus.mode = .active
  · rw [hactive h]
  · rw [hother h]

/-- The fans stand still after a RESTART. -/
theorem restartEffect_fan (s : State) (f : Fan) : ((publish (restartEffect s)).route.fans.get f) = ⟨0, 0, 0, false, none⟩ := by
  rw [publish_fans, restartEffect_eq]
  cases f <;> rfl

/-- The compressor controller after a RESTART shows no target: nothing requests a run in INIT. -/
theorem restartEffect_comp (s : State) : (publish (restartEffect s)).comp = s.comp.restarted := by
  have htarget : (restartEffect s).shownTarget = none := by
    rw [restartEffect_eq]
    show (match s.comp.restarted.state with
      | .running => s.comp.restarted.target
      | .stopped => none
      | _ => none) = none
    split <;> rfl
  show ({ (restartEffect s).comp with target := (restartEffect s).shownTarget } : Compressor) = _
  rw [htarget, restartEffect_eq]
  rfl

theorem restartEffect_record (s : State) :
    (restartEffect s).defrost = { (endDefrostAtOnce (restartBlocks s)).defrost with fanBlock := false, context := none } := by
  rw [restartEffect_eq]

theorem restartEffect_phase (s : State) : (restartEffect s).defrost.phase = .idle := by
  rw [restartEffect_record]
  exact endDefrostAtOnce_phase _

theorem finish_restartEffect (s : State) : finish (restartEffect s) = publish (restartEffect s) := by
  have hspec := restartEffect_eq s
  refine finish_of_settled (initEnd_of_open (.inl (homedClosed_of_homing ?_))) ?_ (restartEffect_settled s)
  · rw [hspec]
    exact nofun
  · rw [restartEffect_phase]
    exact nofun

/-- The defrost controller's record after a RESTART (R151). -/
theorem restartEffect_defrost (s : State) :
    ∃ m, (publish (restartEffect s)).defrost =
        { (endDefrostAtOnce (restartBlocks s)).defrost with fanBlock := false, context := none, heater := false, minute := m } ∧
      m.map Minute.elapsed = (endDefrostAtOnce (restartBlocks s)).defrost.minute.map Minute.elapsed := by
  have hheater : (restartEffect s).heaterRule = false := by
    have hmode : (restartEffect s).mode.opState = .init := by rw [restartEffect_eq]
    simp [State.heaterRule, restartEffect_phase, hmode]
  refine ⟨(restartEffect s).defrost.minute.map fun m => { m with unbroken := m.unbroken && (restartEffect s).fzRunning },
    ?_, ?_⟩
  · show ({ (restartEffect s).defrost with heater := (restartEffect s).heaterRule, minute := _ } : Defrost) = _
    rw [hheater]
    rw [restartEffect_record]
  · rw [Option.map_map]
    rw [restartEffect_record]
    rfl

/-- The device set's conditions after a RESTART: FAULT_HOLD, LOCKOUT and the strap fault alone. -/
theorem restartEffect_device (s : State) :
    (drive (restartEffect s)).deviceConditions =
      BitVec.ofNat 8
        (2 * (decide (s.comp.state = .faultHold)).toNat + 4 * (decide (s.comp.state = .lockout)).toNat +
          32 * s.strap.fault.toNat) := by
  have hlost : (drive (restartEffect s)).unitLost = false := by
    show (restartEffect s).unitLost = false
    unfold State.unitLost
    rw [restartEffect_units]
    cases s.strap.variant <;> rfl
  have hfans : (drive (restartEffect s)).fanFault = false := by
    rw [restartEffect_eq]
    rfl
  have hstate : ∀ x, x ≠ .stopped → x ≠ .running →
      decide ((restartEffect s).comp.state = x) = decide (s.comp.state = x) := by
    intro x hstopped hrunning
    rw [restartEffect_eq]
    show decide ((if s.comp.state = .running then CompState.stopped else s.comp.state) = x) = _
    split
    · rename_i h
      rw [h]
      exact decide_eq_decide.2 ⟨fun hx => absurd hx.symm hstopped, fun hx => absurd hx.symm hrunning⟩
    · rfl
  unfold State.deviceConditions
  rw [hlost, hfans]
  show bits (decide ((restartEffect s).defrost.phase ≠ .idle)) (decide ((restartEffect s).comp.state = .faultHold))
    (decide ((restartEffect s).comp.state = .lockout)) false false (restartEffect s).strap.fault
    (decide ((restartEffect s).mode.opState = .service)) (restartEffect s).arb.forced.isSome = _
  rw [restartEffect_phase, hstate .faultHold nofun nofun, hstate .lockout nofun nofun, restartEffect_eq]
  unfold bits
  refine congrArg (BitVec.ofNat 8) ?_
  show 0 + 2 * _ + 4 * _ + 8 * 0 + 16 * 0 + 32 * s.strap.fault.toNat + 64 * 0 + 128 * 0 = _
  omega

/-- The zone sets' conditions after a RESTART: none. -/
theorem restartEffect_zone (s : State) (z : Zone) : (drive (restartEffect s)).zoneConditions z = 0 := by
  rw [restartEffect_eq]
  unfold State.zoneConditions
  split
  · cases z <;> rfl
  · rfl

/-- After a RESTART the first presentation latches the enabled conditions. -/
theorem EventSet.restarted_present (e : EventSet) (now : Byte) :
    e.restarted.present now = { e with live := now, latched := now &&& e.rise } := by
  have hlatched : (0 : Byte) ||| ((now &&& ~~~0) &&& e.rise) ||| ((0 &&& ~~~now) &&& e.fall) = now &&& e.rise := by
    have hones : ~~~(0 : Byte) = BitVec.allOnes 8 := rfl
    rw [hones, BitVec.and_allOnes]
    simp
  show (⟨now, e.rise, e.fall, (0 : Byte) ||| ((now &&& ~~~0) &&& e.rise) ||| ((0 &&& ~~~now) &&& e.fall)⟩ : EventSet) = _
  rw [hlatched]

/-- Settles O26: the values of the moment, then the outputs and the first presentation. -/
theorem restartTakesEffect : Obligations.RestartTakesEffect := by
  refine ⟨fun s htaking => ?_, fun s hsending hdue hleft => ?_⟩
  · exact congrArg Host.Outcome.next ((takeRequest_owner (r := .ok)
      (t := { s with link := { s.link with restartDue := true } }) htaking rfl rfl opStateFields).trans rfl)
  · have hexec : exec .replyEnd s = .next (publish (restartEffect s)) := by
      refine congrArg Host.Outcome.next ((if_pos (by simp [hsending, Link.sendDue, hleft])).trans ((if_pos hdue).trans ?_))
      rw [restartEffect_mapLink, finish_restartEffect]
    refine ⟨publish (restartEffect s), hexec, ?_⟩
    have hcomp := restartEffect_comp s
    have hfan := restartEffect_fan s
    obtain ⟨m, hdefrost, hminute⟩ := restartEffect_defrost s
    obtain ⟨hactive, hother⟩ := restartEffect_bus s
    have hunits := restartEffect_units s
    have hdevice := restartEffect_device s
    have hzone := restartEffect_zone s
    have hspec := restartEffect_eq s
    generalize restartEffect s = u at *
    have hmode := congrArg State.mode hspec
    have hsensing := congrArg State.sensing hspec
    have hdoors := congrArg State.doors hspec
    have harb := congrArg State.arb hspec
    have hroute := congrArg State.route hspec
    have hlink := congrArg State.link hspec
    have hevents := congrArg State.events hspec
    have hvalve : (publish u).route.valve = Valve.reset.beginDrive .homing .closed := by
      rw [publish_valve, hroute]
    have hzoneSet : ∀ z, (publish u).events.zone.get z = { s.events.zone.get z with live := 0, latched := 0 } := by
      intro z
      have hrestarted : u.events.zone.get z = (s.events.zone.get z).restarted := by
        rw [hevents]
        cases z <;> rfl
      rw [publish_zoneSet, hzone, hrestarted, EventSet.restarted_present]
      exact congrArg (EventSet.mk 0 _ _) BitVec.zero_and
    refine ⟨⟨hmode, ?_, ?_, ?_, ?_, ?_⟩, ⟨fun ch => ?_, ?_, ?_, ?_, ?_, fun d => ?_, fun z => ?_⟩, ?_,
      ⟨by rw [hvalve]; rfl, by rw [hvalve]; rfl, by rw [hvalve]; rfl, by rw [hvalve]; rfl, by rw [hvalve]; rfl,
        by rw [hvalve]; rfl, by rw [hvalve]; rfl, ?_, ?_, ?_, ?_, hfan⟩, hcomp, ?_,
      ⟨fun x => ?_, fun h => ?_, fun h => ?_⟩, ⟨fun e he => ?_, fun z => ?_, ?_⟩⟩
    · rw [publish_strap, hspec]
    · rw [publish_settings, hspec]
    · rw [publish_zones, hspec]
    · rw [publish_service, hspec]; rfl
    · rw [publish_pending, hspec]
    · rw [publish_sensing, hsensing]
      cases ch with
      | air z => cases z <;> rfl
      | _ => rfl
    · rw [publish_sensing, hsensing]
    · rw [publish_sensing, hsensing]
    · rw [publish_doors, hdoors]; rfl
    · rw [publish_doors, hdoors]; rfl
    · rw [publish_doors, hdoors, Doors.beginSampling_get]
      cases d <;> rfl
    · rw [publish_doors, hdoors]
      cases z <;> rfl
    · rw [publish_arb, harb]
      exact ⟨rfl, rfl, rfl, rfl, rfl, rfl, rfl, rfl, rfl⟩
    · rw [publish_dampers, hroute]; rfl
    · rw [publish_app, hroute]; rfl
    · show u.route.preFreezer = _
      rw [hroute]; rfl
    · show u.route.preFresh = _
      rw [hroute]; rfl
    · rw [hdefrost]
      dsimp only
      rw [hminute]
      refine ⟨endDefrostAtOnce_phase _, endDefrostAtOnce_th _, rfl, rfl, rfl, fun hidle => ?_, fun c hactive hcontext => ?_⟩
      · rw [endDefrostAtOnce_of_idle (s := restartBlocks s) hidle]
        exact ⟨rfl, rfl, rfl, rfl, rfl⟩
      · have hrecord := endDefrostAtOnce_of_active (s := restartBlocks s) hactive
        have hbegun : (endDefrostAtOnce (restartBlocks s)).defrost.minute.map Minute.elapsed = some 0 := by
          unfold endDefrostAtOnce
          rw [if_neg (by exact hactive)]
          rfl
        refine ⟨by rw [hrecord], by rw [hrecord], by rw [hrecord], ?_, hbegun⟩
        rw [hrecord]
        show (s.defrost.context.map _).or _ = _
        rw [hcontext]
        rfl
    · rw [publish_bus, hunits, unitTable_get]
    · rw [publish_bus, hactive h]
    · rw [publish_bus, hother h]
      exact ⟨rfl, rfl, rfl, rfl, rfl, rfl, rfl⟩
    · rw [publish_device, hdevice, hevents] at he
      subst he
      rw [EventSet.restarted_present]
      exact ⟨rfl, rfl, rfl, rfl⟩
    · exact hzoneSet z
    · have hempty : u.events.latchEmpty = true := by rw [hevents]; rfl
      have hlatched : ∀ z, ((publish u).events.zone.get z).latched = 0 := fun z => by rw [hzoneSet z]
      have hpending : (publish u).link.noticePending = decide ((publish u).events.device.latched ≠ 0) := by
        show (u.link.noticePending || (u.events.latchEmpty && !(publish u).events.latchEmpty)) = _
        rw [hempty, hlink]
        unfold Events.latchEmpty Events.latchedSets
        have h1 := hlatched .fresh
        have h2 := hlatched .freeze
        have h3 := hlatched .flex
        have h4 := hlatched .ice
        unfold PerZone.get at h1 h2 h3 h4
        rw [h1, h2, h3, h4]
        by_cases h : (publish u).events.device.latched = 0 <;> simp [h, Link.restarted, Link.reset]
      rw [publish_link, hpending, hlink]
      rfl

end Sys2Proof.Machine
end

section
/-!
PROOFS. The waiting list over an event (statement O8).
-/
namespace Sys2Proof.Machine

/-- `y` has the list of `x` but for its own holder, and behind it zones that have joined anew (R56, R57). -/
def State.listFollows (x y : State) : Prop :=
  ∃ joined : List Waiting,
    y.arb.waiting = (x.arb.waiting.filter fun w => !y.holds w.zone) ++ joined ∧ ∀ w ∈ joined, w.waited = 0

theorem createGrant_holds (z : Zone) (r : GrantReason) (s : State) (w : Zone) :
    (createGrant z r s).holds w = decide (z = w) := by
  unfold State.holds
  rw [(createGrant_grant z r s).1]
  rfl

/-- A new grant takes its zone off the list. -/
theorem createGrant_listFollows {x y : State} {z : Zone} {r : GrantReason} {joined : List Waiting}
    (hlist : y.arb.waiting = x.arb.waiting ++ joined) (hjoined : ∀ w ∈ joined, w.waited = 0) :
    x.listFollows (createGrant z r y) := by
  refine ⟨joined.filter fun w => w.zone ≠ z, ?_, fun w hw => hjoined w (List.mem_of_mem_filter hw)⟩
  rw [createGrant_arb]
  simp only [createGrant_holds]
  rw [hlist, List.filter_append]
  congr 2
  funext w
  simp [eq_comm]

/-- Without a holder the list is the former with who has joined. -/
theorem listFollows_of_noGrant {x y : State} {joined : List Waiting} (hgrant : y.arb.grant = none)
    (hlist : y.arb.waiting = x.arb.waiting ++ joined) (hjoined : ∀ w ∈ joined, w.waited = 0) : x.listFollows y := by
  refine ⟨joined, ?_, hjoined⟩
  rw [hlist, List.filter_eq_self.2]
  intro w _
  simp [State.holds, hgrant]

section
variable {x : State} (hexact : x.listExact)
include hexact

/-- Who waits is a member and not the holder. -/
theorem waiting_of_exact {w : Waiting} (hw : w ∈ x.arb.waiting) : x.member w.zone = true ∧ x.holds w.zone = false := by
  rw [State.listExact_iff] at hexact
  have hon : x.onList w.zone = true := List.any_eq_true.2 ⟨w, hw, by simp⟩
  rw [hexact, Bool.and_eq_true, Bool.not_eq_true'] at hon
  exact hon

theorem relisted_of_exact : x.relisted = x.arb.waiting := congrArg (fun t : State => t.arb.waiting) (relist_of_exact hexact)

/-- An arbitration keeps the list's order. -/
theorem arbitrate_listFollows : x.listFollows (arbitrate x) := by
  have hsame := relist_of_exact hexact
  by_cases hmode : x.mode.opState = .run
  · cases hgrant : x.arb.grant with
    | none =>
      rw [arbitrate_run_none hmode hgrant, hsame]
      rcases noGrant_cases x with ⟨z, r, -, h⟩ | ⟨-, h⟩ <;> rw [h]
      · exact createGrant_listFollows (joined := []) (by rw [normalise_waiting, List.append_nil]) (by simp)
      · refine listFollows_of_noGrant (joined := []) ?_ ?_ (by simp)
        · rw [(rehomeTest_idleOnly _).grant, (runoutEnd_idleOnly _).grant, hgrant]
        · rw [(rehomeTest_idleOnly _).waiting, (runoutEnd_idleOnly _).waiting, List.append_nil]
    | some g =>
      rw [arbitrate_run_some hmode hgrant, hsame]
      have hends := fun r => endGrant_waiting r hgrant (relisted_of_exact hexact)
      have hjoined : ∀ w ∈ (if x.member g.zone = true then [⟨g.zone, 0⟩] else [] : List Waiting), w.waited = 0 := by
        split <;> simp
      rcases heldGrant_cases g x with ⟨r, -, h⟩ | ⟨-, ⟨z, r, -, -, h⟩ | ⟨-, h⟩⟩ <;> rw [h]
      · rcases afterEnd_cases (endGrant r x) with ⟨z, r', -, h'⟩ | ⟨-, h'⟩ <;> rw [h']
        · exact createGrant_listFollows (by rw [normalise_waiting, hends r]) hjoined
        · refine listFollows_of_noGrant ?_ (by rw [(enterIdle_idleOnly _).waiting, normalise_waiting, hends r]) hjoined
          rw [(enterIdle_idleOnly _).grant, normalise_grant, endGrant_grant]
      · have hmark := markContinuation_eq hgrant
        have hlist : (markContinuation x).listExact := mapGrant_listExact (fun _ => rfl) hexact
        have hend := endGrant_waiting (s := markContinuation x) .preempted (by rw [hmark]) (relisted_of_exact hlist)
        refine createGrant_listFollows (joined := if (markContinuation x).member g.zone = true then [⟨g.zone, 0⟩] else [])
          ?_ (by split <;> simp)
        rw [normalise_waiting, hend]
        rfl
      · refine ⟨[], ?_, by simp⟩
        rw [List.append_nil, List.filter_eq_self.2]
        · rfl
        · intro w hw
          have hnot := (waiting_of_exact hexact hw).2
          rw [markContinuation_eq hgrant]
          simpa [State.holds, hgrant] using hnot
  · rw [arbitrate_not_run hmode, hsame]
    refine ⟨[], ?_, by simp⟩
    rw [List.append_nil, List.filter_eq_self.2]
    intro w hw
    simp [(waiting_of_exact hexact hw).2]

end

theorem settle_listFollows {x : State} (hexact : x.listExact) : x.listFollows (settle x) := by
  obtain ⟨joined, hlist, hjoined⟩ := arbitrate_listFollows hexact
  refine ⟨joined, ?_, hjoined⟩
  simp only [settle_holds]
  rw [settle_waiting, hlist]

/-- After one pass that leaves nothing to decide, the next keeps list and holder. -/
theorem settle_settle_waiting {s : State} (hsound : s.claimSound) :
    (settle (settle s)).arb.waiting = (settle s).arb.waiting ∧
      ∀ z, (settle (settle s)).holds z = (settle s).holds z := by
  by_cases hmode : s.mode.opState = .run
  · cases hgrant : (settle s).arb.grant with
    | some g =>
      rw [settle_settle hsound (.inl (by rw [hgrant]; rfl))]
      exact ⟨rfl, fun _ => rfl⟩
    | none =>
      have harb := arbitrate_of_decided_idle (settle_decided hsound) (by rw [(settle_arc s).mode]; exact hmode) hgrant
      refine ⟨?_, fun z => ?_⟩
      · rw [settle_waiting, harb, (rehomeTest_idleOnly _).waiting, (runoutEnd_idleOnly _).waiting]
      · rw [settle_holds, harb]
        unfold State.holds
        rw [(rehomeTest_idleOnly _).grant, (runoutEnd_idleOnly _).grant]
  · rw [settle_settle hsound (.inr hmode)]
    exact ⟨rfl, fun _ => rfl⟩

/-- Settles O8: exactness and the arbiter's decision at the event, and the order through the two passes. -/
theorem noSelectableZoneWaits : Obligations.NoSelectableZoneWaits := by
  rintro s f rfl
  refine ⟨finish_listExact s, fun hphase hlist hclaim => ?_, fun hmode hgrant => finish_noneWaits s hmode hgrant⟩
  obtain ⟨-, hexact⟩ := hlist
  have hinit : (initEnd s).listExact :=
    listExact_congr (by rw [initEnd_eq]) (fun z => by rw [initEnd_eq]; rfl) (holds_congr (by rw [initEnd_eq])) hexact
  obtain ⟨joined, hwaiting, hjoined⟩ := settle_listFollows hinit
  obtain ⟨hsame, hholder⟩ := settle_settle_waiting (initEnd_claimRule hclaim).sound
  have hfinal := finish_of_not_pending hphase
  have hmember : ∀ z, (finish s).member z = s.member z := by
    intro z
    rw [hfinal, publish_member, (settle_arc _).member, (settle_arc _).member, initEnd_eq]
    rfl
  refine ⟨joined, ?_, hjoined⟩
  rw [show (finish s).arb.waiting = (settle (initEnd s)).arb.waiting by rw [hfinal, publish_arb, hsame], hwaiting,
    show (initEnd s).arb.waiting = s.arb.waiting by rw [initEnd_eq]]
  congr 1
  refine List.filter_congr fun w hw => ?_
  rw [hmember, (waiting_of_exact hexact hw).1, Bool.true_and, ← hholder]
  have hholds : (finish s).holds w.zone = (settle (settle (initEnd s))).holds w.zone := by rw [hfinal]; rfl
  rw [← hholds]
  unfold State.holds
  cases (finish s).arb.grant <;> simp

end Sys2Proof.Machine
end

section
/-!
PROOFS. The compressor over an event: starts, stops and the target after it (statement O9).
-/
namespace Sys2Proof.Machine

/-! ## Recomputations within a pass (R121, R124) -/

/-- `t` has the compressor's record of `s` with a recomputation made of `t`. -/
abbrev State.recomputed (s t : State) : Prop :=
  t.comp =
    { s.comp with
      target := some t.targetSpeed
      command := rampTo s.comp.command t.targetSpeed t.settings.comp.ramp
      speedTimer := some 0
      fanLevel := t.condenserLevel }

/-- The target speed looks at the operating state, the settings, the service speed, the holder and what D_eff and Ta look at. -/
theorem targetSpeed_congr {s t : State} (hmode : t.mode.opState = s.mode.opState) (hsettings : t.settings = s.settings)
    (hspeed : t.comp.serviceSpeed = s.comp.serviceSpeed) (hgrant : t.arb.grant = s.arb.grant)
    (hforced : t.arb.forced = s.arb.forced) (hzones : t.zones = s.zones) (hdoors : t.doors = s.doors)
    (hsensing : t.sensing = s.sensing) : t.targetSpeed = s.targetSpeed := by
  have hambient : t.ambient = s.ambient := by
    unfold State.ambient
    rw [hsensing]
  have hdEff : t.dEff = s.dEff := by
    unfold State.dEff
    rw [hgrant, hforced, hzones, hdoors, hsettings]
  unfold State.targetSpeed
  rw [hmode, hsettings, hspeed, hgrant, hdEff, hambient]

/-- Outside SERVICE a compressor without a holder in COOLING is at Nmin (Table 6-2). -/
theorem targetSpeed_of_routing {s : State} (hmode : s.mode.opState = .run)
    (hgrant : ∀ g, s.arb.grant = some g → g.phase = .routing) : s.targetSpeed = s.settings.comp.nMin := by
  cases hg : s.arb.grant with
  | none => exact targetSpeed_of_idle hmode hg
  | some g => simp only [State.targetSpeed, hmode, hg, hgrant g hg]

/-- No target is below Nmin. -/
theorem nMin_le_targetSpeed (s : State) : s.settings.comp.nMin ≤ s.targetSpeed := by
  unfold State.targetSpeed
  dsimp only
  split
  · split
    · exact le_rfl
    · exact le_max_left _ _
  · split
    · split
      · exact le_rfl
      · exact nMin_le_coolingTarget _ _ _ _
    · exact le_rfl

theorem recompute_recomputed {s : State} (hrunning : s.comp.state = .running) : s.recomputed (recompute s) := by
  have harc := recompute_arc s
  have htarget : (recompute s).targetSpeed = s.targetSpeed :=
    targetSpeed_congr (by rw [harc.mode]) harc.settings (recompute_steady s).serviceSpeed (by rw [arb_recompute])
      (by rw [arb_recompute]) harc.zones harc.doors harc.sensing
  unfold State.recomputed
  rw [htarget, harc.settings, harc.condenserLevel]
  unfold recompute
  rw [if_pos hrunning]
  rfl

/-- A new grant recomputes. -/
theorem createGrant_recomputed (z : Zone) (r : GrantReason) {s : State} (hrunning : s.comp.state = .running) :
    s.recomputed (createGrant z r s) := by
  unfold createGrant
  dsimp only
  generalize hx : applyRoute z (clearPreChill _) = x
  have hcomp : x.comp = s.comp := by
    rw [← hx, applyRoute_comp, clearPreChill_comp, movePointers_eq]
  have h := recompute_recomputed (s := x) (by rw [hcomp]; exact hrunning)
  unfold State.recomputed at h ⊢
  rw [h, hcomp]

/-- A start of COOLING recomputes. -/
theorem coolingStart_recomputed {s : State} (hrunning : s.comp.state = .running) :
    coolingStart s = s ∨
      s.recomputed (coolingStart s) ∧
        ∃ g h, s.arb.grant = some g ∧ g.phase = .routing ∧ (coolingStart s).arb.grant = some h ∧ h.zone = g.zone ∧
          h.phase = .cooling ∧ h.continuation = g.continuation := by
  rcases coolingStart_cases s with h | ⟨g, a, hg, -, hphase, -, -, h⟩
  · exact .inl h
  · refine .inr ?_
    generalize hg' : ({ g with
      phase := .cooling
      minLeft := mins (s.settings.timing.get g.zone).minDwell
      maxLeft := mins (s.settings.timing.get g.zone).maxDwell
      startTemp := (s.sensing.air.get g.zone).filtered } : Grant) = g' at h
    generalize hw : ({ s with arb := { s.arb with grant := some g' } } : State) = w at h
    have hcomp : w.comp = s.comp := by rw [← hw]
    have hrecomputed := recompute_recomputed (s := w) (by rw [hcomp]; exact hrunning)
    have harc := startPreChill_arc g.zone (recompute w)
    have htarget : (startPreChill g.zone (recompute w)).targetSpeed = (recompute w).targetSpeed :=
      targetSpeed_congr (by rw [harc.mode]) harc.settings (by rw [startPreChill_comp]) (by rw [startPreChill_arb])
        (by rw [startPreChill_arb]) harc.zones harc.doors harc.sensing
    rw [h]
    refine ⟨?_, g, g', hg, hphase, ?_⟩
    · unfold State.recomputed at hrecomputed ⊢
      rw [startPreChill_comp, htarget, harc.settings, harc.condenserLevel, hrecomputed, hcomp]
    · rw [startPreChill_arb, arb_recompute, ← hw]
      exact ⟨rfl, by rw [← hg'], by rw [← hg'], by rw [← hg']⟩

/-! ## The arbitration as the compressor sees it -/

/-- A grant's end that leaves none recomputes. -/
theorem enterIdle_recomputed {s : State} (hrunning : s.comp.state = .running) : s.recomputed (enterIdle s) := by
  have hfrom : ∀ y : State, y.comp = s.comp → s.recomputed (recompute y) := by
    intro y hy
    have h := recompute_recomputed (s := y) (by rw [hy]; exact hrunning)
    unfold State.recomputed at h ⊢
    rw [h, hy]
  rcases enterIdle_cases s with ⟨-, -, h⟩ | ⟨-, h⟩ <;> rw [h]
  · exact hfrom { s with arb := { s.arb with idle := some .runout } } rfl
  · exact hfrom _ (enterParkDelay_comp s)

/-- An arbitration leaves a running compressor's record and the grant but for its mark, or it recomputes with no grant in
COOLING. -/
theorem arbitrate_outcome {x : State} (hrunning : x.comp.state = .running) :
    ((arbitrate x).comp = x.comp ∧ (x.arb.grant = none → (arbitrate x).arb.grant = none) ∧
      ∀ g, x.arb.grant = some g →
        (arbitrate x).arb.grant = some (if x.mode.opState = .run then { g with continuation := x.continues g } else g)) ∨
    x.mode.opState = .run ∧ x.recomputed (arbitrate x) ∧ (∀ g, (arbitrate x).arb.grant = some g → g.phase = .routing) ∧
      (x.arb.grant = none → (arbitrate x).arb.grant ≠ none) := by
  have hcreated : ∀ z r (y : State), y.comp = x.comp →
      x.recomputed (createGrant z r y) ∧ (∀ g, (createGrant z r y).arb.grant = some g → g.phase = .routing) ∧
        (createGrant z r y).arb.grant ≠ none := by
    intro z r y hy
    have hnew := (createGrant_grant z r y).1
    have h := createGrant_recomputed z r (s := y) (by rw [hy]; exact hrunning)
    refine ⟨?_, fun g hg => ?_, by rw [hnew]; exact nofun⟩
    · unfold State.recomputed at h ⊢
      rw [h, hy]
    · obtain rfl := Option.some.inj (hnew.symm.trans hg)
      rfl
  by_cases hmode : x.mode.opState = .run
  · cases hgrant : x.arb.grant with
    | none =>
      rw [arbitrate_run_none hmode hgrant]
      rcases noGrant_cases (relist x) with ⟨z, r, -, h⟩ | ⟨-, h⟩ <;> rw [h]
      · obtain ⟨hc, hr, hn⟩ := hcreated z r (normalise (relist x)) (by rw [normalise_comp]; rfl)
        exact .inr ⟨hmode, hc, hr, fun _ => hn⟩
      · refine .inl ⟨by rw [rehomeTest_comp, runoutEnd_comp]; rfl, fun _ => ?_, fun g hg => absurd hg (by simp)⟩
        rw [(rehomeTest_idleOnly _).grant, (runoutEnd_idleOnly _).grant]
        exact hgrant
    | some g =>
      rw [arbitrate_run_some hmode hgrant]
      rcases heldGrant_cases g (relist x) with ⟨r, -, h⟩ | ⟨-, ⟨z, r, -, -, h⟩ | ⟨-, h⟩⟩ <;> rw [h]
      · rcases afterEnd_cases (endGrant r (relist x)) with ⟨z, r', -, h'⟩ | ⟨-, h'⟩ <;> rw [h']
        · obtain ⟨hc, hr, hn⟩ := hcreated z r' (normalise (endGrant r (relist x)))
            (by rw [normalise_comp, endGrant_comp]; rfl)
          exact .inr ⟨hmode, hc, hr, fun _ => hn⟩
        · have hcomp : (normalise (endGrant r (relist x))).comp = x.comp := by rw [normalise_comp, endGrant_comp]; rfl
          have hidle := enterIdle_recomputed (s := normalise (endGrant r (relist x))) (by rw [hcomp]; exact hrunning)
          refine .inr ⟨hmode, ?_, fun g hg => ?_, fun hno => absurd hno (by simp)⟩
          · unfold State.recomputed at hidle ⊢
            rw [hidle, hcomp]
          · rw [(enterIdle_idleOnly _).grant, normalise_grant, endGrant_grant] at hg
            cases hg
      · obtain ⟨hc, hr, hn⟩ := hcreated z r (normalise (endGrant .preempted (markContinuation (relist x))))
          (by rw [normalise_comp, endGrant_comp]; rfl)
        exact .inr ⟨hmode, hc, hr, fun _ => hn⟩
      · rw [markContinuation_eq (s := relist x) hgrant]
        refine .inl ⟨rfl, fun hno => absurd hno (by simp), fun g' hg' => ?_⟩
        obtain rfl := Option.some.inj hg'
        rw [if_pos hmode]
        rfl
  · rw [arbitrate_not_run hmode]
    refine .inl ⟨rfl, id, fun g hg => ?_⟩
    rw [if_neg hmode]
    exact hg

/-- In RUN a holder after an arbitration was kept, with its mark, or has just won: in ROUTING, of a zone that calls. -/
theorem arbitrate_kept_or_new {x : State} (hmode : x.mode.opState = .run) {g : Grant}
    (hg : (arbitrate x).arb.grant = some g) :
    (∃ k, x.arb.grant = some k ∧ x.endCause k = none ∧ g = { k with continuation := x.continues k }) ∨
      g.phase = .routing ∧ (x.zones.get g.zone).demand ≠ .satisfied ∧ g.continuation = false := by
  have hcreated : ∀ z r (y : State), y.zones = x.zones → y.selectable z = true →
      (createGrant z r y).arb.grant = some g →
      g.phase = .routing ∧ (x.zones.get g.zone).demand ≠ .satisfied ∧ g.continuation = false := by
    intro z r y hy hz hnew
    obtain rfl := Option.some.inj ((createGrant_grant z r y).1.symm.trans hnew)
    obtain ⟨-, -, -, -, hcalling, -⟩ := selectable_spec hz
    rw [hy] at hcalling
    refine ⟨rfl, fun hs => ?_, rfl⟩
    have hd : (x.zones.get z).demand = .satisfied := hs
    rw [hcalling] at hd
    cases hd
  have hselected : ∀ {y : State} {z r}, y.selection none = some (z, r) → y.selectable z = true := by
    intro y z r hw
    obtain ⟨hcandidate, -⟩ := State.selection_spec hw
    rw [State.candidate_none] at hcandidate
    exact ((y.waitingSelectable_iff z).1 hcandidate).2
  have hexact := relist_exact x
  cases hgrant : x.arb.grant with
  | none =>
    rw [arbitrate_run_none hmode hgrant] at hg
    rcases noGrant_cases (relist x) with ⟨z, r, hw, h⟩ | ⟨-, h⟩ <;> rw [h] at hg
    · exact .inr (hcreated z r _ (by rw [(normalise_arc _).zones]; rfl) (hselected hw) hg)
    · rw [(rehomeTest_idleOnly _).grant, (runoutEnd_idleOnly _).grant] at hg
      exact absurd (hgrant.symm.trans hg) (by simp)
  | some g' =>
    rw [arbitrate_run_some hmode hgrant] at hg
    rcases heldGrant_cases g' (relist x) with ⟨r, -, h⟩ | ⟨hend, ⟨z, r, hp, -, h⟩ | ⟨-, h⟩⟩ <;> rw [h] at hg
    · rcases afterEnd_cases (endGrant r (relist x)) with ⟨z, r', hw, h'⟩ | ⟨-, h'⟩ <;> rw [h'] at hg
      · exact .inr (hcreated z r' _ (by rw [(normalise_arc _).zones, (endGrant_arc _ _).zones]; rfl) (hselected hw) hg)
      · rw [(enterIdle_idleOnly _).grant, normalise_grant, endGrant_grant] at hg
        cases hg
    · obtain ⟨hz, -⟩ := State.preemptor_spec hp
      have harc : ArcOnly (markContinuation (relist x)) (normalise (endGrant .preempted (markContinuation (relist x)))) :=
        (endGrant_arc _ _).trans (normalise_arc _)
      refine .inr (hcreated z r _ (by rw [harc.zones]; rfl) ?_ hg)
      rw [harc.selectable (compAvailable_of_comp (by rw [normalise_comp, endGrant_comp]))]
      exact ((State.waitingSelectable_iff _ z).1 hz).2
    · rw [markContinuation_eq (s := relist x) hgrant] at hg
      obtain rfl := Option.some.inj hg
      exact .inl ⟨g', rfl, hend, rfl⟩

/-- A holder in ROUTING after an arbitration is not SATISFIED and has no mark. -/
theorem arbitrate_routing {x : State} (hmode : x.mode.opState = .run) {g : Grant} (hg : (arbitrate x).arb.grant = some g)
    (hphase : g.phase = .routing) : (x.zones.get g.zone).demand ≠ .satisfied ∧ g.continuation = false := by
  rcases arbitrate_kept_or_new hmode hg with ⟨k, -, hend, rfl⟩ | ⟨-, hnew⟩
  · have hrouting : k.phase = .routing := hphase
    obtain ⟨-, -, -, -, hnot⟩ := (x.endCause_none_iff k).1 hend
    refine ⟨fun hs => hnot ⟨hs, .inl hrouting⟩, ?_⟩
    show (decide (k.phase = .cooling) && _) = false
    rw [hrouting]
    rfl
  · exact hnew

/-! ## A start (R118) -/

/-- In `x` the compressor has started at an event of `s` (R118), and runs at Nmin while no grant is in COOLING. -/
structure State.Begun (s x : State) : Prop where
  settings : x.settings = s.settings
  sensing : x.sensing = s.sensing
  state : x.comp.state = .running
  runFor : x.comp.runFor = 0
  runWatch : x.comp.runWatch = some 0
  speedTimer : x.comp.speedTimer = some 0
  postRun : x.comp.postRun = none
  fanLevel : x.comp.fanLevel = s.condenserLevel
  stopFor : x.comp.stopFor = s.comp.stopFor
  low : s.settings.comp.nMin ≤ x.comp.command
  idle : (∀ g, x.arb.grant = some g → g.phase = .routing) →
    x.comp.command = s.settings.comp.nMin ∧ x.comp.target = some s.settings.comp.nMin

/-- A grant in COOLING has had its recomputation from Nmin (R121, R124). -/
def State.Ramped (s x : State) : Prop :=
  ∀ g, x.arb.grant = some g → g.phase = .cooling →
    g.continuation = x.continues g ∧ x.comp.target = some x.targetSpeed ∧
      x.comp.command = rampTo s.settings.comp.nMin x.targetSpeed s.settings.comp.ramp

theorem condenserLevel_congr {s t : State} (h : t.sensing = s.sensing) : t.condenserLevel = s.condenserLevel := by
  unfold State.condenserLevel State.ambient
  rw [h]

theorem State.Begun.of_comp {s x t : State} (h : s.Begun x) (hcomp : t.comp = x.comp) (hsettings : t.settings = x.settings)
    (hsensing : t.sensing = x.sensing)
    (hgrant : (∀ g, t.arb.grant = some g → g.phase = .routing) → ∀ g, x.arb.grant = some g → g.phase = .routing) :
    s.Begun t where
  settings := hsettings.trans h.settings
  sensing := hsensing.trans h.sensing
  state := by rw [hcomp, h.state]
  runFor := by rw [hcomp, h.runFor]
  runWatch := by rw [hcomp, h.runWatch]
  speedTimer := by rw [hcomp, h.speedTimer]
  postRun := by rw [hcomp, h.postRun]
  fanLevel := by rw [hcomp, h.fanLevel]
  stopFor := by rw [hcomp, h.stopFor]
  low := by rw [hcomp]; exact h.low
  idle hg := by rw [hcomp]; exact h.idle (hgrant hg)

/-- A recomputation keeps what a start has begun. -/
theorem State.Begun.of_recomputed {s x t : State} (h : s.Begun x) (hrecomputed : x.recomputed t)
    (hsettings : t.settings = x.settings) (hsensing : t.sensing = x.sensing)
    (hidle : (∀ g, t.arb.grant = some g → g.phase = .routing) → t.targetSpeed = s.settings.comp.nMin) : s.Begun t := by
  have hn := nMin_le_targetSpeed t
  rw [hsettings, h.settings] at hn
  have hlow := h.low
  refine ⟨hsettings.trans h.settings, hsensing.trans h.sensing, ?_, ?_, ?_, ?_, ?_, ?_, ?_, ?_, fun hg => ?_⟩ <;>
    rw [hrecomputed]
  · exact h.state
  · exact h.runFor
  · exact h.runWatch
  · exact h.postRun
  · exact condenserLevel_congr (hsensing.trans h.sensing)
  · exact h.stopFor
  · show _ ≤ rampTo x.comp.command t.targetSpeed t.settings.comp.ramp
    unfold rampTo
    split <;> omega
  · rw [hidle hg]
    refine ⟨?_, rfl⟩
    show rampTo x.comp.command s.settings.comp.nMin t.settings.comp.ramp = _
    unfold rampTo
    rw [if_neg (by omega)]

theorem State.Begun.arbitrate {s x : State} (h : s.Begun x) : s.Begun (arbitrate x) := by
  have harc := arbitrate_arc x
  rcases arbitrate_outcome h.state with ⟨hcomp, -, hgrant⟩ | ⟨hmode, hrecomputed, hrouting, -⟩
  · refine h.of_comp hcomp harc.settings harc.sensing fun hall g hg => ?_
    have hphase := hall _ (hgrant g hg)
    split at hphase <;> exact hphase
  · refine h.of_recomputed hrecomputed harc.settings harc.sensing fun hall => ?_
    rw [targetSpeed_of_routing (by rw [harc.mode]; exact hmode) hall, harc.settings, h.settings]

theorem State.Begun.coolingStart {s x : State} (h : s.Begun x) : s.Begun (coolingStart x) := by
  have harc := coolingStart_arc x
  rcases coolingStart_recomputed h.state with hsame | ⟨hrecomputed, g, h', -, -, hh, -, hcooling, -⟩
  · rw [hsame]
    exact h
  · refine h.of_recomputed hrecomputed harc.settings harc.sensing fun hall => ?_
    rw [hall h' hh] at hcooling
    cases hcooling

theorem compReact_running_cases {s : State} (h : s.comp.state = .running) :
    compReact s = s ∨ s.runRequest = false ∧ s.minOnMet = true ∧ compReact s = stopComp s := by
  by_cases hstop : s.runRequest = false ∧ s.minOnMet = true
  · exact .inr ⟨hstop.1, hstop.2, compReact_stop h hstop.1 hstop.2⟩
  · exact .inl (compReact_of_stands (by simp [h]) (by simp only [h, true_and]; exact hstop))

theorem compReact_stopped_cases {s : State} (h : s.comp.state = .stopped) :
    (s.runRequest = false ∨ s.minOffElapsed = false) ∧ compReact s = s ∨ compReact s = startComp s := by
  by_cases hstart : s.runRequest = true ∧ s.minOffElapsed = true
  · refine .inr ?_
    unfold compReact
    rw [if_pos (by simp [h, hstart])]
  · refine .inl ⟨?_, compReact_of_stands (by simp only [h, true_and]; exact hstart) (by simp [h])⟩
    rw [not_and_or, Bool.not_eq_true, Bool.not_eq_true] at hstart
    exact hstart

/-- What a start has begun goes through a pass that leaves the compressor running. -/
theorem State.Begun.passBody {s x : State} (h : s.Begun x) (hrunning : (passBody x).comp.state = .running) :
    s.Begun (passBody x) := by
  have harc := passBody_arc x
  have hcomp : (Machine.passBody x).comp = x.comp := by
    rw [passBody_comp] at hrunning ⊢
    rcases compReact_running_cases (s := kickValve x) h.state with hsame | ⟨-, -, hstop⟩
    · rw [hsame]
      rfl
    · rw [hstop] at hrunning
      cases hrunning
  exact h.of_comp hcomp harc.settings harc.sensing (by rw [passBody_arb]; exact id)

theorem State.Begun.settle {s x : State} (h : s.Begun x) (hrunning : (settle x).comp.state = .running) :
    s.Begun (settle x) := by
  have hbody : (Machine.passBody (Machine.arbitrate x)).comp.state = .running := by
    rw [settle_eq] at hrunning
    rw [← (coolingStart_steady _).state]
    exact hrunning
  exact (h.arbitrate.passBody hbody).coolingStart

theorem State.Ramped.of_routing {s x : State} (h : ∀ g, x.arb.grant = some g → g.phase = .routing) : s.Ramped x := by
  intro g hg hcooling
  rw [h g hg] at hcooling
  cases hcooling

theorem State.Ramped.of_same {s x t : State} (h : s.Ramped x) (harc : ArcOnly x t) (hcomp : t.comp = x.comp)
    (hgrant : t.arb.grant = x.arb.grant) (hforced : t.arb.forced = x.arb.forced) : s.Ramped t := by
  have htarget : t.targetSpeed = x.targetSpeed := targetSpeed_congr (by rw [harc.mode]) harc.settings (by rw [hcomp]) hgrant
    hforced harc.zones harc.doors harc.sensing
  intro g hg hcooling
  rw [hgrant] at hg
  rw [htarget, hcomp, State.continues, harc.zones]
  exact h g hg hcooling

/-- The start of COOLING ramps from Nmin. -/
theorem State.Ramped.coolingStart {s x : State} (h : s.Ramped x) (hbegun : s.Begun x)
    (hrouting : ∀ g, x.arb.grant = some g → g.phase = .routing →
      (x.zones.get g.zone).demand ≠ .satisfied ∧ g.continuation = false) : s.Ramped (coolingStart x) := by
  have harc := coolingStart_arc x
  rcases coolingStart_recomputed hbegun.state with hsame | ⟨hrecomputed, g, h', hg, hphase, hh, hzone, hcooling, hmark⟩
  · rw [hsame]
    exact h
  · obtain ⟨hdemand, hno⟩ := hrouting g hg hphase
    have hcommand := (hbegun.idle fun g' hg' => by
      obtain rfl := Option.some.inj (hg.symm.trans hg')
      exact hphase).1
    intro g' hg' _
    obtain rfl := Option.some.inj (hh.symm.trans hg')
    refine ⟨?_, ?_, ?_⟩
    · rw [hmark, hno, State.continues, harc.zones, hzone]
      simp [hdemand]
    · rw [hrecomputed]
    · rw [hrecomputed, hcommand, harc.settings, hbegun.settings]

theorem State.Ramped.arbitrate {s x : State} (h : s.Ramped x) (hbegun : s.Begun x) (hmode : x.mode.opState = .run) :
    s.Ramped (arbitrate x) := by
  rcases arbitrate_outcome hbegun.state with ⟨hcomp, hnone, hgrant⟩ | ⟨-, -, hrouting, -⟩
  · cases hg : x.arb.grant with
    | none => exact .of_routing fun g hg' => absurd ((hnone hg).symm.trans hg') (by simp)
    | some g =>
      have hg' := hgrant g hg
      rw [if_pos hmode] at hg'
      by_cases hcooling : g.phase = .cooling
      · have hsame : ({ g with continuation := x.continues g } : Grant) = g := by rw [← (h g hg hcooling).1]
        rw [hsame] at hg'
        exact h.of_same (arbitrate_arc x) hcomp (hg'.trans hg.symm) (arbitrate_forced x)
      · refine .of_routing fun g'' hg'' => ?_
        obtain rfl := Option.some.inj (hg'.symm.trans hg'')
        have hphase : g.phase = .routing ∨ g.phase = .cooling := by cases g.phase <;> simp
        exact hphase.resolve_right hcooling
  · exact .of_routing hrouting

/-- In RUN a pass keeps the ramp from Nmin. -/
theorem State.Ramped.settle {s x : State} (h : s.Ramped x) (hbegun : s.Begun x) (hmode : x.mode.opState = .run)
    (hrunning : (settle x).comp.state = .running) : s.Ramped (settle x) := by
  have hbody : (passBody (Machine.arbitrate x)).comp.state = .running := by
    rw [settle_eq] at hrunning
    rw [← (coolingStart_steady _).state]
    exact hrunning
  have hbegun' := hbegun.arbitrate.passBody hbody
  have hcomp : (passBody (Machine.arbitrate x)).comp = (Machine.arbitrate x).comp := by
    rw [passBody_comp] at hbody ⊢
    rcases compReact_running_cases (s := kickValve (Machine.arbitrate x)) hbegun.arbitrate.state with hsame | ⟨-, -, hstop⟩
    · rw [hsame]
      rfl
    · rw [hstop] at hbody
      cases hbody
  rw [settle_eq]
  refine State.Ramped.coolingStart ((h.arbitrate hbegun hmode).of_same (passBody_arc _) hcomp (by rw [passBody_arb])
    (by rw [passBody_arb])) hbegun' fun g hg hphase => ?_
  rw [passBody_arb] at hg
  rw [(passBody_arc _).zones, (arbitrate_arc x).zones]
  exact arbitrate_routing hmode hg hphase

/-- A pass that finds the compressor stopped leaves it so, or starts it. -/
theorem settle_starts {s x : State} (hsettings : x.settings = s.settings) (hsensing : x.sensing = s.sensing)
    (hcomp : x.comp = s.comp) (hstopped : s.comp.state = .stopped) :
    (settle x).comp = s.comp ∧
        (x.mode.opState = .run → x.minOffElapsed = false ∨ (settle x).arb.grant = none) ∨
      s.Begun (settle x) ∧
        (x.mode.opState = .run → (∀ g, x.arb.grant = some g → g.phase = .routing) → s.Ramped (settle x)) := by
  have hfirst : (arbitrate x).comp = s.comp :=
    ((arbitrate_steady x).2 (by rw [hcomp, hstopped]; exact nofun)).trans hcomp
  have harc := arbitrate_arc x
  have hbodyArc := passBody_arc (arbitrate x)
  rcases compReact_stopped_cases (s := kickValve (arbitrate x)) (by rw [← hstopped, ← hfirst]; rfl) with
    ⟨hwhy, hsame⟩ | hstart
  · have hbody : (passBody (arbitrate x)).comp = s.comp := by
      rw [passBody_comp, hsame]
      exact hfirst
    refine .inl ⟨?_, fun hmode => ?_⟩
    · rw [settle_eq, (coolingStart_steady _).2 (by rw [hbody, hstopped]; exact nofun), hbody]
    · rcases hwhy with hrequest | helapsed
      · refine .inr ?_
        have hmode' : (kickValve (arbitrate x)).mode.opState = .run := by
          show (arbitrate x).mode.opState = _
          rw [harc.mode, hmode]
        have hnone : (arbitrate x).arb.grant = none := by
          unfold State.runRequest at hrequest
          rw [hmode'] at hrequest
          have hno : (arbitrate x).arb.grant.isSome = false := (Bool.or_eq_false_iff.1 hrequest).1
          simpa using hno
        rw [settle_arb_of_idle hnone, hnone]
      · refine .inl ?_
        rw [← helapsed]
        show decide (sec x.settings.comp.minOff ≤ x.comp.stopFor) =
          decide (sec (arbitrate x).settings.comp.minOff ≤ (arbitrate x).comp.stopFor)
        rw [harc.settings, hfirst, hcomp]
  · have hbody : (passBody (arbitrate x)).comp = (startComp (kickValve (arbitrate x))).comp := by
      rw [passBody_comp, hstart]
    have hset : (kickValve (arbitrate x)).settings = s.settings := (harc.settings).trans hsettings
    have hsens : (kickValve (arbitrate x)).sensing = s.sensing := (harc.sensing).trans hsensing
    have hspeed : (passBody (arbitrate x)).comp.command = s.settings.comp.nMin := by
      rw [hbody, ← hset]
      rfl
    have hbegun : s.Begun (passBody (arbitrate x)) := by
      refine ⟨hbodyArc.settings.trans (harc.settings.trans hsettings), hbodyArc.sensing.trans (harc.sensing.trans hsensing),
        by rw [hbody]; rfl, by rw [hbody]; rfl, by rw [hbody]; rfl, by rw [hbody]; rfl, by rw [hbody]; rfl, ?_, ?_, hspeed.ge,
        fun _ => ⟨hspeed, ?_⟩⟩
      · rw [hbody]
        exact condenserLevel_congr hsens
      · rw [hbody, ← hfirst]
        rfl
      · rw [hbody, ← hset]
        rfl
    refine .inr ⟨hbegun.coolingStart, fun hmode hrouting => ?_⟩
    have hall : ∀ g, (passBody (arbitrate x)).arb.grant = some g →
        (g.phase = .routing ∧ (x.zones.get g.zone).demand ≠ .satisfied ∧ g.continuation = false) := by
      intro g hg
      rw [passBody_arb] at hg
      have hphase : g.phase = .routing := by
        rcases arbitrate_kept_or_new hmode hg with ⟨k, hk, -, rfl⟩ | ⟨hnew, -⟩
        · exact hrouting k hk
        · exact hnew
      exact ⟨hphase, arbitrate_routing hmode hg hphase⟩
    rw [settle_eq]
    refine State.Ramped.coolingStart (.of_routing fun g hg => (hall g hg).1) hbegun fun g hg _ => ?_
    rw [hbodyArc.zones, harc.zones]
    exact (hall g hg).2

/-! ## A stop (R120) -/

/-- In `x` the compressor of `s` still runs; without a grant, one that `s` had has ended with a recomputation. -/
structure State.Runs (s x : State) : Prop where
  settings : x.settings = s.settings
  sensing : x.sensing = s.sensing
  state : x.comp.state = .running
  command : x.comp.command ≠ 0
  runFor : x.comp.runFor = s.comp.runFor
  fan : s.arb.grant ≠ none → x.arb.grant = none → x.comp.fanLevel = s.condenserLevel

/-- In `x` the compressor of `s` has stopped at the event (R120, R132). -/
structure State.Halted (s x : State) : Prop where
  state : x.comp.state = .stopped
  command : x.comp.command = 0
  stopFor : x.comp.stopFor = 0
  runFor : x.comp.runFor = s.comp.runFor
  runWatch : x.comp.runWatch = none
  speedTimer : x.comp.speedTimer = none
  postRun : x.comp.postRun = some (60 * 9600)
  fan : x.mode.opState = .run → s.arb.grant ≠ none → x.comp.fanLevel = s.condenserLevel

theorem State.Runs.of_recomputed {s x t : State} (h : s.Runs x) (hspeed : 0 < s.settings.comp.nMin)
    (hrecomputed : x.recomputed t) (hsettings : t.settings = x.settings) (hsensing : t.sensing = x.sensing) : s.Runs t := by
  have hn := nMin_le_targetSpeed t
  rw [hsettings, h.settings] at hn
  refine ⟨hsettings.trans h.settings, hsensing.trans h.sensing, ?_, ?_, ?_, fun _ _ => ?_⟩ <;> rw [hrecomputed]
  · exact h.state
  · show rampTo x.comp.command t.targetSpeed t.settings.comp.ramp ≠ 0
    have := h.command
    unfold rampTo
    split <;> omega
  · exact h.runFor
  · exact condenserLevel_congr (hsensing.trans h.sensing)

theorem State.Runs.arbitrate {s x : State} (h : s.Runs x) (hspeed : 0 < s.settings.comp.nMin) : s.Runs (arbitrate x) := by
  have harc := arbitrate_arc x
  rcases arbitrate_outcome h.state with ⟨hcomp, -, hgrant⟩ | ⟨-, hrecomputed, -⟩
  · refine ⟨harc.settings.trans h.settings, harc.sensing.trans h.sensing, by rw [hcomp, h.state], by rw [hcomp]; exact h.command,
      by rw [hcomp, h.runFor], fun hs hnone => ?_⟩
    rw [hcomp]
    refine h.fan hs ?_
    cases hg : x.arb.grant with
    | none => rfl
    | some g => exact absurd ((hgrant g hg).symm.trans hnone) (by simp)
  · exact h.of_recomputed hspeed hrecomputed harc.settings harc.sensing

theorem State.Runs.coolingStart {s x : State} (h : s.Runs x) (hspeed : 0 < s.settings.comp.nMin) :
    s.Runs (coolingStart x) := by
  have harc := coolingStart_arc x
  rcases coolingStart_recomputed h.state with hsame | ⟨hrecomputed, -⟩
  · rw [hsame]
    exact h
  · exact h.of_recomputed hspeed hrecomputed harc.settings harc.sensing

/-- A pass leaves the compressor running, or stops it. -/
theorem State.Runs.settle {s x : State} (h : s.Runs x) (hspeed : 0 < s.settings.comp.nMin) :
    s.Runs (settle x) ∨ s.Halted (settle x) := by
  have hfirst := h.arbitrate hspeed
  generalize hy : Machine.arbitrate x = y at hfirst
  have harc := passBody_arc y
  rw [settle_eq, hy]
  rcases compReact_running_cases (s := kickValve y) hfirst.state with hsame | ⟨hrequest, -, hstop⟩
  · have hcomp : (passBody y).comp = y.comp := by
      rw [passBody_comp, hsame]
      rfl
    have hbody : s.Runs (passBody y) := by
      refine ⟨harc.settings.trans hfirst.settings, harc.sensing.trans hfirst.sensing, ?_, ?_, ?_, ?_⟩ <;>
        rw [hcomp]
      · exact hfirst.state
      · exact hfirst.command
      · exact hfirst.runFor
      · rw [passBody_arb]
        exact hfirst.fan
    exact .inl (hbody.coolingStart hspeed)
  · have hcomp : (passBody y).comp = (stopComp (kickValve y)).comp := by rw [passBody_comp, hstop]
    have hkept : (Machine.coolingStart (passBody y)).comp = (stopComp (kickValve y)).comp := by
      rw [(coolingStart_steady _).2 (by rw [hcomp]; exact nofun), hcomp]
    refine .inr ⟨?_, ?_, ?_, ?_, ?_, ?_, ?_, fun hmode hs => ?_⟩ <;> rw [hkept]
    · rfl
    · rfl
    · rfl
    · exact hfirst.runFor
    · rfl
    · rfl
    · exact if_neg hfirst.command
    · refine hfirst.fan hs ?_
      have hmode' : (kickValve y).mode.opState = .run := by
        rw [(coolingStart_arc _).mode, harc.mode] at hmode
        exact hmode
      unfold State.runRequest at hrequest
      rw [hmode'] at hrequest
      have hno : y.arb.grant.isSome = false := (Bool.or_eq_false_iff.1 hrequest).1
      simpa using hno

theorem State.Halted.settle {s x : State} (h : s.Halted x) (hstopped : (settle x).comp.state = .stopped) :
    s.Halted (settle x) := by
  rcases settle_starts (s := x) rfl rfl rfl h.state with ⟨hcomp, -⟩ | ⟨hbegun, -⟩
  · have harc := settle_arc x
    refine ⟨?_, ?_, ?_, ?_, ?_, ?_, ?_, fun hmode hs => ?_⟩ <;> rw [hcomp]
    · exact h.state
    · exact h.command
    · exact h.stopFor
    · exact h.runFor
    · exact h.runWatch
    · exact h.speedTimer
    · exact h.postRun
    · exact h.fan (by rw [← harc.mode]; exact hmode) hs
  · rw [hbegun.state] at hstopped
    cases hstopped

/-! ## The two passes -/

/-- What stands between the two passes of an event. -/
abbrev State.between (s : State) : State := pendingTest (settle (initEnd s))

theorem between_spec (s : State) :
    s.between.settings = s.settings ∧ s.between.sensing = s.sensing ∧ s.between.mode = (initEnd s).mode ∧
      s.between.comp = (settle (initEnd s)).comp ∧ s.between.arb.grant = (settle (initEnd s)).arb.grant := by
  have honly := pendingTest_only (settle (initEnd s))
  have harc := settle_arc (initEnd s)
  have hinit := initEnd_eq s
  refine ⟨honly.settings.trans (harc.settings.trans (by rw [hinit])), honly.sensing.trans (harc.sensing.trans (by rw [hinit])),
    honly.mode.trans harc.mode, honly.comp, honly.grant⟩

theorem between_of_run {s : State} (hmode : s.mode.opState = .run) (hphase : s.defrost.phase ≠ .pending) :
    s.between = settle s := by
  rw [State.between, initEnd_of_not_init (by rw [hmode]; exact nofun),
    pendingTest_of_not_pending (by rw [settle_defrost]; exact hphase)]

/-- The compressor's record after an event is that of the second pass, with the target as shown. -/
theorem finish_comp (s : State) :
    (finish s).comp = { (settle s.between).comp with target := (settle s.between).shownTarget } := by
  rw [finish_eq_settle]
  rfl

theorem publish_targetSpeed (r : State) : (publish r).targetSpeed = r.targetSpeed :=
  targetSpeed_congr rfl rfl rfl rfl rfl rfl rfl rfl

theorem publish_protections (r : State) :
    (publish r).minOffElapsed = r.minOffElapsed ∧ (publish r).minOnMet = r.minOnMet := ⟨rfl, rfl⟩

theorem finish_runRequest (s : State) : (finish s).runRequest = (settle s.between).runRequest := by
  rw [finish_eq_settle]
  exact runRequest_congr rfl rfl rfl rfl

/-- A start at an event, through both passes. -/
theorem settle_between_begun {s : State} (hstopped : s.comp.state = .stopped)
    (hrunning : (settle s.between).comp.state = .running) :
    s.Begun (settle s.between) ∧
      (s.mode.opState = .run → s.defrost.phase ≠ .pending → (∀ g, s.arb.grant = some g → g.phase = .routing) →
        s.Ramped (settle s.between)) := by
  obtain ⟨hsettings, hsensing, -, hcomp, hgrant⟩ := between_spec s
  have hinit := initEnd_eq s
  rcases settle_starts (s := s) (x := initEnd s) (by rw [hinit]) (by rw [hinit]) (by rw [hinit]) hstopped with
    ⟨hsame, hwhy⟩ | ⟨hbegun, hramped⟩
  · rw [hsame] at hcomp
    rcases settle_starts hsettings hsensing hcomp hstopped with ⟨hsame', -⟩ | ⟨hbegun, hramped⟩
    · rw [hsame', hstopped] at hrunning
      cases hrunning
    · refine ⟨hbegun, fun hmode hphase _ => hramped ?_ fun g hg => ?_⟩
      · rw [between_of_run hmode hphase, (settle_arc s).mode, hmode]
      · rcases hwhy (by rw [initEnd_of_not_init (by rw [hmode]; exact nofun), hmode]) with helapsed | hnone
        · have hstill := settle_comp_of_still (s := s.between) (by rw [hcomp, hstopped]; exact nofun) fun _ => by
            rw [← helapsed, State.minOffElapsed, State.minOffElapsed, hcomp, hsettings, hinit]
          rw [hstill, hcomp, hstopped] at hrunning
          cases hrunning
        · rw [hgrant, hnone] at hg
          cases hg
  · have hmiddle : s.Begun s.between := hbegun.of_comp hcomp (hsettings.trans hbegun.settings.symm)
      (hsensing.trans hbegun.sensing.symm) (by rw [hgrant]; exact id)
    refine ⟨hmiddle.settle hrunning, fun hmode hphase hrouting => ?_⟩
    have hsame := initEnd_of_not_init (s := s) (by rw [hmode]; exact nofun)
    rw [hsame] at hramped
    rw [between_of_run hmode hphase] at hmiddle hrunning ⊢
    exact (hramped hmode hrouting).settle hmiddle (by rw [(settle_arc s).mode, hmode]) hrunning

/-- A stop at an event, through both passes. -/
theorem settle_between_halted {s : State} (hrunning : s.comp.state = .running) (hcommand : s.comp.command ≠ 0)
    (hspeed : 0 < s.settings.comp.nMin) (hstopped : (settle s.between).comp.state = .stopped) :
    s.Halted (settle s.between) := by
  obtain ⟨hsettings, hsensing, hmode, hcomp, hgrant⟩ := between_spec s
  have hinit := initEnd_eq s
  have hruns : s.Runs (initEnd s) := by
    rw [hinit]
    exact ⟨rfl, rfl, hrunning, hcommand, rfl, fun hs hnone => absurd hnone hs⟩
  rcases hruns.settle hspeed with h | h
  · have hmiddle : s.Runs s.between := by
      refine ⟨hsettings, hsensing, ?_, ?_, ?_, ?_⟩
      · rw [hcomp, h.state]
      · rw [hcomp]
        exact h.command
      · rw [hcomp, h.runFor]
      · rw [hcomp, hgrant]
        exact h.fan
    refine (hmiddle.settle hspeed).resolve_left fun h' => ?_
    rw [h'.state] at hstopped
    cases hstopped
  · have hmiddle : s.Halted s.between := by
      refine ⟨?_, ?_, ?_, ?_, ?_, ?_, ?_, fun hrun => ?_⟩ <;> rw [hcomp]
      · exact h.state
      · exact h.command
      · exact h.stopFor
      · exact h.runFor
      · exact h.runWatch
      · exact h.speedTimer
      · exact h.postRun
      · exact h.fan (by rw [(settle_arc _).mode, ← hmode]; exact hrun)
    exact hmiddle.settle hstopped

/-- A stop at an event that found no grant leaves the fan level last decided (R132). -/
theorem settle_settle_fanLevel {s : State} (hmode : s.mode.opState = .run) (hgrant : s.arb.grant = none)
    (hrunning : s.comp.state = .running) (hstopped : (settle (settle s)).comp.state = .stopped) :
    (settle (settle s)).comp.fanLevel = s.comp.fanLevel := by
  have hsound := State.claimSound_of_noGrant hgrant
  have hstate : (kickValve (arbitrate s)).comp.state = .running :=
    (arbitrate_steady s).state.trans hrunning
  have hpass : (passBody (arbitrate s)).comp.state = (settle s).comp.state := by
    rw [settle_eq, (coolingStart_steady _).state]
  rw [passBody_comp] at hpass
  cases hheld : (settle s).arb.grant with
  | some g =>
    rw [settle_settle hsound (.inl (by rw [hheld]; rfl))] at hstopped
    rcases compReact_running_cases hstate with hsame | ⟨hrequest, -⟩
    · rw [hsame, hstate, hstopped] at hpass
      cases hpass
    · have hsome : (kickValve (arbitrate s)).arb.grant.isSome = true := by
        show (arbitrate s).arb.grant.isSome = true
        cases hnone : (arbitrate s).arb.grant with
        | some g => rfl
        | none =>
          rw [settle_arb_of_idle hnone, hnone] at hheld
          cases hheld
      have hmode' : (kickValve (arbitrate s)).mode.opState = .run := by
        show (arbitrate s).mode.opState = _
        rw [(arbitrate_arc s).mode, hmode]
      unfold State.runRequest at hrequest
      rw [hmode'] at hrequest
      rw [(Bool.or_eq_false_iff.1 hrequest).1] at hsome
      cases hsome
  | none =>
    have hnone := settle_grant_none hheld
    have hfirst : (arbitrate s).comp = s.comp := by
      rcases arbitrate_outcome hrunning with ⟨h, -⟩ | ⟨-, -, -, h⟩
      · exact h
      · exact absurd hnone (h hgrant)
    have hagain := arbitrate_of_decided_idle (settle_decided hsound) (by rw [(settle_arc s).mode, hmode]) hheld
    have hnone' : (arbitrate (settle s)).arb.grant = none := by
      rw [hagain, (rehomeTest_idleOnly _).grant, (runoutEnd_idleOnly _).grant, hheld]
    have hcomp' : (kickValve (arbitrate (settle s))).comp = (settle s).comp := by
      show (arbitrate (settle s)).comp = _
      rw [hagain, rehomeTest_comp, runoutEnd_comp]
    have hlevel : (settle s).comp.fanLevel = s.comp.fanLevel := by
      rw [settle_comp_of_idle hnone]
      rcases compReact_running_cases hstate with hsame | ⟨-, -, hstop⟩
      · rw [hsame, ← hfirst]
        rfl
      · rw [hstop, ← hfirst]
        rfl
    rw [settle_comp_of_idle hnone'] at hstopped ⊢
    rw [← hlevel, ← hcomp']
    rcases compReact_running_cases hstate with hsame | ⟨-, -, hstop⟩
    · rw [hsame, hstate] at hpass
      rcases compReact_running_cases (s := kickValve (arbitrate (settle s))) (by rw [hcomp', ← hpass]) with h | ⟨-, -, h⟩ <;>
        rw [h]
      rfl
    · rw [hstop] at hpass
      rcases compReact_stopped_cases (s := kickValve (arbitrate (settle s))) (by rw [hcomp', ← hpass]; rfl) with ⟨-, h⟩ | h
      · rw [h]
      · rw [h] at hstopped
        cases hstopped

/-- In FAULT_HOLD, LOCKOUT and INV_LOST the event leaves the compressor's record (R116, R128, R131). -/
theorem settle_between_unavailable {s : State} (h : (settle s.between).compAvailable = false) :
    (settle s.between).comp = s.comp := by
  obtain ⟨-, -, -, hcomp, -⟩ := between_spec s
  have hinit : (initEnd s).comp = s.comp := by rw [initEnd_eq]
  have hbetween : s.between.compAvailable = false := (settle_available _).symm.trans h
  have hfirst : (initEnd s).compAvailable = false := by
    rw [← settle_available, ← compAvailable_of_comp hcomp]
    exact hbetween
  rw [settle_comp_of_unavailable hbetween, hcomp, settle_comp_of_unavailable hfirst, hinit]

theorem compAvailable_of_fault {s : State}
    (h : s.comp.state = .faultHold ∨ s.comp.state = .lockout ∨ s.comp.state = .invLost) : s.compAvailable = false := by
  rcases h with h | h | h <;> simp [State.compAvailable, h]

/-- Settles O9: the second pass leaves no start or stop due; a start and a stop through both passes; the target as shown. -/
theorem compressorFollowsRequest : Obligations.CompressorFollowsRequest := by
  rintro s f rfl
  have hstands := settle_stands s.between
  have hcomp := finish_comp s
  have hrequest := finish_runRequest s
  have hsettings : (settle s.between).settings = s.settings := (settle_arc _).settings.trans (between_spec s).1
  have hbegun := settle_between_begun (s := s)
  have hhalted := settle_between_halted (s := s)
  have hfault := settle_between_unavailable (s := s)
  have hmode : (settle s.between).mode = (initEnd s).mode := (settle_arc _).mode.trans (between_spec s).2.2.1
  have hgrant : (finish s).arb.grant = (settle s.between).arb.grant := by rw [finish_eq_settle, publish_arb]
  have helapsed : (finish s).minOffElapsed = (settle s.between).minOffElapsed := by
    rw [finish_eq_settle, (publish_protections _).1]
  have hmet : (finish s).minOnMet = (settle s.between).minOnMet := by
    rw [finish_eq_settle, (publish_protections _).2]
  have htarget : (finish s).targetSpeed = (settle s.between).targetSpeed := by
    rw [finish_eq_settle, publish_targetSpeed]
  have hlevel : s.mode.opState = .run → s.defrost.phase ≠ .pending → s.arb.grant = none → s.comp.state = .running →
      (settle s.between).comp.state = .stopped → (settle s.between).comp.fanLevel = s.comp.fanLevel := by
    intro hrun hphase hnone hrunning hstopped
    rw [between_of_run hrun hphase] at hstopped ⊢
    exact settle_settle_fanLevel hrun hnone hrunning hstopped
  rw [hcomp, hrequest, helapsed, hmet, hgrant, htarget]
  clear hcomp hrequest helapsed hmet hgrant htarget
  generalize settle s.between = r at *
  refine ⟨hstands.1, hstands.2, fun hstopped hrunning => ?_, fun hrunning hstopped hcommand hspeed => ?_, fun hstopped => ?_,
    fun hstate => ?_⟩
  · have hshown : r.shownTarget = r.comp.target := by
      unfold State.shownTarget
      rw [show r.comp.state = .running from hrunning]
    obtain ⟨h, hramped⟩ := hbegun hstopped hrunning
    dsimp only
    rw [hshown]
    refine ⟨h.runFor, h.runWatch, h.speedTimer, h.postRun, h.fanLevel, h.stopFor, h.idle, fun g hg hcooling hrun hphase hs => ?_⟩
    obtain ⟨-, htarget, hcommand⟩ := hramped hrun hphase hs g hg hcooling
    exact ⟨htarget, hcommand⟩
  · have h := hhalted hrunning hcommand hspeed hstopped
    refine ⟨h.command, h.stopFor, h.runFor, h.runWatch, h.speedTimer, h.postRun, fun hrun hphase => ?_⟩
    dsimp only
    split
    · rename_i hnone
      exact hlevel hrun hphase hnone hrunning hstopped
    · rename_i hs
      exact h.fan (by rw [hmode, initEnd_of_not_init (by rw [hrun]; exact nofun), hrun]) hs
  · dsimp only at hstopped ⊢
    unfold State.shownTarget
    rw [hstopped, hsettings]
  · have hsame := hfault (compAvailable_of_fault hstate)
    dsimp only at hstate ⊢
    unfold State.shownTarget
    rw [hsettings, hsame]
    rw [hsame] at hstate
    rcases hstate with h | h | h <;> rw [h]

end Sys2Proof.Machine
end

section
/-!
PROOFS. The door monitor's commands (statement O57).
-/
namespace Sys2Proof.Machine

/-! ## The events a tick raises at a door (R158) -/

theorem DoorRec.settled_iff (r : DoorRec) (level : Bool) : r.settled level = true ↔ r.sample = level ∧ 959 ≤ r.stable := by
  simp [DoorRec.settled, dueUp, debounceTicks]

/-- What the debounce of one door raises: by the state it leaves, at the level sampled. -/
theorem mem_doorDue (d : Door) (r : DoorRec) (i : Instr) :
    i ∈ doorDue d r ↔
      959 ≤ r.stable ∧
        (r.state = .unread ∧ i = .doorFirstReading d r.sample ∨ (r.state = .closed ∧ r.sample = true) ∧ i = .doorOpening d ∨
          (r.state = .isOpen ∧ r.sample = false) ∧ i = .doorClosing d) := by
  unfold doorDue
  by_cases h : 959 ≤ r.stable
  · rw [if_pos ((r.settled_iff r.sample).2 ⟨rfl, h⟩)]
    cases r.state <;> cases r.sample <;> simp [h]
  · rw [if_neg (by rw [DoorRec.settled_iff]; exact fun hs => h hs.2)]
    simp [h]

theorem mem_doorsDue (s : State) (i : Instr) :
    i ∈ doorsDue s ↔ s.doors.sampling = true ∧ ∃ d, i ∈ doorDue d (s.doors.door.get d) := by
  unfold doorsDue
  cases s.doors.sampling with
  | false => simp
  | true =>
    simp only [if_true, List.mem_append, true_and]
    constructor
    · rintro (((h | h) | h) | h)
      · exact ⟨.freshL, h⟩
      · exact ⟨.freshR, h⟩
      · exact ⟨.flex, h⟩
      · exact ⟨.freeze, h⟩
    · rintro ⟨d, h⟩
      cases d with
      | freshL => exact .inl (.inl (.inl h))
      | freshR => exact .inl (.inl (.inr h))
      | flex => exact .inl (.inr h)
      | freeze => exact .inr h

theorem ofDebounce_cases {i : Instr} (h : ofDebounce i = true) :
    ∃ d, (∃ level, i = .doorFirstReading d level) ∨ i = .doorOpening d ∨ i = .doorClosing d := by
  unfold ofDebounce at h
  split at h
  · exact ⟨_, .inl ⟨_, rfl⟩⟩
  · exact ⟨_, .inr (.inl rfl)⟩
  · exact ⟨_, .inr (.inr rfl)⟩
  · cases h

/-- A door's events come from its debounce alone. -/
theorem mem_tick_door {s : State} {i : Instr} (h : ofDebounce i = true) : i ∈ (tick s).pending ↔ i ∈ doorsDue s := by
  show i ∈ dueEvents s ↔ _
  have hends : endsExchange i = false := by obtain ⟨d, ⟨level, rfl⟩ | rfl | rfl⟩ := ofDebounce_cases h <;> rfl
  have hexchange : i ∉ exchangeDue s.bus := fun hx => by
    rw [endsExchange_of_mem hx] at hends
    cases hends
  have hother : i ∉ linkDue s ∧ i ∉ zoneDue s ∧ i ∉ routeDue s ∧ i ∉ compDue s ∧ i ∉ arbDue s ∧ i ∉ defrostDue s ∧
      i ≠ .faultCheckExpiry s.bus.nextLine ∧ i ≠ .slotBoundary ∧ i ≠ .sensingSweepStart ∧ i ≠ .serviceTimerExpiry := by
    obtain ⟨d, ⟨level, rfl⟩ | rfl | rfl⟩ := ofDebounce_cases h <;>
      simp [mem_linkDue, mem_zoneDue, mem_routeDue, mem_fanDue, mem_compDue, mem_ageDues, mem_arbDue, mem_defrostDue]
  obtain ⟨h1, h2, h3, h4, h5, h6, h7, h8, h9, h10⟩ := hother
  simp [dueEvents, busDue, hexchange, h1, h2, h3, h4, h5, h6, h7, h8, h9, h10]

theorem mem_tick_doors (s : State) (d : Door) :
    (∀ level, Instr.doorFirstReading d level ∈ (tick s).pending ↔
        (s.doors.sampling = true ∧ 959 ≤ (s.doors.door.get d).stable) ∧ (s.doors.door.get d).state = .unread ∧
          (s.doors.door.get d).sample = level) ∧
      (Instr.doorOpening d ∈ (tick s).pending ↔
        (s.doors.sampling = true ∧ 959 ≤ (s.doors.door.get d).stable) ∧ (s.doors.door.get d).state = .closed ∧
          (s.doors.door.get d).sample = true) ∧
      (Instr.doorClosing d ∈ (tick s).pending ↔
        (s.doors.sampling = true ∧ 959 ≤ (s.doors.door.get d).stable) ∧ (s.doors.door.get d).state = .isOpen ∧
          (s.doors.door.get d).sample = false) := by
  refine ⟨fun level => ?_, ?_, ?_⟩ <;> rw [mem_tick_door rfl, mem_doorsDue] <;> simp only [mem_doorDue]
  · constructor
    · rintro ⟨hs, d', hstable, ⟨hstate, h⟩ | ⟨-, h⟩ | ⟨-, h⟩⟩ <;> cases h
      exact ⟨⟨hs, hstable⟩, hstate, rfl⟩
    · rintro ⟨⟨hs, hstable⟩, hstate, rfl⟩
      exact ⟨hs, d, hstable, .inl ⟨hstate, rfl⟩⟩
  · constructor
    · rintro ⟨hs, d', hstable, ⟨-, h⟩ | ⟨hstate, h⟩ | ⟨-, h⟩⟩ <;> cases h
      exact ⟨⟨hs, hstable⟩, hstate⟩
    · rintro ⟨⟨hs, hstable⟩, hstate⟩
      exact ⟨hs, d, hstable, .inr (.inl ⟨hstate, rfl⟩)⟩
  · constructor
    · rintro ⟨hs, d', hstable, ⟨-, h⟩ | ⟨-, h⟩ | ⟨hstate, h⟩⟩ <;> cases h
      exact ⟨⟨hs, hstable⟩, hstate⟩
    · rintro ⟨⟨hs, hstable⟩, hstate⟩
      exact ⟨hs, d, hstable, .inr (.inr ⟨hstate, rfl⟩)⟩

/-! ## One door command (R158) -/

/-- The door at its stable level: the state it takes, on its pin and in its record. -/
def State.doorTaken (s : State) (d : Door) (level : Bool) : State :=
  { s with
    doors :=
      { s.doors with
        input := s.doors.input.set d level
        door := s.doors.door.set d ⟨if level then .isOpen else .closed, level, 960, 0⟩ } }

section Event
variable {d : Door} {level : Bool} {leaves : DoorState} {s : State} (effect : State → State)

/-- A door command whose level has been stable takes place. -/
theorem doorEvent_due (hsampling : s.doors.sampling = true) (hstate : (s.doors.door.get d).state = leaves)
    (hsample : (s.doors.door.get d).sample = level) (hstable : 959 ≤ (s.doors.door.get d).stable) :
    doorEvent d level leaves effect s = finish (effect (s.doorTaken d level)) := by
  have hpin : s.doorPin d level = { s with doors := { s.doors with input := s.doors.input.set d level } } := by
    have hread : (s.doors.door.get d).read level = s.doors.door.get d := if_pos hsample
    unfold State.doorPin
    rw [if_pos hsampling, hread, PerDoor.set_get_self]
  unfold doorEvent
  dsimp only
  rw [hpin, if_pos]
  · rfl
  · simp only [Bool.and_eq_true, decide_eq_true_eq]
    exact ⟨⟨hsampling, hstate⟩, (DoorRec.settled_iff _ _).2 ⟨hsample, hstable⟩⟩

/-- Before the sampling it brings the pin's level alone. -/
theorem doorEvent_unsampled (hsampling : s.doors.sampling = false) :
    doorEvent d level leaves effect s = { s with doors := { s.doors with input := s.doors.input.set d level } } := by
  unfold doorEvent State.doorPin
  simp [hsampling]

/-- Where the level is new, not yet stable, or the door in another state, it brings the pin's level, restarting the count at a
new level. -/
theorem doorEvent_early (hsampling : s.doors.sampling = true)
    (h : (s.doors.door.get d).sample ≠ level ∨ (s.doors.door.get d).stable < 959 ∨ (s.doors.door.get d).state ≠ leaves) :
    doorEvent d level leaves effect s =
      { s with
        doors :=
          { s.doors with
            input := s.doors.input.set d level
            door :=
              s.doors.door.set d
                (if (s.doors.door.get d).sample = level then s.doors.door.get d
                else { s.doors.door.get d with sample := level, stable := 0 }) } } := by
  have hpin : s.doorPin d level =
      { s with
        doors :=
          { s.doors with
            input := s.doors.input.set d level
            door := s.doors.door.set d ((s.doors.door.get d).read level) } } := by
    unfold State.doorPin
    rw [if_pos hsampling]
  unfold doorEvent
  dsimp only
  rw [hpin, if_neg]
  · rfl
  · simp only [PerDoor.get_set_self, Bool.and_eq_true, decide_eq_true_eq, DoorRec.settled_iff]
    rintro ⟨⟨-, hstate⟩, hsample, hstable⟩
    unfold DoorRec.read at hstate hsample hstable
    by_cases hsame : (s.doors.door.get d).sample = level
    · rw [if_pos hsame] at hstate hstable
      rcases h with h | h | h
      · exact h hsame
      · exact absurd hstable (not_le.2 h)
      · exact h hstate
    · rw [if_neg hsame] at hstable
      exact absurd hstable (by simp)

end Event

/-! ## The marks of the zones (R159, R161, R162) -/

theorem mem_zones_iff (d : Door) (z : Zone) : d.zones.contains z = true ↔ d ∈ z.doors := by
  cases d <;> cases z <;> decide

theorem recomputeZones_get (d : Door) (s : State) (z : Zone) :
    (recomputeZones d s).doors.zone.get z =
      if s.present z = true ∧ d ∈ z.doors then
        (if s.zoneDoorOpen z then (s.doors.zone.get z).opened else (s.doors.zone.get z).closed)
      else s.doors.zone.get z := by
  unfold recomputeZones
  rw [PerZone.get_map]
  exact if_congr (by rw [Bool.and_eq_true, mem_zones_iff]) rfl rfl

/-- A zone's mark after a door command: by its doors as they now stand, the taken one at its level. -/
theorem zoneDoorOpen_taken (s : State) (d : Door) (level : Bool) {z : Zone} (hd : d ∈ z.doors) :
    (s.doorTaken d level).zoneDoorOpen z = true ↔
      level = true ∨ ∃ d' ∈ z.doors, d' ≠ d ∧ (s.doors.door.get d').state = .isOpen := by
  have htaken : ((s.doorTaken d level).doors.door.get d).state = if level then .isOpen else .closed := by
    show ((s.doors.door.set d _).get d).state = _
    rw [PerDoor.get_set_self]
  have hother : ∀ d', d' ≠ d → (s.doorTaken d level).doors.door.get d' = s.doors.door.get d' := fun d' h =>
    PerDoor.get_set_other _ h _
  unfold State.zoneDoorOpen
  rw [List.any_eq_true]
  simp only [decide_eq_true_eq]
  constructor
  · rintro ⟨d', hmem, hopen⟩
    by_cases h : d' = d
    · subst h
      rw [htaken] at hopen
      cases level with
      | true => exact .inl rfl
      | false => cases hopen
    · rw [hother d' h] at hopen
      exact .inr ⟨d', hmem, h, hopen⟩
  · rintro (rfl | ⟨d', hmem, h, hopen⟩)
    · exact ⟨d, hd, htaken⟩
    · exact ⟨d', hmem, by rw [hother d' h, hopen]⟩

/-- What a door command leaves at the doors but for the marks of the zones it opens. -/
theorem recomputeZones_taken (s : State) (d : Door) (level : Bool) (u : State)
    (hu : u.doors = (recomputeZones d (s.doorTaken d level)).doors) :
    u.doors.door.get d = ⟨if level then .isOpen else .closed, level, 960, 0⟩ ∧
      u.doors.input = s.doors.input.set d level ∧ u.doors.sampling = s.doors.sampling ∧
      (∀ d', d' ≠ d → u.doors.door.get d' = s.doors.door.get d') ∧
      (∀ z, s.present z = true → d ∈ z.doors →
        u.doors.zone.get z =
          if (s.doorTaken d level).zoneDoorOpen z then (s.doors.zone.get z).opened else (s.doors.zone.get z).closed) ∧
      ∀ z, s.present z = false ∨ d ∉ z.doors → u.doors.zone.get z = s.doors.zone.get z := by
  rw [hu]
  refine ⟨PerDoor.get_set_self _ _ _, rfl, rfl, fun d' h => PerDoor.get_set_other _ h _, fun z hp hd => ?_, fun z h => ?_⟩
  · rw [recomputeZones_get]
    exact if_pos ⟨hp, hd⟩
  · rw [recomputeZones_get]
    refine if_neg ?_
    rintro ⟨hp, hd⟩
    rcases h with h | h
    · rw [show (s.doorTaken d level).present z = s.present z from rfl, h] at hp
      cases hp
    · exact h hd

/-- Settles O57: the events in the debounce, what each leaves, and when a tick raises them. -/
theorem doorCommands : Obligations.DoorCommands := by
  rintro d s r rfl
  refine ⟨fun hsampling hstate hsample hstable => ?_, fun hsampling hstate hsample hstable => ?_,
    fun isOpen hsampling hstate hsample hstable => ?_, fun c level leaves hc => ?_, ?_, fun due hdue => ?_,
    fun z hopen hajar hlimit => ?_⟩
  · refine ⟨presentOpening d (recomputeZones d (s.doorTaken d true)),
      congrArg Host.Outcome.next (doorEvent_due _ hsampling hstate hsample hstable), ?_⟩
    obtain ⟨hdoor, hinput, hsame, hothers, hzones, hrest⟩ := recomputeZones_taken s d true
      (presentOpening d (recomputeZones d (s.doorTaken d true))) rfl
    refine ⟨hdoor, hinput, hsame.trans hsampling, hothers, fun z hp hd => ?_, hrest, ?_, ?_, rfl, rfl, rfl,
      State.sameSetup_refl s⟩
    · rw [hzones z hp hd, if_pos ((zoneDoorOpen_taken s d true hd).2 (.inl rfl))]
      unfold ZoneDoor.opened
      cases hopen : (s.doors.zone.get z).isOpen with
      | true => simp [← hopen]
      | false => rfl
    · show ({ s.arb with grant := s.arb.grant.map fun g => { g with door := g.door || g.zone.doors.contains d } } : Arbiter) = _
      simp only [List.contains_eq_mem]
    · show ({ s.defrost with
          minute := s.defrost.minute.map fun m =>
            { m with door := m.door || (decide (d = .freeze) || (decide (d = .flex) && s.present .flex)) } } : Defrost) = _
      simp only [Bool.or_assoc]
  · refine ⟨recomputeZones d (s.doorTaken d false),
      congrArg Host.Outcome.next (doorEvent_due _ hsampling hstate hsample hstable), ?_⟩
    obtain ⟨hdoor, hinput, hsame, hothers, hzones, hrest⟩ := recomputeZones_taken s d false _ rfl
    refine ⟨hdoor, hinput, hsame.trans hsampling, hothers, fun z hp hd => ⟨fun hother hopen => ?_, fun hother hopen => ?_⟩,
      hrest, rfl⟩
    · rw [hzones z hp hd, if_pos ((zoneDoorOpen_taken s d false hd).2 (.inr hother))]
      exact if_pos hopen
    · rw [hzones z hp hd, if_neg]
      · exact if_pos hopen
      · rw [zoneDoorOpen_taken s d false hd]
        rintro (h | ⟨d', hmem, hne, hd'⟩)
        · cases h
        · exact hother d' hmem hne hd'
  · refine ⟨recomputeZones d (s.doorTaken d isOpen),
      congrArg Host.Outcome.next (doorEvent_due _ hsampling hstate hsample hstable), ?_⟩
    obtain ⟨hdoor, hinput, hsame, hothers, hzones, hrest⟩ := recomputeZones_taken s d isOpen _ rfl
    refine ⟨hdoor, hinput, hsame.trans hsampling, hothers, fun h z hp hd => ?_, hrest, rfl⟩
    rw [hzones z hp hd, if_pos ((zoneDoorOpen_taken s d isOpen hd).2 (.inl h))]
    unfold ZoneDoor.opened
    split
    · assumption
    · rfl
  · have hexec : ∃ effect, exec c s = .next (doorEvent d level leaves effect s) := by
      rcases hc with ⟨rfl, rfl, rfl⟩ | ⟨rfl, rfl, rfl⟩ | ⟨rfl, rfl⟩ <;> exact ⟨_, rfl⟩
    obtain ⟨effect, hexec⟩ := hexec
    rw [hexec]
    exact ⟨fun h => congrArg Host.Outcome.next (doorEvent_unsampled effect h),
      fun hsampling h => congrArg Host.Outcome.next (doorEvent_early effect hsampling h)⟩
  · show ((s.doors.tick s.settings.door.ajarDelay).door.get d).stable = _
    rw [PerDoor.get_tick]
    rfl
  · subst hdue
    exact mem_tick_doors s d
  · refine congrArg Host.Outcome.next ((if_pos ((s.ajarDue_iff z).2 ⟨hopen, hajar, hlimit.le⟩)).trans ?_)
    unfold State.mapZoneDoor ZoneDoor.becomeAjar
    have hl : sec s.settings.door.ajarDelay = (s.doors.zone.get z).openFor + 1 := hlimit
    dsimp only
    rw [hl, max_eq_right (Nat.le_succ (s.doors.zone.get z).openFor)]

end Sys2Proof.Machine
end

section
/-!
PROOFS. A reading at its channel, and what its delivery brings at the zone table, the pre-chill records and the defrost
controller (statement O36).
-/
namespace Sys2Proof.Machine

/-! ## The channel's record -/

/-- A value comes from a channel that is VALID with that value as its F. -/
theorem ChannelRec.take_delivers {r : ChannelRec} {t : Option Int} {f : Int}
    (h : (r.take t).2 = .value f ∨ (r.take t).2 = .recovery f) :
    (r.take t).1.state = .valid ∧ (r.take t).1.filtered = some f := by
  cases t with
  | some t =>
    cases hstate : r.state with
    | starting => rw [take_some_starting hstate] at h ⊢; split <;> simp_all
    | valid => simp_all [take_some_valid hstate]
    | fault => simp [take_some_fault hstate] at h
    | recovering => rw [take_some_recovering hstate] at h ⊢; split <;> simp_all
  | none =>
    cases hstate : r.state with
    | starting => rw [take_none_counting (.inl hstate)] at h; split at h <;> simp at h
    | valid => rw [take_none_counting (.inr hstate)] at h; split at h <;> simp at h
    | fault => simp [take_none_fault hstate] at h
    | recovering => simp [take_none_recovering hstate] at h

/-- The state in which a reading's result is handed on: its channel has taken it, and the sweep has gone on. -/
def State.taken (s : State) (ch : Channel) (code : Code) : State :=
  { s with
    sensing := { s.sensing.set ch ((s.sensing.get ch).take (reading code)).1 with next := s.sweepAfter ch } }

theorem arrival_eq (ch : Channel) (code : Code) (s : State) :
    arrival ch code s = deliver ch ((s.sensing.get ch).take (reading code)).2 (s.taken ch code) := rfl

theorem Sensing.get_next (n : Sensing) (o : Option Channel) (ch : Channel) : Sensing.get { n with next := o } ch = n.get ch := by
  cases ch <;> rfl

theorem State.taken_self (s : State) (ch : Channel) (code : Code) :
    (s.taken ch code).sensing.get ch = ((s.sensing.get ch).take (reading code)).1 := by
  unfold State.taken
  rw [Sensing.get_next, Sensing.get_set_self]

theorem State.taken_other (s : State) {ch ch' : Channel} (h : ch' ≠ ch) (code : Code) :
    (s.taken ch code).sensing.get ch' = s.sensing.get ch' := by
  unfold State.taken
  rw [Sensing.get_next, Sensing.get_set_other _ h]

theorem State.taken_sweepTimer (s : State) (ch : Channel) (code : Code) :
    (s.taken ch code).sensing.sweepTimer = s.sensing.sweepTimer := by
  cases ch <;> rfl

/-! ## The zone table at a value and at a fault (R39, R46, R48, R52) -/

/-- A zone's record at a value, with the settings of the zone: the evaluation, and the warm comparison where it is enabled. -/
def ZoneRec.delivered (r : ZoneRec) (q : ZoneSettings) (z : Zone) (f : Int) : ZoneRec :=
  let e := { r with demand := demandOf q f r.demand, level := levelOf q f (demandOf q f r.demand) }
  if q.enabled then
    if q.setpoint + warmOffset z ≤ f then { e with warmRunning := true }
    else if q.setpoint + warmOffset z - 10 ≤ f then { e with warmRunning := false }
    else e.clearWarm
  else e

theorem ZoneRec.delivered_demand (r : ZoneRec) (q : ZoneSettings) (z : Zone) (f : Int) :
    (r.delivered q z f).demand = demandOf q f r.demand ∧
      (r.delivered q z f).level = levelOf q f (demandOf q f r.demand) ∧ (r.delivered q z f).blind = r.blind := by
  unfold ZoneRec.delivered ZoneRec.clearWarm
  split
  · split
    · exact ⟨rfl, rfl, rfl⟩
    · split <;> exact ⟨rfl, rfl, rfl⟩
  · exact ⟨rfl, rfl, rfl⟩

/-- The three outcomes of the comparison: at W or above, within 10 below it, and under that (R52). -/
theorem ZoneRec.delivered_warm (r : ZoneRec) (q : ZoneSettings) (z : Zone) (f : Int) :
    if q.enabled = false then
      (r.delivered q z f).warmRunning = r.warmRunning ∧ (r.delivered q z f).warmFor = r.warmFor ∧
        (r.delivered q z f).warm = r.warm
    else
      ∀ w : Int, w = q.setpoint + warmOffset z →
        if f < w - 10 then
          (r.delivered q z f).warmRunning = false ∧ (r.delivered q z f).warmFor = 0 ∧ (r.delivered q z f).warm = false
        else
          (r.delivered q z f).warmRunning = decide (w ≤ f) ∧ (r.delivered q z f).warmFor = r.warmFor ∧
            (r.delivered q z f).warm = r.warm := by
  unfold ZoneRec.delivered
  dsimp only
  cases hq : q.enabled with
  | false => simp
  | true =>
    rw [if_neg (by simp)]
    rintro w rfl
    by_cases hwarm : q.setpoint + warmOffset z ≤ f
    · simp [hwarm, show ¬f < q.setpoint + warmOffset z - 10 by omega]
    · by_cases hnear : q.setpoint + warmOffset z - 10 ≤ f
      · simp [hwarm, hnear]
      · simp [hwarm, hnear, ZoneRec.clearWarm, show f < q.setpoint + warmOffset z - 10 by omega]

/-- What a value brings at the zone table, with the doors as the evaluation leaves them. -/
theorem warmCompare_evaluate_eq (z : Zone) (f : Int) (s : State) :
    warmCompare z f (evaluate z f s) =
      { s with
        zones := s.zones.set z ((s.zones.get z).delivered (s.settings.zone.get z) z f)
        doors := (evaluate z f s).doors } := by
  have hevaluate : evaluate z f s = _ := setDemand_eq _ _ _ _
  generalize hd : (evaluate z f s).doors = d
  have hdoors : (setDemand z (demandOf (s.settings.zone.get z) f (s.zones.get z).demand)
    (levelOf (s.settings.zone.get z) f (demandOf (s.settings.zone.get z) f (s.zones.get z).demand)) s).doors = d := hd
  rw [hdoors] at hevaluate
  rw [hevaluate]
  unfold warmCompare ZoneRec.delivered State.mapZone
  dsimp only
  rw [PerZone.get_set_self, PerZone.set_set]
  split <;> rfl

theorem deliverFault_air_eq (z : Zone) (s : State) :
    deliverFault (.air z) s =
      { s with
        zones :=
          s.zones.set z
            { s.zones.get z with
              blind := some ⟨.calling, sec (blindSecs z .calling)⟩, demand := .calling, level := 50
              warmRunning := false, warmFor := 0, warm := false }
        doors := (enterBlindPhase z .calling s).doors } := by
  show (enterBlindPhase z .calling s).mapZone z ZoneRec.clearWarm = _
  rw [enterBlindPhase_eq]
  unfold State.mapZone
  dsimp only
  rw [PerZone.get_set_self, PerZone.set_set]
  rfl

/-! ## The pre-chill records at a value (R108) -/

theorem Route.setPreChill_preChill (r : Route) (f : EvapFan) : r.setPreChill f (r.preChill f) = r := by
  cases f <;> rfl

/-- The comparison of a RUNNING record with both values at hand. -/
theorem preChillCompare_running {s : State} {g : Grant} {e : Ticks} {coil air : Int} (hgrant : s.arb.grant = some g)
    (hcooling : g.phase = .cooling) (hrunning : s.route.preChill g.zone.fan = .running e)
    (hcoil : (s.sensing.get (coilOf g.zone.fan)).filtered = some coil)
    (hair : (s.sensing.air.get g.zone).filtered = some air) :
    preChillCompare g.zone.fan s =
      { s with route := s.route.setPreChill g.zone.fan (if coil ≤ air - 30 then .ended else .running e) } := by
  unfold preChillCompare
  rw [hgrant]
  dsimp only
  rw [if_pos (by simp [hcooling]), hrunning, hcoil, hair]
  dsimp only
  split
  · rfl
  · rw [← hrunning, Route.setPreChill_preChill]

/-- The comparison changes a pre-chill record alone. -/
theorem preChillCompare_eq (f : EvapFan) (s : State) :
    preChillCompare f s =
      { s with
        route :=
          { s.route with
            preFreezer := (preChillCompare f s).route.preFreezer, preFresh := (preChillCompare f s).route.preFresh } } := by
  rcases preChillCompare_cases f s with h | h <;> rw [h]
  cases f <;> rfl

/-! ## The frame of a delivery -/

theorem Changes.sameZone {s t : State} (h : Changes s t) (z : Zone) : State.sameZone s t z := by
  refine h.keeps (P := fun t => State.sameZone s t z) (fun t u hchange ht => ht.trans ?_) (State.sameZone_of_eq rfl)
  cases hchange with
  | recompute => exact State.sameZone_of_eq (by rw [(recompute_arc t).zones])
  | hold on =>
    unfold State.sameZone holdDefrost
    dsimp only
    rw [PerZone.get_map]
    split <;> rfl
  | arb | dampers | app | preChill | defrost | run => exact State.sameZone_of_eq rfl
  | target | ask | kick | start | stop => exact State.sameZone_of_eq rfl

/-- `t` differs from `s` in what a delivery may change: the zone table, the doors, the claim, the pre-chill records and the
defrost controller. -/
abbrev DeliveryOnly (s t : State) : Prop :=
  t = { s with
    zones := t.zones, doors := t.doors, arb := { s.arb with claim := t.arb.claim }, defrost := t.defrost
    route := { s.route with preFreezer := t.route.preFreezer, preFresh := t.route.preFresh } }

theorem DeliveryOnly.trans {s t u : State} (h : DeliveryOnly s t) (k : DeliveryOnly t u) : DeliveryOnly s u := by
  unfold DeliveryOnly at *
  rw [k, h]

theorem DefrostOnly.delivery {s t : State} (h : DefrostOnly s t) : DeliveryOnly s t := by
  unfold DeliveryOnly
  rw [h]

theorem preChillCompare_delivery (f : EvapFan) (s : State) : DeliveryOnly s (preChillCompare f s) := by
  unfold DeliveryOnly
  rw [preChillCompare_eq]

theorem deliverValue_only (ch : Channel) (f : Int) (s : State) : DeliveryOnly s (deliverValue ch f s) := by
  cases ch with
  | air z =>
    unfold deliverValue
    dsimp only
    rw [warmCompare_evaluate_eq]
    exact DeliveryOnly.trans rfl (preChillCompare_delivery _ _)
  | frCoil => exact preChillCompare_delivery _ _
  | fzCoil => exact (preChillCompare_delivery _ _).trans (defrostCoilValue_only _ _).delivery
  | ambient => rfl

theorem deliver_only (ch : Channel) (d : Delivery) (s : State) : DeliveryOnly s (deliver ch d s) := by
  cases d with
  | nothing => rfl
  | value f => exact deliverValue_only ch f s
  | fault =>
    cases ch with
    | air z =>
      show DeliveryOnly s (deliverFault (.air z) s)
      rw [deliverFault_air_eq]
    | fzCoil => exact (defrostCoilFault_only s).delivery
    | frCoil => rfl
    | ambient => rfl
  | recovery f =>
    cases ch with
    | air z => exact DeliveryOnly.trans rfl (deliverValue_only (.air z) f _)
    | frCoil => exact deliverValue_only .frCoil f s
    | fzCoil => exact deliverValue_only .fzCoil f s
    | ambient => rfl

/-- The deliveries of the coils and of the ambient channel are made of the single changes of the blocks. -/
theorem deliver_changes {ch : Channel} (h : ∀ z, ch ≠ .air z) (d : Delivery) (s : State) : Changes s (deliver ch d s) := by
  have hvalue : ∀ f, Changes s (deliverValue ch f s) := by
    intro f
    cases ch with
    | air z => exact absurd rfl (h z)
    | frCoil => exact preChillCompare_changes _ _
    | fzCoil => exact (preChillCompare_changes _ _).trans (defrostCoilValue_changes _ _)
    | ambient => exact .refl
  cases d with
  | nothing => exact .refl
  | value f => exact hvalue f
  | fault =>
    cases ch with
    | air z => exact absurd rfl (h z)
    | fzCoil => exact defrostCoilFault_changes s
    | frCoil => exact .refl
    | ambient => exact .refl
  | recovery f =>
    cases ch with
    | air z => exact absurd rfl (h z)
    | frCoil => exact hvalue f
    | fzCoil => exact hvalue f
    | ambient => exact .refl

theorem deliverValue_air_otherZone {z z' : Zone} (h : z ≠ z') (f : Int) (s : State) :
    State.sameZone s (deliverValue (.air z') f s) z := by
  unfold deliverValue
  dsimp only
  rw [warmCompare_evaluate_eq, preChillCompare_eq]
  exact State.sameZone_of_eq (PerZone.get_set_other _ h _)

/-- Outside its own zone a delivery leaves the zone records. -/
theorem deliver_otherZone {ch : Channel} {z : Zone} (h : ch ≠ .air z) (d : Delivery) (s : State) :
    State.sameZone s (deliver ch d s) z := by
  cases ch with
  | air z' =>
    have hz : z ≠ z' := fun e => h (by rw [e])
    cases d with
    | nothing => rfl
    | value f => exact deliverValue_air_otherZone hz f s
    | fault =>
      show State.sameZone s (deliverFault (.air z') s) z
      rw [deliverFault_air_eq]
      exact State.sameZone_of_eq (PerZone.get_set_other _ hz _)
    | recovery f =>
      exact State.sameZone.trans (State.sameZone_of_eq (PerZone.get_set_other _ hz _)) (deliverValue_air_otherZone hz f _)
  | frCoil => exact (deliver_changes (ch := .frCoil) nofun d s).sameZone z
  | fzCoil => exact (deliver_changes (ch := .fzCoil) nofun d s).sameZone z
  | ambient => exact (deliver_changes (ch := .ambient) nofun d s).sameZone z

/-- Only the FZ coil's deliveries reach the defrost controller. -/
theorem deliver_defrost {ch : Channel} (h : ch ≠ .fzCoil) (d : Delivery) (s : State) :
    (deliver ch d s).defrost = s.defrost := by
  have hvalue : ∀ f s, (deliverValue ch f s).defrost = s.defrost := by
    intro f s
    cases ch with
    | air z =>
      unfold deliverValue
      dsimp only
      rw [warmCompare_evaluate_eq, preChillCompare_eq]
    | frCoil =>
      unfold deliverValue
      dsimp only
      rw [preChillCompare_eq]
    | fzCoil => exact absurd rfl h
    | ambient => rfl
  cases d with
  | nothing => rfl
  | value f => exact hvalue f s
  | fault =>
    cases ch with
    | air z =>
      show (deliverFault (.air z) s).defrost = _
      rw [deliverFault_air_eq]
    | fzCoil => exact absurd rfl h
    | frCoil => rfl
    | ambient => rfl
  | recovery f =>
    cases ch with
    | air z => exact hvalue f _
    | fzCoil => exact absurd rfl h
    | frCoil => exact hvalue f s
    | ambient => rfl

/-! ## The zone's own delivery -/

theorem deliverValue_air_get (z : Zone) (f : Int) (s : State) :
    (deliverValue (.air z) f s).zones.get z = (s.zones.get z).delivered (s.settings.zone.get z) z f := by
  unfold deliverValue
  dsimp only
  rw [warmCompare_evaluate_eq, preChillCompare_eq]
  exact PerZone.get_set_self _ _ _

theorem deliverValue_air_doorsFollow (z : Zone) (f : Int) (s : State) :
    State.doorsFollow s (deliverValue (.air z) f s) := by
  have hdoors : (deliverValue (.air z) f s).doors = (evaluate z f s).doors := by
    unfold deliverValue
    dsimp only
    rw [warmCompare_evaluate_eq, preChillCompare_eq]
  have hdemand : ∀ z', ((deliverValue (.air z) f s).zones.get z').demand = ((evaluate z f s).zones.get z').demand := by
    intro z'
    have hevaluate : (evaluate z f s).zones = _ := setDemand_zones _ _ _ s
    rw [hevaluate]
    by_cases hz : z' = z
    · subst hz
      rw [deliverValue_air_get, PerZone.get_set_self]
      exact (ZoneRec.delivered_demand _ _ _ _).1
    · rw [PerZone.get_set_other _ hz]
      exact (deliverValue_air_otherZone hz f s).demand
  obtain ⟨hframe, hfollow⟩ : State.doorsFollow s (evaluate z f s) := setDemand_doorsFollow _ _ _ _
  refine ⟨by rw [hdoors]; exact hframe, fun z' => ?_⟩
  rw [hdoors, hdemand]
  exact hfollow z'

theorem deliverFault_air_doorsFollow (z : Zone) (s : State) : State.doorsFollow s (deliverFault (.air z) s) := by
  obtain ⟨hframe, hfollow⟩ := enterBlindPhase_doorsFollow z .calling s
  rw [deliverFault_air_eq]
  refine ⟨hframe, fun z' => (hfollow z').trans ?_⟩
  rw [enterBlindPhase_eq]
  by_cases hz : z' = z
  · subst hz
    simp
  · simp [PerZone.get_set_other _ hz]

theorem deliver_doorsFollow (ch : Channel) (d : Delivery) (s : State) : State.doorsFollow s (deliver ch d s) := by
  have hother : (∀ z, ch ≠ .air z) → State.doorsFollow s (deliver ch d s) := fun h =>
    State.doorsFollow_of_same (by rw [(deliver_changes h d s).outside]) fun z => (deliver_otherZone (h z) d s).demand
  cases ch with
  | air z =>
    cases d with
    | nothing => exact State.doorsFollow_of_same rfl fun _ => rfl
    | value f => exact deliverValue_air_doorsFollow z f s
    | fault => exact deliverFault_air_doorsFollow z s
    | recovery f =>
      refine (deliverValue_air_doorsFollow z f (s.mapZone z fun r => { r with blind := none })).of_same rfl fun z' => ?_
      by_cases hz : z' = z
      · subst hz
        simp
      · simp [PerZone.get_set_other _ hz]
  | frCoil => exact hother nofun
  | fzCoil => exact hother nofun
  | ambient => exact hother nofun

/-! ## The defrost controller at the FZ coil's deliveries (R143 to R145, R147) -/

theorem mapContext_eq {s : State} {c : DefrostContext} (hcontext : s.defrost.context = some c)
    (g : DefrostContext → DefrostContext) :
    s.mapContext g = { s with defrost := { s.defrost with context := some (g c) } } := by
  unfold State.mapContext State.mapDefrost
  dsimp only
  rw [hcontext]
  rfl

section CoilValue

variable {y : State} {c : DefrostContext} {f : Int} (hcontext : y.defrost.context = some c) (hcoil : y.fzCoil = some f)
  {d : DefrostContext} (hd : d = { c with peak := some (match c.peak with | some p => max p f | none => f) })
include hcontext hd

theorem mapContext_raisePeak :
    (y.mapContext fun c => { c with peak := raisePeak c.peak f }) =
      { y with defrost := { y.defrost with context := some d } } := by
  rw [mapContext_eq hcontext, hd]
  cases c.peak <;> rfl

/-- In HEAT a value raises the peak, and ends a HEAT that is not blind at the termination temperature. -/
theorem defrostCoilValue_heat (hphase : y.defrost.phase = .heat) :
    (c.blind = true ∨ f < c.termTemp → (defrostCoilValue f y).defrost = { y.defrost with context := some d }) ∧
      (c.blind = false → c.termTemp ≤ f →
        (c.drip ≠ 0 →
          (defrostCoilValue f y).defrost =
            { y.defrost with phase := .drip, phaseFor := 0, context := some { d with termination := some .temp } }) ∧
        (c.drip = 0 → State.recoverEntered y (defrostCoilValue f y) { d with termination := some .temp })) := by
  have hraised := mapContext_raisePeak hcontext hd
  have hdrip : d.drip = c.drip := by rw [hd]
  unfold defrostCoilValue
  rw [hphase]
  dsimp only
  rw [hraised, hcontext]
  dsimp only
  refine ⟨fun h => ?_, fun hblind hterm => ?_⟩
  · rw [if_neg (by rcases h with h | h <;> simp [h])]
  · rw [if_pos (by simp [hblind, hterm]), ← hdrip]
    refine ⟨fun h => ?_, fun h => ?_⟩
    · rw [endHeat_drip (c := d) .temp rfl h]
    · exact endHeat_recoverEntered (s := { y with defrost := { y.defrost with context := some d } }) (c := d) .temp rfl h

theorem defrostCoilValue_drip (hphase : y.defrost.phase = .drip) :
    (defrostCoilValue f y).defrost = { y.defrost with context := some d } := by
  have hraised := mapContext_raisePeak hcontext hd
  unfold defrostCoilValue
  rw [hphase]
  dsimp only
  rw [hraised]

include hcoil

/-- In RECOVER a value raises the peak, and releases the fan at -100 or below. -/
theorem defrostCoilValue_recover (hphase : y.defrost.phase = .recover) :
    (-100 < f → (defrostCoilValue f y).defrost = { y.defrost with context := some d }) ∧
      ∀ e, f ≤ -100 → c.termination = some e → State.defrostCompleted y (defrostCoilValue f y) d e := by
  have hraised := mapContext_raisePeak hcontext hd
  have htest : defrostCoilValue f y = fanReleaseTest { y with defrost := { y.defrost with context := some d } } := by
    unfold defrostCoilValue
    rw [hphase]
    dsimp only
    rw [hraised]
  have hcoil' : State.fzCoil { y with defrost := { y.defrost with context := some d } } = some f := hcoil
  rw [htest]
  unfold fanReleaseTest
  rw [hcoil']
  dsimp only
  rw [hphase]
  refine ⟨fun h => ?_, fun e h he => ?_⟩
  · rw [if_neg (by simp; omega)]
  · rw [if_pos (by simpa using h)]
    exact completeDefrost_completed rfl rfl (by rw [hd]; exact he)

end CoilValue

/-- A fault declared in HEAT makes it blind, and ends it where its blind limit is already past. -/
theorem defrostCoilFault_heat {y : State} {c : DefrostContext} (hcontext : y.defrost.context = some c)
    (hphase : y.defrost.phase = .heat) :
    (c.heatFor < min 1200 (c.maxHeat * 60) * 9600 →
      (defrostCoilFault y).defrost = { y.defrost with context := some { c with blind := true } }) ∧
    (min 1200 (c.maxHeat * 60) * 9600 ≤ c.heatFor →
      (c.drip ≠ 0 →
        (defrostCoilFault y).defrost =
          { y.defrost with
            phase := .drip, phaseFor := 0, context := some { c with blind := true, termination := some .timeBlind } }) ∧
      (c.drip = 0 →
        State.recoverEntered y (defrostCoilFault y) { c with blind := true, termination := some .timeBlind })) := by
  have hlimit : c.blindLimit = min 1200 (c.maxHeat * 60) * 9600 := rfl
  unfold defrostCoilFault
  rw [hphase, hcontext]
  dsimp only
  rw [mapContext_eq hcontext, hlimit]
  refine ⟨fun h => ?_, fun h => ?_⟩
  · rw [if_neg (not_le.2 h)]
  · rw [if_pos h]
    refine ⟨fun hdrip => ?_, fun hdrip => ?_⟩
    · rw [endHeat_drip (c := { c with blind := true }) .timeBlind rfl hdrip]
    · exact endHeat_recoverEntered (s := { y with defrost := { y.defrost with context := some { c with blind := true } } })
        (c := { c with blind := true }) .timeBlind rfl hdrip

/-! ## A reading's arrival -/

theorem deliver_of_value {d : Delivery} {f : Int} {ch : Channel} (hd : d = .value f ∨ d = .recovery f)
    (hch : ∀ z, ch ≠ .air z) (s : State) : deliver ch d s = deliverValue ch f s := by
  rcases hd with rfl | rfl
  · rfl
  · cases ch with
    | air z => exact absurd rfl (hch z)
    | _ => rfl

/-- The comparison of a value at the coil of the grant's fan, or at the air of its zone. -/
theorem deliver_preChill {y : State} {g : Grant} {ch : Channel} {d : Delivery} {e : Ticks} {f coil air : Int}
    (hgrant : y.arb.grant = some g) (hcooling : g.phase = .cooling) (hrunning : y.route.preChill g.zone.fan = .running e)
    (hcoil : (y.sensing.get (coilOf g.zone.fan)).filtered = some coil)
    (hair : (y.sensing.air.get g.zone).filtered = some air) (hd : d = .value f ∨ d = .recovery f)
    (hch : ch = coilOf g.zone.fan ∨ ch = .air g.zone) :
    (deliver ch d y).route.preChill g.zone.fan = if coil ≤ air - 30 then .ended else .running e := by
  have hset : ∀ (r : Route) (k : EvapFan) (p : PreChill), (r.setPreChill k p).preChill k = p := by
    intro r k p
    cases k <;> rfl
  rcases hch with hch | hch
  · have hvalue : deliver ch d y = deliverValue ch f y :=
      deliver_of_value hd (fun z h => by rw [hch] at h; cases hfan : g.zone.fan <;> rw [hfan] at h <;> cases h) y
    have hroute : (deliverValue ch f y).route = (preChillCompare g.zone.fan y).route := by
      rw [hch]
      cases g.zone.fan with
      | freezer => exact (defrostCoilValue_only _ _).route
      | fresh => rfl
    rw [hvalue, hroute, preChillCompare_running hgrant hcooling hrunning hcoil hair]
    exact hset _ _ _
  · have hair' : ∃ zones doors, (deliver ch d y).route =
        (preChillCompare g.zone.fan { y with zones := zones, doors := doors }).route := by
      rw [hch]
      rcases hd with rfl | rfl
      · exact ⟨_, _, congrArg (fun s => (preChillCompare g.zone.fan s).route) (warmCompare_evaluate_eq g.zone f y)⟩
      · exact ⟨_, _, congrArg (fun s => (preChillCompare g.zone.fan s).route) (warmCompare_evaluate_eq g.zone f _)⟩
    obtain ⟨zones, doors, hroute⟩ := hair'
    rw [hroute, preChillCompare_running (s := { y with zones := zones, doors := doors }) hgrant hcooling hrunning hcoil hair]
    exact hset _ _ _

theorem Zone.fan_eq (z : Zone) : z.fan = if z = .fresh then .fresh else .freezer := by
  cases z <;> rfl

/-- What a reading's arrival keeps. -/
theorem arrival_only (ch : Channel) (code : Code) (s : State) :
    DeliveryOnly (s.taken ch code) (arrival ch code s) := deliver_only _ _ _

theorem exec_sensorReadingArrival {ch : Channel} {s : State} (h : s.sensing.next = some ch) (code : Code) :
    exec (.sensorReadingArrival ch code) s = .next (finish (arrival ch code s)) :=
  congrArg Host.Outcome.next (if_pos h)

/-- The comparisons of R108(a) at the arrival of a value. -/
theorem arrival_preChill {ch : Channel} {code : Code} {s : State} {g : Grant} {f : Int} (hgrant : s.arb.grant = some g)
    (hcooling : g.phase = .cooling)
    (hd : ((s.sensing.get ch).take (reading code)).2 = .value f ∨ ((s.sensing.get ch).take (reading code)).2 = .recovery f)
    {e : Ticks} (hrunning : s.route.preChill g.zone.fan = .running e) :
    (∀ air, (s.sensing.air.get g.zone).filtered = some air → ch = coilOf g.zone.fan →
      (arrival ch code s).route.preChill g.zone.fan = if f ≤ air - 30 then .ended else .running e) ∧
    ∀ coil, (s.sensing.get (coilOf g.zone.fan)).filtered = some coil → ch = .air g.zone →
      (arrival ch code s).route.preChill g.zone.fan = if coil ≤ f - 30 then .ended else .running e := by
  have htaken : ((s.taken ch code).sensing.get ch).filtered = some f := by
    rw [State.taken_self]
    exact (ChannelRec.take_delivers hd).2
  have hne : Channel.air g.zone ≠ coilOf g.zone.fan := by cases g.zone.fan <;> nofun
  rw [arrival_eq]
  refine ⟨fun air hair hch => ?_, fun coil hcoil hch => ?_⟩
  · refine deliver_preChill (y := s.taken ch code) hgrant hcooling hrunning (hch ▸ htaken) ?_ hd (.inl hch)
    have hother := s.taken_other (ch := ch) (ch' := .air g.zone) (hch ▸ hne) code
    exact (congrArg ChannelRec.filtered hother).trans hair
  · refine deliver_preChill (y := s.taken ch code) hgrant hcooling hrunning ?_ (by rw [hch] at htaken ⊢; exact htaken) hd (.inr hch)
    rw [s.taken_other (by rw [hch]; exact hne.symm) code]
    exact hcoil

/-- The part of the statement about the zone of an air channel. -/
theorem arrival_ownZone (z : Zone) (code : Code) (s : State) :
    match ((s.sensing.get (.air z)).take (reading code)).2 with
    | .nothing => State.sameZone s (arrival (.air z) code s) z
    | .value f =>
      (arrival (.air z) code s).zones.get z = (s.zones.get z).delivered (s.settings.zone.get z) z f
    | .fault =>
      (arrival (.air z) code s).zones.get z =
        { s.zones.get z with
          blind := some ⟨.calling, sec (blindSecs z .calling)⟩, demand := .calling, level := 50
          warmRunning := false, warmFor := 0, warm := false }
    | .recovery f =>
      (arrival (.air z) code s).zones.get z =
        ({ s.zones.get z with blind := none } : ZoneRec).delivered (s.settings.zone.get z) z f := by
  rw [arrival_eq]
  generalize ((s.sensing.get (.air z)).take (reading code)).2 = d
  cases d with
  | nothing => exact State.sameZone_of_eq rfl
  | value f => exact deliverValue_air_get z f (s.taken (.air z) code)
  | fault =>
    show (deliverFault (.air z) (s.taken (.air z) code)).zones.get z = _
    rw [deliverFault_air_eq]
    exact PerZone.get_set_self _ _ _
  | recovery f =>
    refine (deliverValue_air_get z f ((s.taken (.air z) code).mapZone z fun r => { r with blind := none })).trans ?_
    unfold State.mapZone
    dsimp only
    rw [PerZone.get_set_self]
    rfl

/-- What a value brings at the FZ coil, from the state in which the comparison of R108 has been made. -/
theorem arrival_fzCoil_value {code : Code} {s : State} {f : Int}
    (hd : ((s.sensing.get .fzCoil).take (reading code)).2 = .value f ∨
      ((s.sensing.get .fzCoil).take (reading code)).2 = .recovery f) :
    ∃ σ ρ, arrival .fzCoil code s = defrostCoilValue f { s with sensing := σ, route := ρ } ∧
      State.fzCoil { s with sensing := σ, route := ρ } = some f := by
  obtain ⟨hvalid, hf⟩ := ChannelRec.take_delivers hd
  rw [arrival_eq, deliver_of_value (ch := .fzCoil) hd nofun]
  have hcompare := preChillCompare_eq .freezer (s.taken .fzCoil code)
  refine ⟨_, _, congrArg (defrostCoilValue f) hcompare, ?_⟩
  exact (if_pos hvalid).trans hf

/-- Settles O36: the arrival's frame, then the zone table, the pre-chill records and the defrost controller in turn. -/
theorem sensingCommands : Obligations.SensingCommands := by
  refine ⟨fun s age hage hdue => ?_, fun ch code s hnext => ?_⟩
  · have hsweep : s.sweepDue = true := s.sweepDue_iff.2 ⟨age, hage, by unfold Ticks at *; omega⟩
    refine congrArg Host.Outcome.next ((if_pos hsweep).trans (congrArg finish ?_))
    unfold beginSweep
    rw [State.sweepOrder_head]
  have honly := arrival_only ch code s
  have hsensing : (arrival ch code s).sensing = (s.taken ch code).sensing := by rw [honly]
  refine ⟨arrival ch code s, _, exec_sensorReadingArrival hnext code, rfl, ?_, fun ch' hne => ?_, ?_, ?_, ?_, ?_, ?_, ?_, ?_,
    State.doorsFollow.finish ((deliver_doorsFollow ch _ (s.taken ch code)).of_same rfl fun _ => rfl),
    fun z hz => ?_, fun z q hz hq warmed hwarmed => ?_, fun g f hgrant hcooling hd => ?_,
    fun hz => deliver_defrost hz _ _, fun c f hz hcontext hd d hdeq => ?_, fun c hz hcontext hphase hd => ?_⟩
  · rw [finish_sensing, hsensing, State.taken_self]
  · rw [finish_sensing, hsensing, s.taken_other hne]
  · rw [finish_sensing, hsensing]
    rfl
  · rw [finish_sensing, hsensing, State.taken_sweepTimer]
  · rw [finish_settings, honly]
    rfl
  · rw [finish_strap, honly]
    rfl
  · rw [finish_bus, honly]
    rfl
  · rw [finish_service, honly]
    rfl
  · rw [finish_pending, honly]
    rfl
  · have hsame : State.sameZone s (finish (arrival ch code s)) z :=
      (deliver_otherZone hz _ (s.taken ch code)).trans (finish_sameZone _ z)
    exact ⟨hsame.sameDemand, hsame.blind, hsame.warm⟩
  · subst hz hq hwarmed
    have hown := arrival_ownZone z code s
    have hsame := finish_sameZone (arrival (.air z) code s) z
    revert hown
    generalize ((s.sensing.get (.air z)).take (reading code)).2 = d
    intro hown
    dsimp only
    rw [hsame.demand, hsame.level, hsame.blind, hsame.warm, hsame.warmFor, hsame.warmRunning]
    cases d with
    | nothing => exact State.sameZone.trans hown hsame
    | value f =>
      dsimp only at hown ⊢
      rw [hown]
      obtain ⟨hdemand, hlevel, hblind⟩ := (s.zones.get z).delivered_demand (s.settings.zone.get z) z f
      exact ⟨hdemand, hlevel, hblind, (s.zones.get z).delivered_warm _ z f⟩
    | fault =>
      dsimp only at hown ⊢
      rw [hown]
      exact ⟨rfl, rfl, rfl, rfl, rfl, rfl⟩
    | recovery f =>
      dsimp only at hown ⊢
      rw [hown]
      obtain ⟨hdemand, hlevel, hblind⟩ :=
        ZoneRec.delivered_demand { s.zones.get z with blind := none } (s.settings.zone.get z) z f
      exact ⟨hdemand, hlevel, hblind, ZoneRec.delivered_warm { s.zones.get z with blind := none } _ z f⟩
  · have hcompare := fun e => arrival_preChill (code := code) (e := e) hgrant hcooling hd
    rw [Zone.fan_eq] at hcompare
    refine ⟨fun e air hz => ?_, fun e coil hz => ?_, fun e air hz => ?_, fun e coil hz => ?_⟩
    · rw [if_neg hz] at hcompare
      exact fun hrunning => (hcompare e hrunning).1 air
    · rw [if_neg hz] at hcompare
      exact fun hrunning => (hcompare e hrunning).2 coil
    · rw [if_pos hz, hz] at hcompare
      exact fun hrunning => (hcompare e hrunning).1 air
    · rw [if_pos hz, hz] at hcompare
      exact fun hrunning => (hcompare e hrunning).2 coil
  · subst hz
    obtain ⟨σ, ρ, harrival, hcoil⟩ := arrival_fzCoil_value hd
    rw [harrival]
    refine ⟨fun hphase => ?_, fun hphase => ?_, fun hphase => ?_, fun hphase => ?_, fun e hphase => ?_⟩
    · exact (defrostCoilValue_heat (y := { s with sensing := σ, route := ρ }) hcontext hdeq hphase).1
    · exact (defrostCoilValue_heat (y := { s with sensing := σ, route := ρ }) hcontext hdeq hphase).2
    · exact defrostCoilValue_drip (y := { s with sensing := σ, route := ρ }) hcontext hdeq hphase
    · exact (defrostCoilValue_recover (y := { s with sensing := σ, route := ρ }) hcontext hcoil hdeq hphase).1
    · exact (defrostCoilValue_recover (y := { s with sensing := σ, route := ρ }) hcontext hcoil hdeq hphase).2 e
  · subst hz
    have harrival : arrival .fzCoil code s = defrostCoilFault (s.taken .fzCoil code) := by
      rw [arrival_eq, hd]
      rfl
    rw [harrival]
    exact defrostCoilFault_heat (y := s.taken .fzCoil code) hcontext hphase

end Sys2Proof.Machine
end

section
/-!
PROOFS. The fields of the six snapshots, offset by offset, and the requests that ask for them (statement O20).
-/
namespace Sys2Proof.Machine

/-! ## Field encodings -/

theorem putTemp_eq (o : Option Int) :
    putTemp o = match o with | some i => putU16 (i % 65536).toNat | none => [0x00, 0x80] := by
  cases o <;> rfl

theorem putTemp_length (o : Option Int) : (putTemp o).length = 2 := by
  cases o <;> rfl

theorem putU16_length (n : Nat) : (putU16 n).length = 2 := rfl

theorem putU8_length (n : Nat) : (putU8 n).length = 1 := rfl

/-- A byte of which bits 0 to 3 are in use. -/
theorem bits_four (b0 b1 b2 b3 : Bool) :
    bits b0 b1 b2 b3 false false false false = BitVec.ofNat 8 (b0.toNat + 2 * b1.toNat + 4 * b2.toNat + 8 * b3.toNat) := rfl

theorem bits_three (b0 b1 b2 : Bool) :
    bits b0 b1 b2 false false false false false = BitVec.ofNat 8 (b0.toNat + 2 * b1.toNat + 4 * b2.toNat) := rfl

theorem bits_two (b0 b1 : Bool) :
    bits b0 b1 false false false false false false = BitVec.ofNat 8 (b0.toNat + 2 * b1.toNat) := rfl

theorem bits_seven (b0 b1 b2 b3 b4 b5 b6 : Bool) :
    bits b0 b1 b2 b3 b4 b5 b6 false =
      BitVec.ofNat 8 (b0.toNat + 2 * b1.toNat + 4 * b2.toNat + 8 * b3.toNat + 16 * b4.toNat + 32 * b5.toNat + 64 * b6.toNat) :=
  rfl

@[simp] theorem State.present_fresh (s : State) : s.present .fresh = true := by
  unfold State.present
  cases s.strap.variant <;> rfl

/-! ## The parts of the fields that may be absent -/

theorem blindFields_eq (o : Option Blind) :
    blindFields o =
      match o with
      | some x => BitVec.ofNat 8 (if x.phase = .calling then 1 else 2) :: putU16 ((x.left + 9599) / 9600)
      | none => [0, 0, 0] := by
  cases o <;> rfl

theorem faultFields_eq (o : Option FaultEntry) :
    faultFields o =
      match o with
      | some e => putU16 (e.age / 9600) ++ [BitVec.ofNat 8 e.source.byteCode, e.code]
      | none => [0, 0, 0, 0] := by
  cases o <;> rfl

theorem invFields_eq (o : Option InvStatus) :
    invFields o =
      match o with
      | some i => [BitVec.ofNat 8 i.state.byteCode, i.code, i.speedLow, i.speedHigh, i.heatsink]
      | none => [0, 0, 0, 0, 0] := by
  cases o <;> rfl

theorem faultFields_length (o : Option FaultEntry) : (faultFields o).length = 4 := by
  cases o <;> rfl

theorem invFields_length (o : Option InvStatus) : (invFields o).length = 5 := by
  cases o <;> rfl

theorem reportMark_eq (d : Defrost) :
    reportMark d = if d.report = none then 2 else if d.phase = .idle then 0 else 1 := by
  unfold reportMark
  cases d.report <;> simp

theorem contextFields_eq (o : Option DefrostContext) :
    contextFields o =
      match o with
      | some c =>
        [BitVec.ofNat 8 c.cause.byteCode] ++ putU16 c.creditAtStart ++ putTemp (some c.termTemp) ++
          [BitVec.ofNat 8 c.maxHeat, BitVec.ofNat 8 c.drip] ++ putU16 (c.heatFor / 9600) ++ putU16 (c.dripFor / 9600) ++
          [BitVec.ofNat 8 (terminationCode c.termination)] ++ putTemp c.peak
      | none => [0, 0, 0, 0x00, 0x80, 0, 0, 0, 0, 0, 0, 0xFF, 0x00, 0x80] := by
  cases o with
  | none => rfl
  | some c => simp only [contextFields, putU8, putTemp, elapsedSecs, List.append_assoc, List.cons_append, List.nil_append]

theorem reportFields_eq (o : Option DefrostReport) :
    reportFields o =
      match o with
      | some r =>
        [BitVec.ofNat 8 r.cause.byteCode, BitVec.ofNat 8 (terminationCode (some r.termination))] ++
          putU16 (r.heatFor / 9600) ++ putU16 (r.dripFor / 9600) ++ putTemp r.peak ++ putU16 r.creditAtStart ++
          putU16 r.thAfter
      | none => [0, 0xFF, 0, 0, 0, 0, 0x00, 0x80, 0, 0, 0, 0] := by
  cases o with
  | none => rfl
  | some r => simp only [reportFields, putU8, elapsedSecs, List.append_assoc, List.cons_append, List.nil_append]

theorem contextFields_length (o : Option DefrostContext) : (contextFields o).length = 14 := by
  cases o with
  | none => rfl
  | some c => cases hp : c.peak <;> simp [contextFields, putU8, putU16, putS16, putTemp, hp]

theorem reportFields_length (o : Option DefrostReport) : (reportFields o).length = 12 := by
  cases o with
  | none => rfl
  | some r => cases hp : r.peak <;> simp [reportFields, putU8, putU16, putS16, putTemp, hp]

theorem unitFields_eq (n : Nat) (u : UnitRec) :
    unitFields n u =
      [BitVec.ofNat 8 n, BitVec.ofNat 8 u.state.byteCode, BitVec.ofNat 8 u.failures, BitVec.ofNat 8 u.lastError.byteCode] ++
        match u.payload with
        | some x => BitVec.ofNat 8 x.length :: (x ++ [0, 0, 0, 0, 0]).take 5
        | none => [0, 0, 0, 0, 0, 0] := by
  unfold unitFields
  cases u.payload <;> rfl

theorem unitFields_length (n : Nat) (u : UnitRec) : (unitFields n u).length = 10 := by
  rw [unitFields_eq]
  cases u.payload <;> simp

theorem grantFields_eq (s : State) :
    grantFields s =
      match s.arb.grant with
      | some g =>
        [BitVec.ofNat 8 g.zone.number, BitVec.ofNat 8 g.reason.byteCode, BitVec.ofNat 8 g.phase.byteCode] ++
          putU16 (g.coolingFor / 9600) ++ putU16 ((g.minLeft + 9599) / 9600) ++ putU16 ((g.maxLeft + 9599) / 9600) ++
          putTemp g.startTemp ++
          [BitVec.ofNat 8 (g.door.toNat + 2 * g.continuation.toNat), BitVec.ofNat 8 (s.dEff.getD 0),
            BitVec.ofNat 8 (s.serviceMode g.zone).byteCode] ++ putU16 (s.settings.timing.get g.zone).speedCap
      | none => [0, 0, 0, 0, 0, 0, 0, 0, 0, 0x00, 0x80, 0, 0, 0, 0, 0] := by
  unfold grantFields
  cases s.arb.grant with
  | none => rfl
  | some g =>
    simp only [putU8, elapsedSecs, leftSecs, bits_two, List.append_assoc, List.cons_append, List.nil_append]

theorem grantFields_length (s : State) : (grantFields s).length = 16 := by
  rw [grantFields_eq]
  cases s.arb.grant with
  | none => rfl
  | some g => simp only [List.length_append, putU16_length, putTemp_length, List.length_cons, List.length_nil]

theorem isolationFields_length (s : State) : (isolationFields s).length = 8 := rfl

theorem waitingFields_length (s : State) (l : List Waiting) : (l.flatMap (waitingFields s)).length = 3 * l.length := by
  induction l with
  | nil => rfl
  | cons x l ih =>
    have hhead : (waitingFields s x).length = 3 := rfl
    rw [List.flatMap_cons, List.length_append, hhead, ih, List.length_cons]
    omega

theorem zoneCode_eq (o : Option Zone) : zoneCode o = (o.map Zone.number).getD 0 := by
  cases o <;> rfl

theorem turnCode_eq (o : Option Turn) :
    turnCode o = match o with | none => 0 | some (.zone z) => z.number | some .group => 5 := by
  rcases o with _ | t
  · rfl
  · cases t <;> rfl

/-! ## The requests -/

theorem zoneOf_single (z : Zone) : zoneOf [BitVec.ofNat 8 z.number] = some z := zoneOf_number z []

theorem exec_zoneRead {z : Zone} {s : State} (htaking : s.taking 0x14 [BitVec.ofNat 8 z.number] = true) :
    exec (.zoneRead [BitVec.ofNat 8 z.number]) s = .next (s.answer (hostFrame 0x94 (0 :: zoneReadFields z s))) := by
  have howner : zoneReadOwner [BitVec.ofNat 8 z.number] s = (.ok, s) := if_pos (by rw [zoneOf_single]; rfl)
  have hfields : zoneFields [BitVec.ofNat 8 z.number] zoneReadFields s = zoneReadFields z s := by
    unfold zoneFields
    rw [zoneOf_single]
  refine congrArg Host.Outcome.next ((takeRequest_owner htaking rfl howner _).trans ?_)
  rw [hfields]
  rfl

theorem exec_zoneRead_bad {n : Byte} {s : State} (hn : n.toNat = 0 ∨ 4 < n.toNat) (htaking : s.taking 0x14 [n] = true) :
    exec (.zoneRead [n]) s = .next (s.answer (hostFrame 0x94 [4])) := by
  have hzone : zoneOf [n] = none := Zone.ofNumber_none hn
  have howner : zoneReadOwner [n] s = (.badValue, s) := if_neg (by rw [hzone]; simp)
  exact congrArg Host.Outcome.next (takeRequest_owner htaking rfl howner _)

/-- Settles O20: each request answers with its fields, and each field list is written out from its parts. -/
theorem snapshotsChangeNothing : Obligations.SnapshotsChangeNothing := by
  refine ⟨fun s => ⟨fun h => ?_, fun z h => exec_zoneRead h, fun n hn h => exec_zoneRead_bad hn h, fun h => ?_, fun h => ?_,
    fun h => ?_, fun h => ?_⟩, fun s b w temp hb hw htemp => ?_, ?_⟩
  · exact congrArg Host.Outcome.next (takeRequest_owner h rfl rfl _)
  · exact congrArg Host.Outcome.next (takeRequest_owner h rfl rfl _)
  · exact congrArg Host.Outcome.next (takeRequest_owner h rfl rfl _)
  · exact congrArg Host.Outcome.next (takeRequest_owner h rfl rfl _)
  · exact congrArg Host.Outcome.next (takeRequest_owner h rfl rfl _)
  · have hw' : w = putU16 := by
      rw [hw, hb]
      rfl
    have htemp' : temp = putTemp := by
      rw [htemp, hw']
      funext o
      exact (putTemp_eq o).symm
    have hs16 : ∀ i, putS16 i = putTemp (some i) := fun _ => rfl
    have hbyte : b = BitVec.ofNat 8 := hb
    clear hw htemp hb
    subst hbyte hw' htemp'
    refine ⟨?_, fun z r q hr hq => ?_, fun c p v d f fault hc hp hv hd hf hfault => ⟨?_, ?_⟩, fun d p hd hp => ⟨?_, ?_⟩,
      fun unit hunit => ⟨?_, ?_⟩, fun a p ha hp => ⟨?_, ?_⟩⟩
    · unfold identifyFields
      rw [State.present_fresh, State.present_freeze]
      rfl
    · subst hr hq
      unfold zoneReadFields
      dsimp only
      rw [blindFields_eq, bits_seven]
      simp only [hs16, putU8, leftMins, List.append_assoc, List.cons_append, List.nil_append] <;> rfl
    · have hfields : fault = faultFields := by
        rw [hfault]
        funext o
        exact (faultFields_eq o).symm
      rw [hfields]
      subst hc hp hv hd hf
      unfold compReadFields compReadHead compReadMiddle compReadRoute valveByte State.minOffLeft
      dsimp only
      rw [invFields_eq]
      simp only [hs16, putU8, leftSecs, elapsedSecs, sec, List.append_assoc, List.cons_append, List.nil_append] <;> rfl
    · unfold compReadFields compReadHead compReadMiddle compReadRoute
      dsimp only
      simp only [List.length_append, putU8_length, putU16_length, putTemp_length, faultFields_length, invFields_length, hs16]
      rfl
    · subst hd hp
      unfold defrostReadFields
      dsimp only
      rw [contextFields_eq, reportFields_eq, reportMark_eq]
      simp only [hs16, putU8, elapsedSecs, List.append_assoc, List.cons_append, List.nil_append]
      cases s.defrost.minute <;> cases s.defrost.context <;> rfl
    · unfold defrostReadFields
      dsimp only
      simp only [List.length_append, putU8_length, putU16_length, putTemp_length, contextFields_length, reportFields_length,
        hs16]
    · have hfields : unit = unitFields := by
        rw [hunit]
        funext n u
        exact (unitFields_eq n u).symm
      rw [hfields]
      unfold unitReadFields
      dsimp only
      cases s.bus.position <;> rfl
    · unfold unitReadFields
      dsimp only
      simp only [List.length_append, putU8_length, unitFields_length]
    · subst ha hp
      unfold arbReadFields isolationFields waitingFields levelByte
      dsimp only
      rw [grantFields_eq, bits_three, bits_four, turnCode_eq, zoneCode_eq s.arb.p2]
      simp only [putU8, leftSecs, leftMins, elapsedSecs, List.append_assoc, List.cons_append, List.nil_append]
      cases s.arb.lastEnd <;> cases s.arb.forced <;> rfl
    · rw [ha]
      unfold arbReadFields
      dsimp only
      simp only [List.length_append, putU8_length, putU16_length, grantFields_length, isolationFields_length,
        waitingFields_length, List.length_singleton]
  · decide

end Sys2Proof.Machine
end

section
/-!
PROOFS. The bits of an exchange on the unit bus, the reading of the line, the schedule, and the FAULT check (statement O58).
-/
namespace Sys2Proof.Machine

/-! ## The part's own bits (R167, R168, R171) -/

theorem Exchange.ownBits_length (e : Exchange) : e.ownBits.length = 16 + 10 * e.bytes.length := by
  have hchar : ∀ b, (charBits b).length = 10 := fun _ => rfl
  simp [Exchange.ownBits, List.length_flatMap, hchar, Nat.mul_comm]
  omega

/-- A STATUS exchange sends its header alone. -/
theorem Exchange.ownBits_status {e : Exchange} (h : e.slot.isSet = false) : e.ownBits.length = 36 := by
  rw [Exchange.ownBits_length]
  unfold Exchange.bytes
  rw [h]
  rfl

/-- The bytes sent in each slot, with their check bytes (Table 9-2). -/
theorem Exchange.bytes_eq (e : Exchange) :
    e.bytes =
      match e.slot with
      | .s1 => [0x31, 0xCE] ++ e.data ++ [e.data.foldl (fun a b => a ^^^ b) 0x31 ^^^ 0x5A]
      | .s2 => [0x32, 0xCD]
      | .s3 => [0x41, 0xBE] ++ e.data ++ [e.data.foldl (fun a b => a ^^^ b) 0x41 ^^^ 0x5A]
      | .s4 => [0x42, 0xBD]
      | .s5 => [0x52, 0xAD]
      | .s6 => [0x32, 0xCD] := by
  have hcheck : headerCheck e.slot.code =
      match e.slot with | .s1 => 0xCE | .s2 => 0xCD | .s3 => 0xBE | .s4 => 0xBD | .s5 => 0xAD | .s6 => 0xCD := by
    cases e.slot <;> decide
  unfold Exchange.bytes
  rw [hcheck]
  cases e.slot <;> rfl

/-! ## Levels as meant, and the first that is not (R167) -/

theorem firstMismatch_take (own : List Bool) (n : Nat) : firstMismatch own (own.take n) = none := by
  rw [firstMismatch_none, List.length_take, List.take_of_length_le (l := own.take n) (by simp)]
  rcases le_total n own.length with h | h
  · rw [min_eq_left h]
  · rw [min_eq_right h, List.take_of_length_le h, List.take_of_length_le le_rfl]

theorem firstMismatch_append (own rest : List Bool) : firstMismatch own (own ++ rest) = none := by
  rw [firstMismatch_none, List.take_left, List.take_of_length_le (by simp)]

theorem firstMismatch_eq_some {own heard : List Bool} {i : Nat} {b : Bool} (hbefore : heard.take i = own.take i)
    (hown : own[i]? = some b) (hheard : heard[i]? = some (!b)) : firstMismatch own heard = some i := by
  induction own generalizing heard i with
  | nil => simp at hown
  | cons a own ih =>
    cases heard with
    | nil => simp at hheard
    | cons c heard =>
      cases i with
      | zero =>
        simp only [List.getElem?_cons_zero, Option.some.injEq] at hown hheard
        subst hown hheard
        simp [firstMismatch]
      | succ i =>
        simp only [List.take_succ_cons, List.cons.injEq, List.getElem?_cons_succ] at hbefore hown hheard
        obtain ⟨rfl, hbefore⟩ := hbefore
        simp [firstMismatch, ih hbefore hown hheard]

/-! ## The reception of a response (R170) -/

/-- The reception of levels, from where it stands. -/
abbrev Reception.bits (n : Nat) (r : Reception) (levels : List Bool) : Reception := levels.foldl (Reception.bit n) r

section Receiving

variable {n : Nat} {bytes : List Byte} (hroom : bytes.length < n)
include hroom

theorem Reception.bit_open (char : Option (List Bool)) (level : Bool) :
    Reception.bit n ⟨bytes, char, false⟩ level =
      match char with
      | none => if level then ⟨bytes, none, false⟩ else ⟨bytes, some [], false⟩
      | some bs =>
        if bs.length < 8 then ⟨bytes, some (bs ++ [level]), false⟩
        else if level then ⟨bytes ++ [byteOfBits bs], none, false⟩ else ⟨bytes, some bs, true⟩ := by
  unfold Reception.bit
  rw [if_neg (by simpa using hroom)]
  cases char <;> rfl

/-- A pause is no part of a character. -/
theorem Reception.bits_pause (pause : Nat) :
    Reception.bits n ⟨bytes, none, false⟩ (List.replicate pause true) = ⟨bytes, none, false⟩ := by
  induction pause with
  | zero => rfl
  | succ pause ih =>
    show Reception.bits n (Reception.bit n ⟨bytes, none, false⟩ true) (List.replicate pause true) = _
    rw [Reception.bit_open hroom]
    exact ih

/-- Data bits gather behind the start bit. -/
theorem Reception.bits_data (bs levels : List Bool) (h : bs.length + levels.length ≤ 8) :
    Reception.bits n ⟨bytes, some bs, false⟩ levels = ⟨bytes, some (bs ++ levels), false⟩ := by
  induction levels generalizing bs with
  | nil => simp [Reception.bits]
  | cons l levels ih =>
    have hlt : bs.length < 8 := by
      rw [List.length_cons] at h
      omega
    show Reception.bits n (Reception.bit n ⟨bytes, some bs, false⟩ l) levels = _
    rw [Reception.bit_open hroom]
    dsimp only
    rw [if_pos hlt, ih (bs ++ [l]) (by simp at h ⊢; omega)]
    simp

theorem Reception.bits_start (levels : List Bool) (h : levels.length ≤ 8) :
    Reception.bits n ⟨bytes, none, false⟩ (false :: levels) = ⟨bytes, some levels, false⟩ := by
  show Reception.bits n (Reception.bit n ⟨bytes, none, false⟩ false) levels = _
  rw [Reception.bit_open hroom]
  exact Reception.bits_data hroom [] levels (by simpa using h)

/-- A stop bit ends the character, with FRAMING where it is low. -/
theorem Reception.bits_stop (levels : List Bool) (h : levels.length = 8) (stop : Bool) :
    Reception.bits n ⟨bytes, none, false⟩ (false :: levels ++ [stop]) =
      if stop then ⟨bytes ++ [byteOfBits levels], none, false⟩ else ⟨bytes, some levels, true⟩ := by
  unfold Reception.bits
  rw [List.foldl_append]
  have hstart := Reception.bits_start hroom levels h.le
  unfold Reception.bits at hstart
  rw [hstart]
  refine (Reception.bit_open hroom (some levels) stop).trans ?_
  dsimp only
  rw [if_neg (by omega)]

end Receiving

/-- A byte has the bits that make it. -/
theorem bits_getLsbD (b : Byte) :
    bits (b.getLsbD 0) (b.getLsbD 1) (b.getLsbD 2) (b.getLsbD 3) (b.getLsbD 4) (b.getLsbD 5) (b.getLsbD 6) (b.getLsbD 7) = b := by
  obtain ⟨h0, h1, h2, h3, h4, h5, h6, h7⟩ := getLsbD_bits (b.getLsbD 0) (b.getLsbD 1) (b.getLsbD 2) (b.getLsbD 3)
    (b.getLsbD 4) (b.getLsbD 5) (b.getLsbD 6) (b.getLsbD 7)
  refine BitVec.eq_of_getLsbD_eq fun i hi => ?_
  interval_cases i <;> assumption

theorem byteOfBits_char (b : Byte) :
    byteOfBits [b.getLsbD 0, b.getLsbD 1, b.getLsbD 2, b.getLsbD 3, b.getLsbD 4, b.getLsbD 5, b.getLsbD 6, b.getLsbD 7] = b := by
  refine Eq.trans ?_ (bits_getLsbD b)
  unfold byteOfBits bits
  refine congrArg (BitVec.ofNat 8) ?_
  simp only [List.foldr_cons, List.foldr_nil]
  omega

theorem Reception.bits_append (n : Nat) (r : Reception) (l m : List Bool) :
    Reception.bits n r (l ++ m) = Reception.bits n (Reception.bits n r l) m := List.foldl_append

theorem Reception.bits_char {n : Nat} {bytes : List Byte} (hroom : bytes.length < n) (pause : Nat) (b : Byte) :
    Reception.bits n ⟨bytes, none, false⟩ (List.replicate pause true ++ charBits b) = ⟨bytes ++ [b], none, false⟩ := by
  have hchar := Reception.bits_stop hroom
    [b.getLsbD 0, b.getLsbD 1, b.getLsbD 2, b.getLsbD 3, b.getLsbD 4, b.getLsbD 5, b.getLsbD 6, b.getLsbD 7] rfl true
  rw [byteOfBits_char] at hchar
  rw [Reception.bits_append, Reception.bits_pause hroom]
  exact hchar

/-- Characters with pauses before them, as a response brings them on the line. -/
def pausedChars (pauses : List Nat) (bytes : List Byte) : List Bool :=
  (pauses.zip bytes).flatMap fun x => List.replicate x.1 true ++ charBits x.2

/-- Whole characters are received one after another. -/
theorem Reception.bits_chars {n : Nat} (pauses : List Nat) (bytes before : List Byte) (hlength : pauses.length = bytes.length)
    (hroom : before.length + bytes.length ≤ n) :
    Reception.bits n ⟨before, none, false⟩ (pausedChars pauses bytes) = ⟨before ++ bytes, none, false⟩ := by
  induction bytes generalizing pauses before with
  | nil =>
    obtain rfl : pauses = [] := List.eq_nil_of_length_eq_zero hlength
    simp [pausedChars, Reception.bits]
  | cons b bytes ih =>
    cases pauses with
    | nil => simp at hlength
    | cons p pauses =>
      rw [List.length_cons] at hroom
      have hsplit : pausedChars (p :: pauses) (b :: bytes) =
          (List.replicate p true ++ charBits b) ++ pausedChars pauses bytes := rfl
      rw [hsplit, Reception.bits_append, Reception.bits_char (by omega),
        ih pauses (before ++ [b]) (by simpa using hlength) (by simp; omega)]
      simp

/-! ## How an exchange ends by the levels heard -/

/-- A STATUS exchange whose header has read back as sent follows its response. -/
theorem Exchange.outcome_status {e : Exchange} (hset : e.slot.isSet = false)
    (hmatch : firstMismatch e.ownBits e.heard = none) : e.outcome = e.received := by
  unfold Exchange.outcome
  rw [hmatch]
  exact if_neg (by simp [hset])

/-- What a STATUS exchange has received of levels that follow its header within the limit. -/
theorem Exchange.reception_append {p : Slot} {d : List Byte} {own rest : List Bool} (hown : own.length = 36)
    (hlimit : (own ++ rest).length ≤ p.limitTicks) :
    Exchange.reception ⟨p, d, own ++ rest⟩ = Reception.bits (p.dataBytes + 1) ⟨[], none, false⟩ rest := by
  unfold Exchange.reception
  dsimp only
  have hdrop : List.drop headerTicks (own ++ rest) = rest := List.drop_left' hown
  rw [List.take_of_length_le hlimit, hdrop]

/-- Before its own bits are all heard as meant, an exchange has not ended. -/
theorem Exchange.outcome_open {p : Slot} {d : List Byte} {heard own : List Bool} (hown : Exchange.ownBits ⟨p, d, heard⟩ = own)
    (hshort : heard.length < own.length) (hmeant : heard = own.take heard.length) :
    Exchange.outcome ⟨p, d, heard⟩ = none := by
  have hmatch : firstMismatch (Exchange.ownBits ⟨p, d, heard⟩) heard = none := by
    rw [hown, hmeant]
    exact firstMismatch_take own _
  cases hset : p.isSet with
  | true =>
    unfold Exchange.outcome
    dsimp only
    rw [hmatch]
    dsimp only
    rw [if_pos hset, hown, if_neg (by omega)]
  | false =>
    have hheader : heard.length < 36 := by
      have h36 : own.length = 36 := hown ▸ Exchange.ownBits_status (e := ⟨p, d, heard⟩) hset
      omega
    have hlimit : heard.length < p.limitTicks := by
      unfold Slot.limitTicks headerTicks
      omega
    rw [Exchange.outcome_status hset hmatch]
    have hreception : Exchange.reception ⟨p, d, heard⟩ = ⟨[], none, false⟩ := by
      unfold Exchange.reception
      rw [List.drop_eq_nil_of_le (by rw [List.length_take]; exact (min_le_right _ _).trans hheader.le)]
      rfl
    unfold Exchange.received
    rw [hreception]
    dsimp only
    rw [if_neg (by simp), if_neg (by simp), if_neg (not_le.2 hlimit)]

/-- A SET exchange ends as sent when its last own bit has been heard as meant, and not before. -/
theorem Exchange.outcome_set {e : Exchange} (hset : e.slot.isSet = true) :
    (e.heard = e.ownBits → e.outcome = some .sent) ∧
      (e.heard.length < e.ownBits.length → e.outcome ≠ some .sent) := by
  unfold Exchange.outcome
  refine ⟨fun h => ?_, fun h => ?_⟩
  · have hmatch : firstMismatch e.ownBits e.heard = none := by
      rw [h]
      have := firstMismatch_append e.ownBits []
      rwa [List.append_nil] at this
    rw [hmatch]
    dsimp only
    rw [if_pos hset, if_pos (congrArg List.length h).ge]
  · split
    · split
      · simp
      · split <;> simp
    · rw [if_pos hset, if_neg (by omega)]
      simp

/-! ## Levels that a command brings -/

section Levels

variable {s : State} {e : Exchange} {heard : List Bool} {ends : Exchange → ExchangeEnd → State → Option State}
  (hexchange : s.bus.exchange = some e)
include hexchange

theorem levels_of_early_or_late (h : heard.length < s.bus.slotFor ∨ s.bus.slotFor + 1 < heard.length) :
    levels heard ends s = s := by
  have hnow : ¬s.bus.upToNow heard = true := by
    rw [upToNow_iff]
    unfold Ticks at *
    omega
  unfold levels
  rw [hexchange]
  exact if_neg hnow

theorem levels_of_open (hlow : s.bus.slotFor ≤ heard.length) (hhigh : heard.length ≤ s.bus.slotFor + 1)
    (houtcome : Exchange.outcome { e with heard := heard } = none) :
    levels heard ends s = { s with bus := { s.bus with exchange := some { e with heard := heard } } } := by
  unfold levels
  rw [hexchange]
  dsimp only
  rw [if_pos ((upToNow_iff _ _).2 ⟨hlow, hhigh⟩), houtcome]
  rfl

theorem levels_of_ended {x : ExchangeEnd} {t : State} (hlow : s.bus.slotFor ≤ heard.length)
    (hhigh : heard.length ≤ s.bus.slotFor + 1) (houtcome : Exchange.outcome { e with heard := heard } = some x)
    (hends : ends { e with heard := heard } x s = some t) : levels heard ends s = t := by
  unfold levels
  rw [hexchange]
  dsimp only
  rw [if_pos ((upToNow_iff _ _).2 ⟨hlow, hhigh⟩), houtcome, Option.bind_some, hends]
  rfl

end Levels

/-! ## The schedule (R172, R179, R180) -/

theorem exec_slotBoundary {s : State} (hmode : s.bus.mode ≠ .stopped) (hdue : 383 ≤ s.bus.slotFor) :
    exec .slotBoundary s = .next (finish (slotBoundary s)) :=
  congrArg Host.Outcome.next (if_pos ((Bus.boundaryDue_iff _).2 ⟨hmode, by unfold Ticks at *; omega⟩))

theorem slotBoundary_of_none {s : State} {p : Slot} (hposition : s.bus.position = some p) (hdeferred : s.bus.deferred = .none) :
    (s.bus.mode = .active → slotBoundary s = beginSlot p.next s) ∧
      (s.bus.mode = .fault → slotBoundary s = skipSlot p.next s) := by
  unfold slotBoundary Bus.nextSlot
  rw [hdeferred, hposition]
  exact ⟨fun h => by rw [h], fun h => by rw [h]⟩

/-- A failure at a unit that is not ABSENT, as the unit table holds it. -/
theorem failUnit_bus_counted {u : BusUnit} {s : State} (h : (s.bus.unit.get u).state ≠ .absent) (k : ErrorKind) :
    (failUnit u k s).bus = { s.bus with unit := s.bus.unit.set u ((s.bus.unit.get u).fail k) } := by
  unfold failUnit
  rw [if_neg h]
  dsimp only
  split
  · unfold unitLostEffect
    split
    · exact (inverterLost_arc _).bus
    · rfl
    · rfl
  · rfl

theorem failUnit_absent {u : BusUnit} {s : State} (h : (s.bus.unit.get u).state = .absent) (k : ErrorKind) :
    failUnit u k s = s := if_pos h

/-- The slot that FAULT skips: the schedule goes on, and its unit is charged with a failure unless ABSENT. -/
theorem skipSlot_bus (p : Slot) (s : State) :
    ∃ units, (skipSlot p s).bus = { s.bus with position := some p, slotFor := 0, exchange := none, unit := units } ∧
      (∀ u, u ≠ p.unit ∨ (s.bus.unit.get u).state = .absent → units.get u = s.bus.unit.get u) ∧
      ∀ u, u = p.unit → (s.bus.unit.get u).state ≠ .absent → units.get u = (s.bus.unit.get u).fail .line := by
  unfold skipSlot
  by_cases h : (s.bus.unit.get p.unit).state = .absent
  · rw [failUnit_absent (s := { s with bus := { s.bus with position := some p, slotFor := 0, exchange := none } }) h]
    refine ⟨s.bus.unit, rfl, fun _ _ => rfl, fun u hu hpresent => ?_⟩
    exact absurd (hu ▸ h) hpresent
  · rw [failUnit_bus_counted (s := { s with bus := { s.bus with position := some p, slotFor := 0, exchange := none } }) h]
    refine ⟨_, rfl, fun u hu => ?_, fun u hu _ => ?_⟩
    · rcases hu with hu | hu
      · exact PerUnit.get_set_other _ hu _
      · exact PerUnit.get_set_other _ (fun hp => h (by rw [← hp]; exact hu)) _
    · rw [hu]
      exact PerUnit.get_set_self _ _ _

/-- With its mode and unit table: the deferred stop, alone or with the opening after it. -/
theorem slotBoundary_deferred (s : State) :
    (s.bus.deferred = .stop → slotBoundary s = stopBus s) ∧
      (s.bus.deferred = .stopThenOpen → slotBoundary s = enterActive (stopBus s)) := by
  unfold slotBoundary
  refine ⟨fun h => ?_, fun h => ?_⟩
  · rw [h]
  · rw [h]
    exact askOpening_of_stopped rfl

/-! ## The end of a SET exchange (R169) -/

theorem exec_setExchangeSuccess {s : State} {e : Exchange} (h : s.bus.exchange = some e) :
    exec .setExchangeSuccess s =
      .next (if (e.advance s.bus.slotFor).outcome = some .sent then endExchange (setSucceeds e s) else s) := by
  show Host.Outcome.next _ = _
  rw [h]

theorem Exchange.advance_now {e : Exchange} {slotFor : Ticks} (h : e.heard.length = slotFor) :
    e.advance slotFor = { e with heard := e.heard ++ [(e.ownBits[slotFor]?).getD true] } := by
  unfold Exchange.advance Exchange.quietLevel
  rw [if_pos h.le, h]

/-- Advanced by its last own bit a SET exchange is sent; earlier it is not. -/
theorem Exchange.advance_sent {e : Exchange} {slotFor : Ticks} (hset : e.slot.isSet = true) (hnow : e.heard.length = slotFor) :
    (e.heard ++ [true] = e.ownBits → (e.advance slotFor).outcome = some .sent) ∧
      (e.heard.length + 1 < e.ownBits.length → (e.advance slotFor).outcome ≠ some .sent) := by
  have hadvance := Exchange.advance_now hnow
  refine ⟨fun h => ?_, fun h => ?_⟩
  · have hlast : (e.ownBits[slotFor]?).getD true = true := by
      rw [← h, ← hnow, List.getElem?_concat_length]
      rfl
    rw [hlast, h] at hadvance
    rw [hadvance]
    exact (Exchange.outcome_set (e := { e with heard := e.ownBits }) hset).1 rfl
  · rw [hadvance]
    refine (Exchange.outcome_set (e := { e with heard := e.heard ++ [(e.ownBits[slotFor]?).getD true] }) hset).2 ?_
    rw [List.length_append]
    exact h

/-! ## The FAULT check (R179) -/

theorem exec_faultCheckExpiry {s : State} {line : List Bool} {x : Ticks} (hmode : s.bus.mode = .fault)
    (hlength : line.length = 10) (htimer : s.bus.checkTimer = some x) :
    exec (.faultCheckExpiry line) s =
      .next
        (if 9600 ≤ x + 1 then finish (faultCheck { s with bus := { s.bus with line := line } })
        else { s with bus := { s.bus with line := line } }) := by
  have hdue : s.bus.checkDue = true ↔ 9600 ≤ x + 1 := by
    rw [Bus.checkDue_iff]
    simp [hmode, htimer]
  exact congrArg Host.Outcome.next ((if_pos (by simp [hmode, hlength, lineBits])).trans (if_congr hdue rfl rfl))

theorem Bus.lineHigh_eq {b : Bus} (h : b.line.length = 10) : b.lineHigh = true ↔ false ∉ b.line := by
  unfold Bus.lineHigh
  simp only [h, lineBits, decide_true, Bool.true_and, List.all_eq_true, id]
  exact ⟨fun hall hmem => absurd (hall false hmem) (by simp), fun hmem l hl => by cases l <;> simp_all⟩

/-- Settles O58: the bits, the tick, the boundary in its modes, the SET exchange, the levels heard, and the FAULT check. -/
theorem busSlots : Obligations.BusSlots := by
  intro s
  refine ⟨fun e char bytes hchar hbytes => ?_, fun e hmode hexchange hnow => ?_,
    fun p hdue hposition hdeferred => ⟨fun hmode => ?_, fun hmode => ?_⟩,
    fun hdue hmode => ⟨fun hdeferred => ?_, fun hdeferred => ?_⟩, ⟨rfl, fun h => if_pos h, fun h => if_neg h⟩,
    fun e hexchange hset hnow => ?_, fun e heard hexchange => ⟨fun h => ?_, fun hlow hhigh hshort hmeant => ?_⟩,
    fun line h => ?_, fun line x hmode hlength htimer => ?_⟩
  · have hchar' : char = charBits := hchar
    have hbytes' : bytes = e.bytes := hbytes.trans e.bytes_eq.symm
    rw [hchar', hbytes']
    rfl
  · have hadvance := Exchange.advance_now hnow
    refine ⟨?_, fun hslot => ?_⟩
    · show (if s.bus.mode = .stopped then s.bus.exchange else s.bus.exchange.map (Exchange.advance s.bus.slotFor)) = _
      rw [if_neg hmode, hexchange, Option.map_some, hadvance]
    · show (if s.bus.mode = .stopped then s.bus.slotFor else countUp slotTicks s.bus.slotFor) = _
      rw [if_neg hmode]
      exact if_neg (by simpa [dueUp, slotTicks] using hslot)
  · rw [exec_slotBoundary (by rw [hmode]; simp) hdue, (slotBoundary_of_none hposition hdeferred).1 hmode]
    rfl
  · obtain ⟨units, hskip, hother, hown⟩ := skipSlot_bus p.next s
    refine ⟨_, exec_slotBoundary (by rw [hmode]; simp) hdue, ?_⟩
    rw [finish_bus, (slotBoundary_of_none hposition hdeferred).2 hmode, hskip]
    exact ⟨hmode, rfl, rfl, rfl, hother, hown⟩
  · refine ⟨_, exec_slotBoundary (by rw [hmode]; simp) hdue, ?_⟩
    rw [finish_bus, (slotBoundary_deferred s).1 hdeferred]
    exact ⟨rfl, rfl, rfl, rfl, rfl⟩
  · refine ⟨_, exec_slotBoundary (by rw [hmode]; simp) hdue, ?_⟩
    rw [finish_bus, (slotBoundary_deferred s).2 hdeferred]
    exact ⟨rfl, rfl, rfl, rfl, rfl⟩
  · obtain ⟨hsent, hearly⟩ := Exchange.advance_sent hset hnow
    rw [exec_setExchangeSuccess hexchange]
    refine ⟨fun h => ?_, fun h => by rw [if_neg (hearly h)]⟩
    rw [if_pos (hsent h)]
    unfold setSucceeds
    refine ⟨fun hslot => ?_, fun hdeferred => ?_, fun hslot hdeferred => ?_⟩
    · rw [if_neg (by simp [hslot])]
      rfl
    · rw [if_neg (by simp [hdeferred])]
      rfl
    · by_cases hdata : e.data = s.setData .s3
      · rw [if_pos (by simp [hslot, hdata, hdeferred]), decide_eq_true hdata, Bool.or_true]
        rfl
      · rw [if_neg (by simp [hdata]), decide_eq_false hdata, Bool.or_false]
        rfl
  · exact ⟨congrArg Host.Outcome.next (levels_of_early_or_late hexchange h),
      congrArg Host.Outcome.next (levels_of_early_or_late hexchange h),
      congrArg Host.Outcome.next (levels_of_early_or_late hexchange h)⟩
  · have hopen : Exchange.outcome { e with heard := heard } = none := Exchange.outcome_open rfl hshort hmeant
    exact ⟨congrArg Host.Outcome.next (levels_of_open hexchange hlow hhigh hopen),
      congrArg Host.Outcome.next (levels_of_open hexchange hlow hhigh hopen),
      congrArg Host.Outcome.next (levels_of_open hexchange hlow hhigh hopen)⟩
  · refine congrArg Host.Outcome.next (if_neg ?_)
    unfold lineBits
    rcases h with h | h <;> simp [h]
  · rw [exec_faultCheckExpiry hmode hlength htimer]
    have hhigh : Bus.lineHigh { s.bus with line := line } = true ↔ false ∉ line := Bus.lineHigh_eq hlength
    unfold faultCheck
    refine ⟨fun h => by rw [if_neg (not_le.2 h)], fun h hlow => ?_, fun h hline => ?_⟩
    · rw [if_pos h, if_neg (fun hmem => hhigh.1 hmem hlow)]
    · rw [if_pos h, if_pos (hhigh.2 (by rw [hline]; simp))]
      rfl

end Sys2Proof.Machine
end

section
/-!
PROOFS. How a STATUS exchange ends by its levels, and what a failed exchange brings (statement O60).
-/
namespace Sys2Proof.Machine

/-! ## The end of an exchange by its levels (R167, R170, R173) -/

theorem Exchange.outcome_line {e : Exchange} {i : Nat} (h : firstMismatch e.ownBits e.heard = some i) (hi : i < 16) :
    e.outcome = some (.failed .line) := by
  unfold Exchange.outcome
  rw [h]
  exact if_pos hi

theorem Exchange.outcome_echo {e : Exchange} {i : Nat} (h : firstMismatch e.ownBits e.heard = some i) (hi : 16 ≤ i)
    (hend : 16 + 10 * ((i - 16) / 10 + 1) ≤ e.heard.length) : e.outcome = some (.failed .echo) := by
  unfold Exchange.outcome
  rw [h]
  exact (if_neg (by omega)).trans (if_pos hend)

section Response

variable {p : Slot} {d : List Byte} {own rest : List Bool} {r : Reception}
  (hown : Exchange.ownBits ⟨p, d, own ++ rest⟩ = own) (hset : p.isSet = false)
  (hlimit : (own ++ rest).length ≤ 36 + 20 + 16 * (p.dataBytes + 1))
  (hr : Reception.bits (p.dataBytes + 1) ⟨[], none, false⟩ rest = r)
include hown hset hlimit hr

/-- Once its header has read back as sent, a STATUS exchange is judged by the reception of what follows. -/
theorem Exchange.outcome_received :
    Exchange.outcome ⟨p, d, own ++ rest⟩ =
      if r.framing then some (.failed .framing)
      else if p.dataBytes < r.bytes.length then
        if responseGood p (r.bytes.take p.dataBytes) (r.bytes.getD p.dataBytes 0) then
          some (.response (r.bytes.take p.dataBytes))
        else some (.failed .check)
      else if p.limitTicks ≤ (own ++ rest).length then
        some (.failed (if r.bytes.isEmpty && r.char.isNone then .noResponse else .timeout))
      else none := by
  have hmatch : firstMismatch (Exchange.ownBits ⟨p, d, own ++ rest⟩) (own ++ rest) = none := by
    rw [hown]
    exact firstMismatch_append own rest
  have h36 : own.length = 36 := hown ▸ Exchange.ownBits_status (e := ⟨p, d, own ++ rest⟩) hset
  rw [Exchange.outcome_status (e := ⟨p, d, own ++ rest⟩) hset hmatch]
  unfold Exchange.received
  rw [Exchange.reception_append h36 hlimit, hr]

end Response

/-- A response is good with the check byte of its data and its values within their meaning (R171). -/
theorem responseGood_iff (p : Slot) (data : List Byte) (check : Byte) :
    responseGood p data check = true ↔
      check = data.foldl (fun a b => a ^^^ b) p.code ^^^ 0x5A ∧ (p = .s2 ∨ p = .s6 → u8At data 0 ≤ 3) ∧
        (p = .s4 → u8At data 0 ≤ 100 ∧ u8At data 1 ≤ 100) := by
  unfold responseGood checkByte
  cases p <;> simp

section Received

variable {p : Slot} {d : List Byte} {own : List Bool} (hset : p.isSet = false)
include hset

/-- A low stop bit. -/
theorem Exchange.outcome_framing {pauses : List Nat} {bytes : List Byte} {pause : Nat} {bits : List Bool}
    (hown : ∀ heard, Exchange.ownBits ⟨p, d, heard⟩ = own) (hpauses : pauses.length = bytes.length)
    (hbytes : bytes.length ≤ p.dataBytes) (hbits : bits.length = 8) {heard : List Bool}
    (hheard : heard = own ++ pausedChars pauses bytes ++ List.replicate pause true ++ [false] ++ bits ++ [false])
    (hlimit : heard.length ≤ 36 + 20 + 16 * (p.dataBytes + 1)) :
    Exchange.outcome ⟨p, d, heard⟩ = some (.failed .framing) := by
  have hroom : bytes.length < p.dataBytes + 1 := by omega
  have hsplit : heard = own ++ (pausedChars pauses bytes ++ (List.replicate pause true ++ (false :: bits ++ [false]))) := by
    simp [hheard]
  have hreceived : Reception.bits (p.dataBytes + 1) ⟨[], none, false⟩
      (pausedChars pauses bytes ++ (List.replicate pause true ++ (false :: bits ++ [false]))) = ⟨bytes, some bits, true⟩ := by
    rw [Reception.bits_append, Reception.bits_chars pauses bytes [] hpauses (by simpa using hroom.le), List.nil_append,
      Reception.bits_append, Reception.bits_pause hroom, Reception.bits_stop hroom bits hbits]
    rfl
  subst hsplit
  rw [Exchange.outcome_received (hown _) hset hlimit hreceived]
  rfl

/-- A response that is complete within the limit is good, or fails its check. -/
theorem Exchange.outcome_complete {pauses : List Nat} {data : List Byte} {check : Byte}
    (hown : ∀ heard, Exchange.ownBits ⟨p, d, heard⟩ = own) (hpauses : pauses.length = data.length + 1)
    (hdata : data.length = p.dataBytes) {heard : List Bool} (hheard : heard = own ++ pausedChars pauses (data ++ [check]))
    (hlimit : heard.length ≤ 36 + 20 + 16 * (p.dataBytes + 1)) :
    Exchange.outcome ⟨p, d, heard⟩ =
      some (if responseGood p data check then .response data else .failed .check) := by
  have hreceived : Reception.bits (p.dataBytes + 1) ⟨[], none, false⟩ (pausedChars pauses (data ++ [check])) =
      ⟨data ++ [check], none, false⟩ :=
    Reception.bits_chars pauses (data ++ [check]) [] (by simpa using hpauses) (by simp [hdata])
  subst hheard
  rw [Exchange.outcome_received (hown _) hset hlimit hreceived]
  dsimp only
  rw [if_neg (by simp), if_pos (by simp [hdata]), ← hdata, List.take_left, List.getD_append_right _ _ _ _ le_rfl,
    Nat.sub_self]
  exact (apply_ite some _ _ _).symm

/-- The limit, with no response begun or with one begun and incomplete. -/
theorem Exchange.outcome_limit {pauses : List Nat} {bytes : List Byte} {pause : Nat} {bits : List Bool}
    (hown : ∀ heard, Exchange.ownBits ⟨p, d, heard⟩ = own) (hpauses : pauses.length = bytes.length)
    (hbytes : bytes.length ≤ p.dataBytes) (hbits : bits = [] ∨ ∃ more, bits = false :: more ∧ more.length ≤ 8)
    {heard : List Bool} (hheard : heard = own ++ pausedChars pauses bytes ++ List.replicate pause true ++ bits)
    (hlimit : heard.length = 36 + 20 + 16 * (p.dataBytes + 1)) :
    Exchange.outcome ⟨p, d, heard⟩ =
      some (.failed (if bytes = [] ∧ bits = [] then .noResponse else .timeout)) := by
  have hroom : bytes.length < p.dataBytes + 1 := by omega
  have hsplit : heard = own ++ (pausedChars pauses bytes ++ (List.replicate pause true ++ bits)) := by
    simp [hheard]
  have hreceived : ∃ char, (char = none ↔ bits = []) ∧ Reception.bits (p.dataBytes + 1) ⟨[], none, false⟩
      (pausedChars pauses bytes ++ (List.replicate pause true ++ bits)) = ⟨bytes, char, false⟩ := by
    rw [Reception.bits_append, Reception.bits_chars pauses bytes [] hpauses (by simpa using hroom.le), List.nil_append,
      Reception.bits_append, Reception.bits_pause hroom]
    rcases hbits with rfl | ⟨more, rfl, hmore⟩
    · exact ⟨none, by simp, rfl⟩
    · exact ⟨some more, by simp, Reception.bits_start hroom more hmore⟩
  obtain ⟨char, hchar, hreceived⟩ := hreceived
  subst hsplit
  rw [Exchange.outcome_received (hown _) hset hlimit.le hreceived]
  have hreached : p.limitTicks ≤ (own ++ (pausedChars pauses bytes ++ (List.replicate pause true ++ bits))).length :=
    hlimit.ge
  dsimp only
  rw [if_neg (by simp), if_neg (by omega), if_pos hreached]
  have hnone : (bytes.isEmpty && char.isNone) = true ↔ bytes = [] ∧ bits = [] := by
    rw [Bool.and_eq_true, List.isEmpty_iff, Option.isNone_iff_eq_none, hchar]
  exact congrArg (fun k => some (ExchangeEnd.failed k)) (if_congr hnone rfl rfl)

end Received

/-! ## The commands of a failure (R173, R174) -/

section Commands

variable {s : State} {e : Exchange} {heard : List Bool} {k : ErrorKind} (hexchange : s.bus.exchange = some e)
  (hlow : s.bus.slotFor ≤ heard.length) (hhigh : heard.length ≤ s.bus.slotFor + 1)
  (houtcome : Exchange.outcome { e with heard := heard } = some (.failed k))
include hexchange hlow hhigh houtcome

theorem exec_exchangeFailure (hkind : k.beforeLimit = true) :
    exec (.exchangeFailure heard) s = .next (finish (failExchange { e with heard := heard } k s)) :=
  congrArg Host.Outcome.next (levels_of_ended hexchange hlow hhigh houtcome (if_pos hkind))

theorem exec_responseLimitExpiry (hkind : k.beforeLimit = false) :
    exec (.responseLimitExpiry heard) s = .next (finish (failExchange { e with heard := heard } k s)) :=
  congrArg Host.Outcome.next (levels_of_ended hexchange hlow hhigh houtcome (if_neg (by simp [hkind])))

end Commands

/-! ## A failure counted (R174, R175, R179) -/

theorem UnitRec.fail_record (r : UnitRec) (k : ErrorKind) :
    r.fail k =
      ⟨if 8 ≤ min 255 (r.failures + 1) ∨ r.state = .lost then .lost else .suspect, min 255 (r.failures + 1), k, r.payload⟩ := by
  unfold UnitRec.fail lostLimit
  dsimp only
  by_cases hcount : 8 ≤ min 255 (r.failures + 1)
  · rw [if_pos hcount, if_pos (.inl hcount)]
  · by_cases hlost : r.state = .lost
    · rw [if_neg hcount, if_pos hlost, if_pos (.inr hlost)]
    · rw [if_neg hcount, if_neg hlost, if_neg (not_or.2 ⟨hcount, hlost⟩)]

section Counted

variable {s : State} {e : Exchange} (hdeferred : s.bus.deferred = .none)
  (hpresent : (s.bus.unit.get e.slot.unit).state ≠ .absent) (k : ErrorKind)
include hdeferred

/-- Outside the bus a failure brings what the count brings. -/
theorem failExchange_counted :
    failExchange e k s = { failUnit e.slot.unit k (endExchange s) with bus := (failExchange e k s).bus } := by
  unfold failExchange
  rw [if_neg (by simp [hdeferred])]
  dsimp only
  split <;> rfl

include hpresent

theorem failExchange_bus :
    (failExchange e k s).bus =
      { s.bus with
        exchange := none
        unit := s.bus.unit.set e.slot.unit ((s.bus.unit.get e.slot.unit).fail k)
        mode := if k = .line then .fault else s.bus.mode
        checkTimer := if k = .line then some 0 else s.bus.checkTimer
        line := if k = .line then e.heard.drop (e.heard.length - 10) else s.bus.line } := by
  have hcount := failUnit_bus_counted (s := endExchange s) hpresent k
  unfold failExchange
  rw [if_neg (by simp [hdeferred])]
  by_cases hk : k = .line
  · simp only [hk, if_true] at hcount ⊢
    rw [hcount]
    rfl
  · simp only [hk, if_false] at hcount ⊢
    exact hcount

end Counted

/-- The eighth failure in a row loses the unit. -/
theorem failUnit_lost {u : BusUnit} {s : State} (hpresent : (s.bus.unit.get u).state ≠ .absent)
    (hlost : (s.bus.unit.get u).state ≠ .lost) (hcount : 8 ≤ min 255 ((s.bus.unit.get u).failures + 1)) (k : ErrorKind) :
    failUnit u k s = unitLostEffect u (s.mapUnit u fun r => r.fail k) := by
  unfold failUnit
  rw [if_neg hpresent]
  dsimp only
  refine if_pos ?_
  have hnow : ((s.mapUnit u fun r => r.fail k).bus.unit.get u).state = .lost := by
    rw [State.mapUnit_unit, PerUnit.get_set_self, UnitRec.fail_record]
    exact if_pos (.inl hcount)
  rw [hnow]
  simp [hlost]

/-! ## The loss of the inverter (R131) -/

/-- The compressor's record at the loss, available before it or not. -/
theorem inverterLost_comp (s : State) :
    (s.compAvailable = true →
      (inverterLost s).comp =
        { (dropCommand s).comp with state := .invLost, stopFor := 0, lastInv := none }) ∧
    (s.compAvailable = false →
      (inverterLost s).comp =
        { s.comp with
          stopFor := 0, lastInv := none, lossMark := s.comp.lossMark || decide (s.comp.state ≠ .invLost) }) := by
  unfold inverterLost
  refine ⟨fun h => by rw [if_pos h]; rfl, fun h => ?_⟩
  rw [if_neg (by simp [h])]
  by_cases hstate : s.comp.state = .invLost
  · rw [if_pos hstate]
    simp [State.setComp, hstate]
  · rw [if_neg hstate]
    simp [State.setComp, hstate]

/-- What follows an event that leaves the compressor unavailable: its record stands but for the target, which goes without a
run request (R115(c)). -/
theorem finish_comp_of_unavailable {s : State} (h : s.compAvailable = false) :
    (finish s).comp =
      { s.comp with
        target := if (finish s).runRequest then some (s.comp.target.getD s.settings.comp.nMin) else none } := by
  have hinit : (initEnd s).compAvailable = false := (compAvailable_of_comp (by rw [initEnd_eq])).trans h
  obtain ⟨hsettings, -, -, hcomp, -⟩ := between_spec s
  have hbetween : s.between.compAvailable = false :=
    (compAvailable_of_comp hcomp).trans ((settle_available _).trans hinit)
  have hno : (settle s.between).compAvailable = false := (settle_available _).trans hbetween
  have hstands := settle_between_unavailable hno
  rw [finish_comp, finish_runRequest]
  have hset : (settle s.between).settings = s.settings := (settle_arc _).settings.trans hsettings
  have hshown : (settle s.between).shownTarget =
      if (settle s.between).runRequest then
        some ((settle s.between).comp.target.getD (settle s.between).settings.comp.nMin) else none := by
    obtain ⟨hrunning, hstopped⟩ := running_of_available hno
    unfold State.shownTarget
    split
    · exact absurd ‹_› hrunning
    · exact absurd ‹_› hstopped
    · rfl
  rw [hshown, hstands, hset]

/-- In SERVICE the run request is the service speed's, after an event too. -/
theorem finish_runRequest_service {s : State} (h : s.mode.opState = .service) (hspeed : s.comp.serviceSpeed ≠ 0) :
    (finish s).runRequest = true := by
  have hmode : (finish s).mode.opState = .service := by
    rw [finish_mode_outside (by rw [h]; simp) (initEnd_of_not_init (by rw [h]; simp))]
    exact h
  obtain ⟨-, -, -, -, hkeeps⟩ := finish_sameRecord s
  unfold State.runRequest
  rw [hmode, hkeeps]
  simpa using hspeed

/-- What the loss of the inverter has left after the event. -/
theorem finish_inverterLost {s x : State} (hcomp : x.comp = (inverterLost s).comp) (hmode : x.mode = s.mode)
    (hsettings : x.settings = s.settings) :
    (finish x).comp.lastInv = none ∧ (finish x).comp.stopFor = 0 ∧
      (finish x).comp.command = (if s.compAvailable then 0 else s.comp.command) ∧
      (s.compAvailable = true → (finish x).comp.state = .invLost) ∧
      (s.comp.state = .running → s.mode.opState = .service → s.comp.serviceSpeed ≠ 0 →
        (finish x).comp.target = some (s.comp.target.getD s.settings.comp.nMin)) ∧
      (s.compAvailable = true → (finish x).runRequest = false → (finish x).comp.target = none) ∧
      (s.comp.state = .faultHold ∨ s.comp.state = .lockout →
        (finish x).comp.state = s.comp.state ∧ (finish x).comp.lossMark = true) := by
  obtain ⟨hlost, helse⟩ := inverterLost_comp s
  rw [← hcomp] at hlost helse
  have hgone : x.compAvailable = false := by
    cases hav : s.compAvailable with
    | true => exact compAvailable_of_fault (.inr (.inr (by rw [hlost hav])))
    | false =>
      obtain ⟨hrunning, hstopped⟩ := running_of_available hav
      unfold State.compAvailable
      rw [helse hav]
      simp [hrunning, hstopped]
  have hrequest := finish_runRequest_service (s := x)
  rw [finish_comp_of_unavailable hgone]
  generalize (finish x).runRequest = request at *
  refine ⟨?_, ?_, ?_, fun hav => ?_, fun hrunning hservice hspeed => ?_, fun _ hno => ?_, fun hfault => ?_⟩
  · cases hav : s.compAvailable with
    | true => rw [hlost hav]
    | false => rw [helse hav]
  · cases hav : s.compAvailable with
    | true => rw [hlost hav]
    | false => rw [helse hav]
  · cases hav : s.compAvailable with
    | true => rw [hlost hav]; rfl
    | false => rw [helse hav]; rfl
  · rw [hlost hav]
  · have hav : s.compAvailable = true := by simp [State.compAvailable, hrunning]
    rw [hrequest (by rw [hmode]; exact hservice) (by rw [hlost hav]; exact hspeed), hlost hav, hsettings]
    rfl
  · rw [hno]
    rfl
  · have hav : s.compAvailable = false := compAvailable_of_fault (by rcases hfault with h | h <;> simp [h])
    rw [helse hav]
    refine ⟨rfl, ?_⟩
    rcases hfault with h | h <;> simp [h]

/-- Settles O60: the levels give the failure, the count its entry, and the eighth in a row the loss. -/
theorem failedExchange : Obligations.FailedExchange := by
  intro s e c k hexchange chars limit hchars hlimit hcase
  obtain ⟨heard, hexec, hheard⟩ : ∃ heard, exec c s = .next (finish (failExchange { e with heard := heard } k s)) ∧
      ∀ h, c = .exchangeFailure h → h = heard := by
    have hchars' : chars = pausedChars := hchars
    subst hchars' hlimit
    rcases hcase with ⟨heard, rfl, hlow, hhigh, hkind⟩ | ⟨heard, rfl, hset, hlow, hhigh, hlength, pauses, bytes, pause, bits,
      hpauses, hbytes, hbits, hlevels, hk⟩
    · refine ⟨heard, ?_, fun h hh => by injection hh with hh; exact hh.symm⟩
      rcases hkind with ⟨i, own, hi, hbefore, hown, hwrong, rfl⟩ | ⟨i, own, hi, hbefore, hown, hwrong, hend, rfl⟩ |
        ⟨hset, hlength, ⟨pauses, bytes, pause, bits, hpauses, hbytes, hbits, hlevels, rfl⟩ |
          ⟨pauses, data, check, hpauses, hdata, hbad, hlevels, rfl⟩⟩
      · exact exec_exchangeFailure hexchange hlow hhigh
          (Exchange.outcome_line (e := { e with heard := heard }) (firstMismatch_eq_some hbefore hown hwrong) hi) rfl
      · exact exec_exchangeFailure hexchange hlow hhigh
          (Exchange.outcome_echo (e := { e with heard := heard }) (firstMismatch_eq_some hbefore hown hwrong) hi hend) rfl
      · exact exec_exchangeFailure hexchange hlow hhigh
          (Exchange.outcome_framing hset (fun _ => rfl) hpauses hbytes hbits hlevels hlength) rfl
      · have hnot : ¬responseGood e.slot data check = true := by
          rw [responseGood_iff]
          rintro ⟨hgood, hinverter, hdamper⟩
          rcases hbad with h | ⟨hslot, h⟩ | ⟨hslot, h⟩
          · exact h hgood
          · have := hinverter hslot
            omega
          · have := hdamper hslot
            omega
        have houtcome := Exchange.outcome_complete hset (d := e.data) (own := e.ownBits) (fun _ => rfl) hpauses hdata hlevels
          hlength
        rw [if_neg hnot] at houtcome
        exact exec_exchangeFailure hexchange hlow hhigh houtcome rfl
    · refine ⟨heard, ?_, nofun⟩
      have houtcome := Exchange.outcome_limit hset (d := e.data) (own := e.ownBits) (fun _ => rfl) hpauses hbytes hbits hlevels
        hlength
      rw [← hk] at houtcome
      refine exec_responseLimitExpiry hexchange hlow hhigh houtcome ?_
      rw [hk]
      split <;> rfl
  rw [hexec]
  generalize he : ({ e with heard := heard } : Exchange) = e'
  have hslot : e'.slot = e.slot := by rw [← he]
  refine ⟨fun hdeferred => ?_, fun hdeferred hpresent => ⟨_, rfl, ?_⟩⟩
  · unfold failExchange
    rw [if_pos hdeferred]
    rfl
  · rw [← hslot] at hpresent ⊢
    have hbus := failExchange_bus (e := e') hdeferred hpresent k
    have hcounted := failExchange_counted (e := e') hdeferred k
    have hfinish := finish_bus (failExchange e' k s)
    have hsame := finish_sameZone (failExchange e' k s)
    rw [hbus] at hfinish
    rw [hfinish]
    refine ⟨rfl, rfl, rfl, fun hk => ⟨if_pos hk, if_pos hk, fun h hc => (if_pos hk).trans ?_⟩,
      fun hk => ⟨if_neg hk, if_neg hk, if_neg hk⟩, fun u hu => PerUnit.get_set_other _ hu _, fun u r n hu hr hn => ?_⟩
    · rw [hheard h hc, ← he]
    · subst hu hr hn
      refine ⟨(PerUnit.get_set_self _ _ _).trans (UnitRec.fail_record _ _), fun hlost hcount => ?_⟩
      have hloss := failUnit_lost (s := endExchange s) hpresent hlost hcount k
      rw [hloss] at hcounted
      have hentry : ((finish (failExchange e' k s)).bus.unit.get e'.slot.unit).state = .lost := by
        rw [hfinish, PerUnit.get_set_self, UnitRec.fail_record]
        exact if_pos (.inl hcount)
      refine ⟨fun hu => ?_, fun hu => ?_, fun hu => ?_⟩
      · rw [hu] at hcounted
        have hcomp : (failExchange e' k s).comp =
            (inverterLost ((endExchange s).mapUnit .inverter fun r => r.fail k)).comp := by rw [hcounted]; rfl
        have harc := inverterLost_arc ((endExchange s).mapUnit .inverter fun r => r.fail k)
        have hloses := finish_inverterLost hcomp (by rw [hcounted]; exact harc.mode) (by rw [hcounted]; exact harc.settings)
        exact hloses
      · rw [hu] at hentry
        exact ⟨decide_eq_false (not_not.2 hentry), decide_eq_false (not_not.2 hentry)⟩
      · rw [hu] at hcounted
        refine (hsame .ice).holdHarvest.trans ?_
        rw [hcounted]
        rfl

end Sys2Proof.Machine
end

section
/-!
PROOFS. The refutation of the statement about a STATUS exchange that succeeds (statement O59): a compressor that returns from
INV_LOST into a RUNOUT, with an Nmin of 0. Its start commands 0, so the second pass ends the RUNOUT (R80), and with min-on not
met the compressor runs on without a run request, where the statement has it STOPPED.
-/
namespace Sys2Proof.Machine

/-- INV_LOST in RUN with a RUNOUT and a command left over, min-off elapsed and an Nmin of 0; slot 2's response is due. -/
def runoutReturn : State :=
  { State.reset with
    mode := { State.reset.mode with opState := .run }
    settings :=
      { State.reset.settings with comp := { State.reset.settings.comp with nMin := 0, minOn := 1, minOff := 1 } }
    arb := { State.reset.arb with idle := some .runout }
    comp := { State.reset.comp with state := .invLost, command := 50, stopFor := 9600 }
    bus :=
      { State.reset.bus with mode := .active, position := some .s2, slotFor := 96, exchange := some ⟨.s2, [], []⟩ } }

/-- INV_STATUS with the inverter RUNNING. -/
def runningStatus : List Byte := [2, 0, 0, 0, 0]

/-- The response of the inverter, without pauses. -/
def runningResponse : List Bool :=
  Exchange.ownBits ⟨.s2, [], []⟩ ++ pausedChars [0, 0, 0, 0, 0, 0] (runningStatus ++ [checkByte 0x32 runningStatus])

/-- The state that the response's payload leaves, before what follows the event. -/
def runoutReturned : State := responseEnds ⟨.s2, [], runningResponse⟩ runningStatus runoutReturn

theorem runningResponse_length : runningResponse.length = 96 := by decide

theorem exec_runoutReturn :
    exec (.statusExchangeSuccess runningResponse) runoutReturn = .next (finish runoutReturned) := by
  have hgood : responseGood .s2 runningStatus (checkByte 0x32 runningStatus) = true := by decide
  have houtcome := Exchange.outcome_complete (p := .s2) (d := []) (own := Exchange.ownBits ⟨.s2, [], []⟩)
    (pauses := [0, 0, 0, 0, 0, 0]) (data := runningStatus) (check := checkByte 0x32 runningStatus) rfl (fun _ => rfl) rfl rfl
    (heard := runningResponse) rfl (by rw [runningResponse_length]; decide)
  rw [if_pos hgood] at houtcome
  refine congrArg Host.Outcome.next (levels_of_ended (e := ⟨.s2, [], []⟩) rfl ?_ ?_ houtcome rfl) <;>
    rw [runningResponse_length] <;> decide

/-- After the event the compressor runs without a run request. -/
theorem finish_runoutReturned :
    (finish runoutReturned).runRequest = false ∧ (finish runoutReturned).comp.state = .running := by decide

/-- Refutes O59: with an Nmin of 0 a return from INV_LOST into a RUNOUT leaves the compressor RUNNING without a run request. -/
theorem not_statusExchange : ¬ Obligations.StatusExchange := by
  intro h
  obtain ⟨-, hcounted⟩ := h runoutReturn ⟨.s2, [], []⟩ runningStatus (checkByte 0x32 runningStatus) rfl rfl rfl rfl
    (fun _ => by decide) nofun [0, 0, 0, 0, 0, 0] runningResponse _ rfl rfl (by rw [runningResponse_length]; decide)
    (by rw [runningResponse_length]; decide) (by rw [runningResponse_length]; decide) _ _ rfl rfl rfl
  obtain ⟨-, -, -, -, hinverter⟩ := hcounted rfl
  obtain ⟨t, hexec, -, -, -, -, -, -, -, hreturn, -⟩ := hinverter _ (.inl rfl) rfl (by decide)
  have ht : finish runoutReturned = t := Host.Outcome.next.inj (exec_runoutReturn.symm.trans hexec)
  subst ht
  obtain ⟨hrequest, hrunning⟩ := finish_runoutReturned
  obtain ⟨hstopped, -⟩ := (hreturn (by decide) rfl).1 (.inr hrequest)
  rw [hrunning] at hstopped
  cases hstopped

end Sys2Proof.Machine
end
